-- ==== Sys2Proof/Word.lean ====
section
/-! DEFINITION. The words the ports and the audio links carry, the names of the numbered things (channels, zones,
stations, groups, arrangements, ports), and the fixed-size table in which State holds one record for each of them. -/

namespace Sys2Proof

/-- One byte of a control port (R172). -/
abbrev Byte := BitVec 8

/-- One 24-bit sample of the audio links and of delay memory (R10, R82). -/
abbrev Sample := BitVec 24

/-- Microphone channel Mn, held as n − 1; socket n belongs to it (manual, Names). -/
abbrev Channel := Fin 16
/-- Zone Zj, held as j − 1. -/
abbrev Zone := Fin 24
/-- Station Sk, held as k − 1. -/
abbrev Station := Fin 32
/-- Service group Gg, held as g − 1. -/
abbrev Group := Fin 6
/-- Arrangement k, held as k − 1. -/
abbrev Arrangement := Fin 4
/-- Ramp profile Pk, held as k − 1. -/
abbrev Profile := Fin 4
/-- Contact input Kk, held as k − 1. -/
abbrev ContactIn := Fin 8
/-- Contact output Qk, held as k − 1. -/
abbrev ContactOut := Fin 4

/-- The three control ports (manual, Names). -/
inductive Port where
  | A | B | C
deriving DecidableEq, Repr

/-- A table of exactly `n` records, one for each number of a numbered thing. It is a list with its length, so it is
plain data and can be written out, and the kernel evaluates it. -/
structure Table (n : Nat) (α : Type) where
  /-- the records, the lowest number first -/
  cells : List α
  /-- there are exactly `n` of them -/
  size : cells.length = n
deriving DecidableEq, Repr

namespace Table
variable {n : Nat} {α β : Type}

/-- The record of number `i`. -/
def get (t : Table n α) (i : Fin n) : α := t.cells[i.val]'(t.size.symm ▸ i.isLt)

/-- The table with the record of number `i` replaced. -/
def set (t : Table n α) (i : Fin n) (a : α) : Table n α := ⟨t.cells.set i a, by simp [t.size]⟩

/-- The table whose record of number `i` is `f i`. -/
def ofFn (f : Fin n → α) : Table n α := ⟨List.ofFn f, List.length_ofFn⟩

/-- Every record replaced by a function of its number and itself. -/
def map (f : Fin n → α → β) (t : Table n α) : Table n β := ofFn fun i => f i (t.get i)

/-- The record of number `i` replaced by a function of itself. -/
def modify (t : Table n α) (i : Fin n) (f : α → α) : Table n α := t.set i (f (t.get i))

@[simp] theorem get_ofFn (f : Fin n → α) (i : Fin n) : (ofFn f).get i = f i := by
  simp [get, ofFn]

@[simp] theorem get_map (f : Fin n → α → β) (t : Table n α) (i : Fin n) :
    (t.map f).get i = f i (t.get i) := by
  simp [map]

@[simp] theorem get_set_self (t : Table n α) (i : Fin n) (a : α) : (t.set i a).get i = a := by
  simp [get, set]

theorem get_set_other (t : Table n α) {i j : Fin n} (a : α) (h : i ≠ j) :
    (t.set i a).get j = t.get j := by
  have : (i : Nat) ≠ j := fun e => h (Fin.ext e)
  simp [get, set, this]

theorem get_set (t : Table n α) (i j : Fin n) (a : α) :
    (t.set i a).get j = if i = j then a else t.get j := by
  by_cases h : i = j
  · subst h; simp
  · simp [h, get_set_other]

@[simp] theorem get_modify_self (t : Table n α) (i : Fin n) (f : α → α) :
    (t.modify i f).get i = f (t.get i) := by
  simp [modify]

theorem get_modify_other (t : Table n α) {i j : Fin n} (f : α → α) (h : i ≠ j) :
    (t.modify i f).get j = t.get j := by
  simp [modify, get_set_other _ _ h]

/-- Two tables with the same records are the same table. -/
theorem ext_get {s t : Table n α} (h : ∀ i, s.get i = t.get i) : s = t := by
  rcases s with ⟨a, ha⟩
  rcases t with ⟨b, hb⟩
  have : a = b := by
    apply List.ext_getElem (by rw [ha, hb])
    intro i h1 h2
    have := h ⟨i, ha ▸ h1⟩
    simpa [get] using this
  subst this
  rfl

@[simp] theorem set_get_self (t : Table n α) (i : Fin n) : t.set i (t.get i) = t := by
  apply ext_get
  intro j
  by_cases h : i = j
  · subst h; simp
  · simp [get_set_other _ _ h]

end Table

/-- One record for each control port. -/
structure ByPort (α : Type) where
  /-- port A's -/
  a : α
  /-- port B's -/
  b : α
  /-- port C's -/
  c : α
deriving DecidableEq, Repr

namespace ByPort
variable {α β : Type}

/-- The record of a port. -/
def get (t : ByPort α) : Port → α
  | .A => t.a
  | .B => t.b
  | .C => t.c

/-- The record of one port replaced. -/
def set (t : ByPort α) (p : Port) (x : α) : ByPort α :=
  match p with
  | .A => { t with a := x }
  | .B => { t with b := x }
  | .C => { t with c := x }

/-- Every port's record replaced by a function of the port and itself. -/
def map (f : Port → α → β) (t : ByPort α) : ByPort β := ⟨f .A t.a, f .B t.b, f .C t.c⟩

@[simp] theorem get_set_self (t : ByPort α) (p : Port) (x : α) : (t.set p x).get p = x := by
  cases p <;> rfl

theorem get_set_other (t : ByPort α) {p q : Port} (x : α) (h : p ≠ q) :
    (t.set p x).get q = t.get q := by
  cases p <;> cases q <;> first | rfl | exact absurd rfl h

@[simp] theorem get_map (f : Port → α → β) (t : ByPort α) (p : Port) :
    (t.map f).get p = f p (t.get p) := by
  cases p <;> rfl

end ByPort

end Sys2Proof
end

