-- ==== Sys2Proof/Config.lean ====
section
/-! DEFINITION. What an implementation fixes: the counts and times of the manual, and the free values, which the manual
leaves open and no proof can see. -/

namespace Sys2Proof.Config

/-- Output samples in one millisecond of the sample clock (48,000 samples per second). -/
abbrev samplesPerMs : Nat := 48
/-- Cells of delay memory (R9, R11). -/
abbrev delayCells : Nat := 262144
/-- Units of 256 samples in delay memory (R7, R12). -/
abbrev delayUnits : Nat := 1024
/-- Samples in one unit of a window (R7). -/
abbrev unitSamples : Nat := 256
/-- Samples in one detector block (R82). -/
abbrev blockSamples : Nat := 480
/-- Presence debounce of a socket, 50 ms (R129). -/
abbrev presenceDebounce : Nat := 50 * samplesPerMs
/-- Sensing of a device, 100 ms (R130). -/
abbrev sensingTime : Nat := 100 * samplesPerMs
/-- Phantom ramp, 200 ms (R132). -/
abbrev phantomRampTime : Nat := 200 * samplesPerMs
/-- Phantom voltage at the end of a ramp, in volts (R132). -/
abbrev phantomVolts : Nat := 48
/-- Sensing current, in microamperes (R130). -/
abbrev sensingMicroamps : Nat := 100
/-- Phantom current that an overcurrent exceeds, in microamperes (R133). -/
abbrev overcurrentMicroamps : Nat := 12000
/-- How long a current above that lasts to be an overcurrent, 5 ms (R133). -/
abbrev overcurrentTime : Nat := 5 * samplesPerMs
/-- Debounce of the life-safety line, 50 ms (R149). -/
abbrev lineDebounce : Nat := 50 * samplesPerMs
/-- Inter-byte timer of a request handler, 20 ms (R176). -/
abbrev interByteTime : Nat := 20 * samplesPerMs
/-- Attention pulse, 1 ms (R195). -/
abbrev pulseTime : Nat := samplesPerMs
/-- Interval without a valid edge that is a gap, 1 ms (R159). -/
abbrev gapTime : Nat := samplesPerMs
/-- Length of a qualification run, 100 ms (R161). -/
abbrev qualificationTime : Nat := 100 * samplesPerMs
/-- Shortest valid word clock period in nanoseconds, 19.8 µs (R159). -/
abbrev edgeMinNs : Nat := 19800
/-- Longest valid word clock period in nanoseconds, 21.9 µs (R159). -/
abbrev edgeMaxNs : Nat := 21900
/-- The 10 ms over which the locked frequency is taken, in samples of the running sample clock (R159). -/
abbrev frequencyWindow : Nat := 10 * samplesPerMs
/-- Fade length at a CLOCK or STANDBY event, in samples (R74). -/
abbrev clockFade : Nat := 240
/-- Loop current from which the life-safety line is asserted, in microamperes (R149). -/
abbrev lineThresholdMicroamps : Nat := 5000

/-- FREE VALUE (log 3). What a tap at a delay at or beyond its channel's window reads. R9 gives taps for delays 0 to
W − 1 only, and R70 says that no sounding crosspoint has such a delay. -/
opaque tapBeyondWindow : Nat → Sample

/-- FREE VALUE (log 4). nom(N) for an open count N above 8. R32 gives the table for 0 to 8, and R110 says that no group's
open count is larger. -/
opaque nomBeyondTable : Nat → Nat

/-- FREE VALUE (log 36). The sensing current in microamperes at a socket, by its number and the time its sensing has left,
that was SENSING when the part was held. R168 says what a held part leaves off and does not name this current. -/
opaque heldSensingMicroamps : Nat → Nat → Nat

end Sys2Proof.Config
end

