-- ==== Sys2Proof/Syntax.lean ====
section
/-! DEFINITION. The commands: one constructor of `Instr` for each row of spec/opcode_table.json, with its operands.

A request carries the port it comes on and the bytes of its frame's body as section 10.8 lays them out (for a
WRITE_ENTRY row, the index and the bytes of the entry, after the table number that the row names). An event carries the
number of the thing it happens at, and what the outside world brings with it. -/

namespace Sys2Proof

/-- What a port's receiver takes from the line (R172): a byte, or a character with a framing error, which carries no
value. -/
inductive RxChar where
  | byte (b : Byte)
  | framingError
deriving DecidableEq, Repr

/-- One reading of a socket's sensing (R130). -/
structure Resistances where
  /-- path from the pair's common mode to the shield, in ohms; none where there is no path -/
  commonMode : Option Nat
  /-- resistance between the legs, in ohms; none where they are open -/
  legs : Option Nat
deriving DecidableEq, Repr

/-- The readings of the last 10 ms of a socket's sensing (R130): the last of them, and those before it, earliest first. -/
structure SenseReading where
  earlier : List Resistances
  last : Resistances
deriving DecidableEq, Repr

/-- A phantom current that has flowed at a socket (R133, log 21). -/
structure PhantomCurrent where
  /-- the socket's channel -/
  socket : Channel
  /-- the current, in microamperes -/
  microamps : Nat
  /-- how long it has lasted, in samples -/
  lasted : Nat
deriving DecidableEq, Repr

/-- The commands of the part: one constructor per row of spec/opcode_table.json. -/
inductive Instr where
  -- requests on the tables (R183, R184)
  | readEntry (p : Port) (body : List Byte)
  | writeEntryStation (p : Port) (index : BitVec 16) (entry : List Byte)
  | writeEntryZone (p : Port) (index : BitVec 16) (entry : List Byte)
  | writeEntryChannel (p : Port) (index : BitVec 16) (entry : List Byte)
  | writeEntryGroup (p : Port) (index : BitVec 16) (entry : List Byte)
  | writeEntryMembership (p : Port) (index : BitVec 16) (entry : List Byte)
  | writeEntryProfile (p : Port) (index : BitVec 16) (entry : List Byte)
  | writeEntryContactIn (p : Port) (index : BitVec 16) (entry : List Byte)
  | writeEntryContactOut (p : Port) (index : BitVec 16) (entry : List Byte)
  | writeEntryPortRouting (p : Port) (index : BitVec 16) (entry : List Byte)
  | writeEntrySystem (p : Port) (index : BitVec 16) (entry : List Byte)
  | writeEntryReadOnly (p : Port) (body : List Byte)
  -- the other requests
  | moveSource (p : Port) (body : List Byte)
  | setGateMode (p : Port) (body : List Byte)
  | setTemperature (p : Port) (body : List Byte)
  | selectArrangement (p : Port) (body : List Byte)
  | holdGroup (p : Port) (body : List Byte)
  | releaseGroup (p : Port) (body : List Byte)
  | breakHold (p : Port) (body : List Byte)
  | zoneMute (p : Port) (body : List Byte)
  | setSocketPowerOn (p : Port) (body : List Byte)
  | setSocketPowerOff (p : Port) (body : List Byte)
  | resenseSocket (p : Port) (body : List Byte)
  | readEvents (p : Port) (body : List Byte)
  | clearEvents (p : Port) (body : List Byte)
  | forceEvents (p : Port) (body : List Byte)
  | resumeAfterOverride (p : Port) (body : List Byte)
  | rearmOutputs (p : Port) (body : List Byte)
  | freezeGeometry (p : Port) (body : List Byte)
  | standby (p : Port) (body : List Byte)
  | wake (p : Port) (body : List Byte)
  | resetRuntime (p : Port) (body : List Byte)
  -- the resets
  | runtimeReset (p : Port)
  | powerOnReset
  -- the line
  | unknownRequest (p : Port) (kind : Byte) (body : List Byte)
  | badCheck (p : Port) (frame : List Byte)
  | frameAbandoned (p : Port) (c : RxChar)
  | interByteTimeout (p : Port)
  | byteDuringService (p : Port)
  | responseEnd (p : Port)
  -- the alignment engine
  | itemStart
  | channelItemComplete (n : Channel)
  | allItemComplete
  | groupItemComplete (g : Group)
  -- fades
  | rampEnd (n : Channel) (j : Zone)
  | crossfadeEnd (n : Channel) (j : Zone)
  -- gating
  | measurementComplete (n : Channel)
  | holdCountdownEnd (n : Channel)
  -- sockets
  | insertion (n : Channel)
  | sensingEnd (n : Channel) (r : SenseReading)
  | phantomRampEnd (n : Channel)
  | overcurrent (x : PhantomCurrent)
  | removal (n : Channel)
  -- the life-safety line
  | overrideAssertion
  | overrideDeassertion
  -- the word clock
  | wordClockEdge (periodNs : Nat)
  | qualificationComplete
  | clockGap
  -- contacts and attention lines
  | contactChange (k : ContactIn)
  | pulseEnd (p : Port)
  -- the audio links
  | outputSample
  | inputSample (slots : Table 17 Sample)
  -- the line, byte by byte, and the raw pins
  | byteReceived (p : Port) (c : RxChar)
  | heldInReset
  | rawPresenceChange (n : Channel) (closed : Bool)
  | rawLineChange (microamps : Nat)
  | rawContactChange (k : ContactIn) (closed : Bool)
deriving DecidableEq, Repr

end Sys2Proof
end

