-- ==== Sys2Proof/Decode.lean ====
section
/-! DEFINITION. Decoding by the table's bits. spec/opcode_table.json gives no row any bit: a command of this part is a frame
on a port or an event, not a word. -/

namespace Sys2Proof

/-- The command that a word spells by the bits of spec/opcode_table.json: no row has any, so no word spells one (log 18). -/
def decodeTableWord (_nbits _w : Nat) : Option Instr := none

end Sys2Proof
end

