-- ==== Sys2Proof/Machine/Blocks.lean ====
section
/-! DEFINITION. The records that the part's blocks own (the manual's block overview), each with the values it holds as
delivered or after a reset. `Machine/State.lean` puts them together. -/

namespace Sys2Proof.Machine

/-! ### Retained settings (R185): the entries of tables 1 to 10 and the active arrangement number -/

/-- A surveyed position; a coordinate field is two bytes (manual section 1.1). -/
structure Point where
  x : BitVec 16
  y : BitVec 16
  z : BitVec 16
deriving DecidableEq, Repr

/-- The point whose three coordinates are 0. -/
def Point.origin : Point := ⟨0, 0, 0⟩

/-- A station record (R1). -/
structure StationRec where
  position : Point
  /-- 8 characters of codes 32 to 126 -/
  name : Table 8 Byte
deriving DecidableEq, Repr

/-- A station record as delivered (R1): at the origin, named by 8 spaces. -/
def StationRec.delivered : StationRec := ⟨.origin, .ofFn fun _ => 32⟩

/-- The static part of a zone record (R4). -/
structure ZoneRec where
  speaker : Point
  listening : Point
  /-- precedence offset, 0 to 1,440 samples -/
  precedence : Nat
  /-- near radius, 0 to 10,000 cm -/
  nearRadius : Nat
  /-- guard radius, 0 to 5,000 cm -/
  guardRadius : Nat
  /-- 0 to 60 steps -/
  trim : Nat
  profile : Profile
  /-- override member -/
  member : Bool
deriving DecidableEq, Repr

/-- A zone record as delivered (R4). -/
def ZoneRec.delivered : ZoneRec := ⟨.origin, .origin, 480, 0, 0, 0, 1, false⟩

/-- The three gate modes (R84, R92). -/
inductive GateMode where
  | auto | forceOpen | forceClosed
deriving DecidableEq, Repr

/-- The retained entry of a channel (R7, R84, R139). -/
structure ChannelRec where
  /-- window start, in units of 256 samples -/
  start : Nat
  /-- window length, in units of 256 samples -/
  length : Nat
  home : Option Station
  /-- open threshold T, 20 to 140 steps below full scale -/
  threshold : Nat
  /-- hold time H, 10 to 500 units of 10 ms -/
  holdTime : Nat
  defaultMode : GateMode
  autoPower : Bool
deriving DecidableEq, Repr

/-- The entry of channel Mn as delivered (R7, R84, R139). -/
def ChannelRec.delivered (n : Channel) : ChannelRec := ⟨n.val * 64, 64, none, 90, 50, .auto, true⟩

/-- W, the window length in samples (R7). -/
def ChannelRec.windowSamples (c : ChannelRec) : Nat := c.length * Config.unitSamples

/-- The first cell of the window (R7). -/
def ChannelRec.firstCell (c : ChannelRec) : Nat := c.start * Config.unitSamples

/-- A group record (R102). -/
structure GroupRec where
  enabled : Bool
  /-- master attenuation, 0 to 60 steps -/
  master : Nat
  /-- max open, 1 to 8 channels -/
  maxOpen : Nat
  /-- last-channel hold -/
  lastHold : Bool
deriving DecidableEq, Repr

/-- The record of Gg as delivered (R102). -/
def GroupRec.delivered (g : Group) : GroupRec := ⟨g == 0, 0, 4, false⟩

/-- What a contact input does (R196). Bytes that an action does not use are not stored. -/
inductive ContactAction where
  | none
  | forceOpenWhile (n : Channel)
  | forceClosedWhile (n : Channel)
  | zoneMuteWhile (j : Zone)
  | move (n : Channel) (st : Option Station)
  | arrange (k : Arrangement)
deriving DecidableEq, Repr

/-- A contact input binding (R196). -/
structure ContactBinding where
  action : ContactAction
  /-- polarity: active open rather than active closed -/
  activeOpen : Bool
  /-- debounce, 10 to 500 ms -/
  debounceMs : Nat
deriving DecidableEq, Repr

/-- A contact input binding as delivered (R196). -/
def ContactBinding.delivered : ContactBinding := ⟨.none, false, 20⟩

/-- The debounce of a contact input in samples. -/
def ContactBinding.debounceSamples (b : ContactBinding) : Nat := b.debounceMs * Config.samplesPerMs

/-- The conditions a contact output can follow (R201). -/
inductive OutCondition where
  | none
  | groupLive (g : Group)
  | groupHeld (g : Group)
  | overrideActive
  | clockHoldover
  | socketFaultAny
deriving DecidableEq, Repr

/-- A contact output binding (R201). -/
structure OutBinding where
  condition : OutCondition
  inverted : Bool
deriving DecidableEq, Repr

/-- A contact output binding as delivered (R201). -/
def OutBinding.delivered : OutBinding := ⟨.none, false⟩

/-- A set of event kinds as the event mask of R189: bit k is the kind numbered k in R190. -/
abbrev EventMask := BitVec 24

/-- The nineteen event kinds, in the order of their bits (R190). -/
inductive EventKind where
  | restarted | gateOpened | gateClosed | openDenied | socketChange | liveRemoval | powerReady | powerRefused
  | powerFault | contactChange | clockLost | clockLocked | overrideChange | holdBroken | arrangementChanged
  | clamped | zoneClipped | queueIdle | portFault
deriving DecidableEq, Repr

/-- The bit of a kind in the event mask (R190). -/
def EventKind.bit : EventKind → Nat
  | .restarted => 0
  | .gateOpened => 1
  | .gateClosed => 2
  | .openDenied => 3
  | .socketChange => 4
  | .liveRemoval => 5
  | .powerReady => 6
  | .powerRefused => 7
  | .powerFault => 8
  | .contactChange => 9
  | .clockLost => 10
  | .clockLocked => 11
  | .overrideChange => 12
  | .holdBroken => 13
  | .arrangementChanged => 14
  | .clamped => 15
  | .zoneClipped => 16
  | .queueIdle => 17
  | .portFault => 18

/-- The mask of one kind. -/
def EventKind.mask (k : EventKind) : EventMask := BitVec.ofNat 24 (2 ^ k.bit)

/-- Bits 0 to 18, the bits that stand for a kind (R189, R190). -/
def EventMask.kinds : EventMask := 0x07FFFF#24

/-- The mode of a port's attention line (R193). -/
inductive LineMode where
  | level | pulse
deriving DecidableEq, Repr

/-- A port's routing entry (R193). -/
structure Routing where
  mask : EventMask
  mode : LineMode
deriving DecidableEq, Repr

/-- A routing entry as delivered (R193). -/
def Routing.delivered : Routing := ⟨0, .level⟩

/-- The retained fields of the SYSTEM entry (R154, R160). -/
structure SystemRec where
  /-- clock source EXTERNAL rather than INTERNAL -/
  external : Bool
  /-- auto-silence on clock loss -/
  autoSilence : Bool
  /-- override attenuation, 0 to 60 steps -/
  overrideAttenuation : Nat
deriving DecidableEq, Repr

/-- The SYSTEM entry as delivered (R154, R160). -/
def SystemRec.delivered : SystemRec := ⟨false, true, 0⟩

/-- The retained settings memory (R185). -/
structure Settings where
  stations : Table 32 StationRec
  zones : Table 24 ZoneRec
  channels : Table 16 ChannelRec
  /-- group records, by arrangement and group (R102) -/
  groups : Table 4 (Table 6 GroupRec)
  /-- zone memberships, by arrangement and zone (R103) -/
  zoneGroups : Table 4 (Table 24 (Option Group))
  /-- channel memberships, by arrangement and channel (R103) -/
  channelGroups : Table 4 (Table 16 (Option Group))
  /-- fade lengths in samples (R72) -/
  profiles : Table 4 Nat
  contactIn : Table 8 ContactBinding
  contactOut : Table 4 OutBinding
  routing : ByPort Routing
  system : SystemRec
  /-- the active arrangement (R103) -/
  active : Arrangement
deriving DecidableEq, Repr

/-- Fade length of Pk as delivered (R72). -/
def deliveredProfile (k : Profile) : Nat :=
  if k = 0 then 480 else if k = 1 then 2400 else if k = 2 then 4800 else 9600

/-- The retained settings as delivered (R185 and the rules it names). -/
def Settings.delivered : Settings where
  stations := .ofFn fun _ => .delivered
  zones := .ofFn fun _ => .delivered
  channels := .ofFn .delivered
  groups := .ofFn fun _ => .ofFn .delivered
  zoneGroups := .ofFn fun _ => .ofFn fun _ => some 0
  channelGroups := .ofFn fun _ => .ofFn fun _ => some 0
  profiles := .ofFn deliveredProfile
  contactIn := .ofFn fun _ => .delivered
  contactOut := .ofFn fun _ => .delivered
  routing := ⟨.delivered, .delivered, .delivered⟩
  system := .delivered
  active := 0

/-! ### Delay memory (R9, R10) -/

/-- Delay memory: the cells that do not hold silence, in rising order of their numbers, and each channel's write position
(R9, R10). An unlisted cell holds silence. -/
structure DelayMemory where
  cells : List (Nat × Sample)
  /-- each channel's write position, an offset within its window -/
  position : Table 16 Nat
deriving DecidableEq, Repr

/-- Delay memory after a power-on reset and a wake: every cell silent, every write position 0 (R10). -/
def DelayMemory.silent : DelayMemory := ⟨[], .ofFn fun _ => 0⟩

/-! ### The alignment engine (R41 to R47) -/

/-- A retune item (R41). -/
inductive Item where
  | channel (n : Channel)
  | group (g : Group)
  | all
deriving DecidableEq, Repr

/-- The inputs of a full computation that belong to the channel (R19, R47). -/
structure ChannelInputs where
  /-- coordinates of the current station, or none for no station -/
  station : Option Point
  /-- window length W in samples -/
  window : Nat
  /-- master attenuation of the channel's group, 0 for no group -/
  master : Nat
  /-- open count of that group, 0 for no group -/
  openCount : Nat
deriving DecidableEq, Repr

/-- The inputs of a level-only computation that belong to one channel of the group (R35, R47). -/
structure MemberInputs where
  channel : Channel
  hasStation : Bool
  /-- the stored proximity part and GUARDED flag of each of its crosspoints -/
  stored : Table 24 (Nat × Bool)
deriving DecidableEq, Repr

/-- The item in flight with the inputs it took at its start (R46, R47). -/
inductive Flight where
  | channel (n : Channel) (inputs : ChannelInputs) (zones : Table 24 ZoneRec) (temperature : Int)
  | group (g : Group) (members : List MemberInputs) (trims : Table 24 Nat) (master openCount : Nat)
  | all (inputs : Table 16 ChannelInputs) (zones : Table 24 ZoneRec) (temperature : Int)
deriving DecidableEq, Repr

/-- The item whose inputs these are. -/
def Flight.item : Flight → Item
  | .channel n _ _ _ => .channel n
  | .group g _ _ _ _ => .group g
  | .all _ _ _ => .all

/-- The alignment engine: COMPUTING while an item is in flight, IDLE otherwise (R46). -/
structure Engine where
  /-- the retune queue, oldest first (R42) -/
  queue : List Item
  flight : Option Flight
  /-- reported temperature, tenths (R38) -/
  reported : Int
  /-- temperature in use, tenths (R24) -/
  inUse : Int
  tempUnset : Bool
  /-- the ALIGNED flags (R55) -/
  aligned : Table 16 Bool
deriving DecidableEq, Repr

/-- The engine after a power-on reset (R58). -/
def Engine.powerOn : Engine := ⟨[.all], none, 150, 150, true, .ofFn fun _ => false⟩

/-! ### Crosspoints (R60, R61) -/

/-- The state of a crosspoint with the fields that are present in it (R60, R61). -/
inductive Phase where
  | silent
  /-- one tap, at a level equal to the effective target -/
  | steady (level : Nat)
  /-- one tap, its level moving; the fade's length and the samples left in it -/
  | ramping (level : Rat) (fadeLength remaining : Nat)
  /-- the incoming tap's level, the outgoing tap's delay and level, the pending delay if present, and the fade -/
  | crossfading (level : Rat) (oldDelay : Nat) (oldLevel : Rat) (pending : Option Nat) (fadeLength remaining : Nat)
deriving DecidableEq, Repr

/-- A crosspoint record (R60). A level of `none` is off. -/
structure Crosspoint where
  phase : Phase
  activeDelay : Nat
  computedDelay : Nat
  computedLevel : Option Nat
  proximity : Nat
  clampedLow : Bool
  clampedHigh : Bool
  guarded : Bool
  /-- effective target level -/
  target : Option Nat
deriving DecidableEq, Repr

/-- A crosspoint after either reset (R76). -/
def Crosspoint.reset : Crosspoint := ⟨.silent, 0, 0, none, 0, false, false, false, none⟩

/-! ### Gates and groups (R82 to R127) -/

/-- The five states of a gate machine (R86). -/
inductive GateState where
  | parked | closed | opened | holding | lastOn
deriving DecidableEq, Repr

/-- A level detector (R82, R83): the block in progress, and a completed block whose measurement its gate machine has not
yet acted on. -/
structure Detector where
  /-- sum of the squares of the samples of the block in progress -/
  sum : Nat
  /-- samples of the block in progress -/
  count : Nat
  /-- sum of the squares of a completed block -/
  done : Option Nat
deriving DecidableEq, Repr

/-- A detector with a new block begun. -/
def Detector.fresh : Detector := ⟨0, 0, none⟩

/-- What the channel gate unit holds for one channel (chapter 5). -/
structure Gate where
  state : GateState
  holdCounter : Nat
  /-- port-set mode -/
  portMode : GateMode
  /-- effective mode (R92) -/
  mode : GateMode
  /-- current station (R99) -/
  station : Option Station
  /-- latest measurement (R83) -/
  latest : Nat
  detector : Detector
deriving DecidableEq, Repr

/-- A gate after either reset, before its effective mode is re-evaluated (R101). -/
def Gate.reset (c : ChannelRec) : Gate := ⟨.parked, 0, c.defaultMode, c.defaultMode, c.home, 240, .fresh⟩

/-- The entry kind of a member (R110). -/
inductive EntryKind where
  | auto | forced
deriving DecidableEq, Repr

/-- A member record of an open set (R110). -/
structure Member where
  channel : Channel
  kind : EntryKind
  latest : Nat
deriving DecidableEq, Repr

/-- What the group arbiter holds for one group at runtime (R110, R115, R122). -/
structure GroupState where
  holder : Option Port
  /-- the open set, earliest entered first -/
  members : List Member
  /-- the forced-wait list, earliest joined first -/
  waiting : List Channel
deriving DecidableEq, Repr

/-- A group after either reset (R127). -/
def GroupState.reset : GroupState := ⟨none, [], []⟩

/-! ### Sockets (R128) -/

/-- What a sensing can find (R128, R130). -/
inductive SocketClass where
  | condenser | dynamic | lineReceiver | unknown
deriving DecidableEq, Repr

/-- The state of a socket with what belongs to it (R128): a class only in PRESENT, since RAMPING, POWERED and FAULT are
states of a CONDENSER alone; the samples left of a sensing or a ramp. -/
inductive SocketPhase where
  | empty
  | sensing (remaining : Nat)
  | present (cls : SocketClass)
  | ramping (remaining : Nat)
  | powered
  | fault
deriving DecidableEq, Repr

/-- A socket record (R128, R129). The auto power field is in the channel's entry. -/
structure Socket where
  phase : SocketPhase
  /-- power wish -/
  wish : Bool
  /-- auto power suppressed -/
  suppressed : Bool
  /-- debounced presence -/
  presence : Bool
  /-- raw level of the presence contact: closed -/
  raw : Bool
  /-- samples left of the debounce in progress -/
  debounce : Option Nat
deriving DecidableEq, Repr

/-- A socket after a power-on reset with its contact at a raw level (R129, R143). -/
def Socket.powerOn (raw : Bool) : Socket := ⟨.empty, false, false, false, raw, some Config.presenceDebounce⟩

/-! ### Zones and the override (R144 to R158) -/

/-- The runtime record of a zone (R144): its set of silencing causes, one Bool for each, and its override-taken flag. -/
structure ZoneState where
  requestMute : Bool
  contactMute : Bool
  clock : Bool
  standby : Bool
  overrideLatch : Bool
  taken : Bool
deriving DecidableEq, Repr

/-- A zone after a power-on reset (R158). -/
def ZoneState.powerOn : ZoneState := ⟨false, false, false, false, false, false⟩

/-- The three states of the override monitor (R150 to R153). -/
inductive OverrideState where
  | idle | active | latched
deriving DecidableEq, Repr

/-- The override monitor and its line (R149). -/
structure Override where
  state : OverrideState
  /-- raw level of the line: asserted -/
  raw : Bool
  /-- debounced level: asserted -/
  debounced : Bool
  /-- samples left of the debounce in progress -/
  debounce : Option Nat
deriving DecidableEq, Repr

/-- The override monitor after a power-on reset with its line at a raw level (R149, R158). -/
def Override.powerOn (raw : Bool) : Override := ⟨.idle, raw, false, some Config.lineDebounce⟩

/-! ### The clock monitor (R159 to R163) -/

/-- The four states of the clock monitor (R161 to R163). -/
inductive ClockState where
  | internal | locking | locked | holdover
deriving DecidableEq, Repr

/-- What the sample clock runs from (R159). -/
inductive ClockReference where
  /-- the internal reference at 48,000 samples per second -/
  | nominal
  /-- the word clock, its missing edges bridged at the locked frequency -/
  | wordClock
  /-- the internal reference at a mean frequency: a number of edges in a number of nanoseconds -/
  | mean (edges nanoseconds : Nat)
deriving DecidableEq, Repr

/-- A valid edge of the word clock (R159): its period in nanoseconds, and how long ago it came, in samples of the sample
clock as it has been running. -/
structure Edge where
  period : Nat
  age : Nat
deriving DecidableEq, Repr

/-- The clock monitor (R159, R161). -/
structure Clock where
  state : ClockState
  /-- an edge has been seen since watching began, so that the next has a period -/
  edgeSeen : Bool
  /-- the valid edges of the 10 ms that end at the last of them, newest first -/
  edges : List Edge
  /-- samples left until 1 ms has passed since the last valid edge -/
  gap : Option Nat
  /-- samples left of the qualification run in progress -/
  run : Option Nat
  reference : ClockReference
deriving DecidableEq, Repr

/-- The clock monitor when it starts in a state on the internal reference with nothing watched yet (R160, R170). -/
def Clock.start (st : ClockState) : Clock := ⟨st, false, [], none, none, .nominal⟩

/-- The clock monitor after a power-on reset (R170). -/
def Clock.powerOn (external : Bool) : Clock := .start (if external then .locking else .internal)

/-! ### Request handlers (R175) and events (R190) -/

/-- The status codes of the port chapter's formats. -/
inductive Status where
  | ok | okClamped | badCheck | badLength | unknownRequest | badTable | badIndex | badValue | readOnly | frozen
  | heldElsewhere | notHolder | notHeld | windowOverlap | windowBusy | overrideActive | groupFull | powerRefused
  | notPresent | clockNotReady | inStandby
deriving DecidableEq, Repr

/-- A response (R173): the kind echo, the status and the body. -/
structure Response where
  kindEcho : Byte
  status : Status
  body : List Byte
deriving DecidableEq, Repr

/-- The state of a request handler with what it holds in it (R175). -/
inductive Handler where
  | idle
  /-- the partial frame after its sync byte, the length first, and the samples left of the inter-byte timer -/
  | receiving (partialFrame : List Byte) (timer : Nat)
  /-- the request in hand: its kind and its body -/
  | serving (kind : Byte) (body : List Byte)
  /-- the response being sent; whether a runtime reset is performed when it ends (R169) -/
  | responding (response : Response) (resetAfter : Bool)
deriving DecidableEq, Repr

/-- What the event unit holds for one port: its sticky set, and the samples left of an attention pulse (R190, R195). -/
structure PortEvents where
  sticky : EventMask
  pulse : Option Nat
deriving DecidableEq, Repr

/-- A contact input at runtime (R197). -/
structure Contact where
  /-- raw level: closed -/
  raw : Bool
  /-- debounced level: closed -/
  debounced : Bool
  /-- samples left of the debounce in progress -/
  debounce : Option Nat
deriving DecidableEq, Repr

/-- A contact input after a power-on reset with its contact at a raw level: inactive, its debounce begun (R200). -/
def Contact.powerOn (b : ContactBinding) (raw : Bool) : Contact := ⟨raw, b.activeOpen, some b.debounceSamples⟩

/-- A port's sticky set and line at a reset (R190, R195): RESTARTED alone; in PULSE mode a port whose mask holds
RESTARTED receives a pulse. -/
def PortEvents.restart (r : Routing) (pulse : Option Nat) : PortEvents :=
  ⟨EventKind.restarted.mask,
    if r.mode = .pulse ∧ EventKind.restarted.mask &&& r.mask ≠ 0 then some Config.pulseTime else pulse⟩

end Sys2Proof.Machine
end

