-- ==== Sys2Proof/Machine/State.lean ====
section
/-! DEFINITION. The state of the part, the reasons a step can stop, and the state after reset. -/

namespace Sys2Proof.Machine

/-- The reasons a command can stop the part with a fault: there are none. Every command of the manual is answered, with
a status where it is a request, and every event either acts or is not due (log 1). -/
inductive Fault where
deriving DecidableEq, Repr

/-- The reasons a command can be refused. -/
inductive Refusal where
  /-- Raised by exec's arm for a command that has no meaning yet; no arm does. Safe: nothing is claimed of it. -/
  | notModelled (mnemonic : String)
deriving DecidableEq, Repr

/-- Everything the manual gives the part, block by block, and the queue of the commands that wait. -/
structure State where
  /-- THE MODEL'S: the commands waiting to be taken, the next first -/
  pending : List Instr
  /-- the part is held in a power-on reset (R168) -/
  held : Bool
  /-- retained settings memory (R185) -/
  settings : Settings
  /-- the geometry freeze (R15) -/
  frozen : Bool
  /-- delay memory and write positions (R9, R10) -/
  delay : DelayMemory
  /-- retune queue, item in flight, temperatures, ALIGNED flags (chapter 3) -/
  engine : Engine
  /-- the 384 crosspoints, by channel and zone (R60) -/
  crosspoints : Table 16 (Table 24 Crosspoint)
  /-- gates, detectors, current stations (chapter 5) -/
  gates : Table 16 Gate
  /-- holders, open sets, forced-wait lists (chapter 6) -/
  groups : Table 6 GroupState
  /-- sockets (chapter 7) -/
  sockets : Table 16 Socket
  /-- zone runtime records (R144) -/
  zones : Table 24 ZoneState
  /-- override monitor (R149) -/
  override : Override
  /-- clock monitor (R159) -/
  clock : Clock
  /-- standby state: STANDBY rather than AWAKE (R165) -/
  standby : Bool
  /-- request handlers (R175) -/
  ports : ByPort Handler
  /-- sticky sets and attention pulses (R190, R195) -/
  events : ByPort PortEvents
  /-- contact inputs (R197) -/
  contacts : Table 8 Contact
  /-- the announcement channel's sample, slot 17 of the input link (R147) -/
  announcement : Sample
  /-- the zone feeds last sent on the output link (R147) -/
  feeds : Table 24 Sample
deriving DecidableEq, Repr

/-- The part right after a power-on reset as delivered (R168 and the reset rules of each chapter), with every raw contact
open and the life-safety line deasserted (log 2), and no command waiting. -/
def State.reset : State where
  pending := []
  held := false
  settings := .delivered
  frozen := false
  delay := .silent
  engine := .powerOn
  crosspoints := .ofFn fun _ => .ofFn fun _ => .reset
  gates := .ofFn fun n => .reset (.delivered n)
  groups := .ofFn fun _ => .reset
  sockets := .ofFn fun _ => .powerOn false
  zones := .ofFn fun _ => .powerOn
  override := .powerOn false
  clock := .powerOn false
  standby := false
  ports := ⟨.idle, .idle, .idle⟩
  events := ⟨.restart .delivered none, .restart .delivered none, .restart .delivered none⟩
  contacts := .ofFn fun _ => .powerOn .delivered false
  announcement := 0
  feeds := .ofFn fun _ => 0

end Sys2Proof.Machine
end

