-- ==== Sys2Proof/Machine/Flags.lean ====
section
/-! DEFINITION. The conditions that the rules compute from the state: memberships and records of the active arrangement,
open counts, readiness, ineligibility causes, the live test, effective modes, and the pins that follow state. -/

namespace Sys2Proof.Machine

/-! ### The active arrangement (R102, R103) -/

/-- A channel's group in the active arrangement (R103). -/
def Settings.channelGroup (c : Settings) (n : Channel) : Option Group := (c.channelGroups.get c.active).get n

/-- A zone's group in the active arrangement (R103). -/
def Settings.zoneGroup (c : Settings) (j : Zone) : Option Group := (c.zoneGroups.get c.active).get j

/-- A group's record in the active arrangement (R102). -/
def Settings.groupRecord (c : Settings) (g : Group) : GroupRec := (c.groups.get c.active).get g

/-- The fade length of a zone's selected profile (R73). -/
def Settings.fadeLength (c : Settings) (j : Zone) : Nat := c.profiles.get (c.zones.get j).profile

/-- W, the window length of a channel in samples (R7). -/
def Settings.window (c : Settings) (n : Channel) : Nat := (c.channels.get n).windowSamples

/-! ### Open sets (R110, R111) -/

/-- A channel is a member of a group's open set. -/
def GroupState.holds (x : GroupState) (n : Channel) : Bool := x.members.any fun m => m.channel == n

/-- The open count N (R111). -/
def GroupState.openCount (x : GroupState) : Nat := x.members.length

/-- The number of FORCED members (R104). -/
def GroupState.forcedCount (x : GroupState) : Nat := (x.members.filter fun m => m.kind == .forced).length

/-- The group of whose open set the channel is a member, or none (R101). -/
def memberGroup (groups : Table 6 GroupState) (n : Channel) : Option Group :=
  (List.finRange 6).find? fun g => (groups.get g).holds n

/-- Some port other than `p` holds the group (R124). A channel or zone with no group is subject to no hold. -/
def heldElsewhere (groups : Table 6 GroupState) (p : Port) : Option Group → Bool
  | none => false
  | some g => match (groups.get g).holder with
    | none => false
    | some q => q != p

/-! ### Sockets (R128, R134) -/

/-- The sensed class of a socket, or none in EMPTY and SENSING (R128). -/
def SocketPhase.sensedClass : SocketPhase → Option SocketClass
  | .empty => none
  | .sensing _ => none
  | .present c => some c
  | .ramping _ => some .condenser
  | .powered => some .condenser
  | .fault => some .condenser

/-- A socket is ready (R134). -/
def SocketPhase.ready : SocketPhase → Bool
  | .powered => true
  | .present .dynamic => true
  | .present .lineReceiver => true
  | _ => false

/-- Phantom power is applied or rising (R128, R132). -/
def SocketPhase.phantomOn : SocketPhase → Bool
  | .ramping _ => true
  | .powered => true
  | _ => false

/-- The level of the phantom supply in volts (R132): in RAMPING the straight line from 0 V, which reaches 48 V as the time
left runs out; 48 V in POWERED; off in every other state. -/
def SocketPhase.volts : SocketPhase → Rat
  | .ramping remaining =>
    (Config.phantomVolts * (Config.phantomRampTime - remaining) : Nat) / (Config.phantomRampTime : Nat)
  | .powered => (Config.phantomVolts : Nat)
  | _ => 0

/-- A socket calls for power (R128): its class is CONDENSER, and its wish is on or its auto power is yes and not
suppressed. -/
def Socket.callsForPower (x : Socket) (autoPower : Bool) : Bool :=
  x.phase.sensedClass == some .condenser && (x.wish || (autoPower && !x.suppressed))

/-! ### Eligibility (R85) -/

/-- The set of ineligibility causes of a channel (R85), one Bool for each, in the order of their bits. -/
structure Causes where
  noGroup : Bool
  groupDisabled : Bool
  noStation : Bool
  noWindow : Bool
  socketNotReady : Bool
  standby : Bool
deriving DecidableEq, Repr

/-- The set is empty. -/
def Causes.empty (c : Causes) : Bool :=
  !(c.noGroup || c.groupDisabled || c.noStation || c.noWindow || c.socketNotReady || c.standby)

/-- The ineligibility causes of a channel as the state stands (R85). A channel with no group holds NO_GROUP alone and not
GROUP_DISABLED, which R85 leaves open (DEDUCED, log 30). -/
def State.causes (s : State) (n : Channel) : Causes where
  noGroup := (s.settings.channelGroup n).isNone
  groupDisabled := match s.settings.channelGroup n with
    | none => false
    | some g => !(s.settings.groupRecord g).enabled
  noStation := (s.gates.get n).station.isNone
  noWindow := (s.settings.channels.get n).length == 0
  socketNotReady := !(s.sockets.get n).phase.ready
  standby := s.standby

/-- A channel is eligible: it has no ineligibility cause (R85). -/
def State.eligible (s : State) (n : Channel) : Bool := (s.causes n).empty

/-! ### Zones and the live test (R62, R63, R144) -/

/-- A zone holds at least one silencing cause (R144). -/
def ZoneState.silenced (z : ZoneState) : Bool :=
  z.requestMute || z.contactMute || z.clock || z.standby || z.overrideLatch

/-- A zone is audible (R144). -/
def ZoneState.audible (z : ZoneState) : Bool := !z.silenced && !z.taken

/-- The live test of a crosspoint (R62). -/
def State.live (s : State) (n : Channel) (j : Zone) : Bool :=
  match s.settings.zoneGroup j with
  | none => false
  | some g => (s.groups.get g).holds n && !(s.zones.get j).silenced && !(s.zones.get j).taken && !s.standby

/-- The effective target level that R63 gives a crosspoint as the state stands. -/
def State.targetOf (s : State) (n : Channel) (j : Zone) (x : Crosspoint) : Option Nat :=
  if s.live n j then x.computedLevel else none

/-! ### Contacts and effective modes (R92, R197, R198) -/

/-- A contact input is active (R197): its debounced level is the one its polarity names. -/
def State.contactActive (s : State) (k : ContactIn) : Bool :=
  (s.contacts.get k).debounced != (s.settings.contactIn.get k).activeOpen

/-- At least one active contact input has the action (R198). -/
def State.anyActive (s : State) (a : ContactAction) : Bool :=
  (List.finRange 8).any fun k => s.contactActive k && (s.settings.contactIn.get k).action == a

/-- The mode that active contacts force on a channel, if any; FORCE_CLOSED prevails (R92). -/
def State.contactForce (s : State) (n : Channel) : Option GateMode :=
  if s.anyActive (.forceClosedWhile n) then some .forceClosed
  else if s.anyActive (.forceOpenWhile n) then some .forceOpen
  else none

/-- The effective mode that R92 gives a channel with a port-set mode. -/
def State.modeFrom (s : State) (n : Channel) (portMode : GateMode) : GateMode :=
  (s.contactForce n).getD portMode

/-! ### Pins that follow state

Each of these pins is by its rule a function of the state; it is computed here and held nowhere else. -/

/-- The attention line of a port is asserted (R193 to R195); every line is released while the part is held (R168). -/
def State.attentionLine (s : State) (p : Port) : Bool :=
  !s.held && match (s.settings.routing.get p).mode with
    | .level => (s.events.get p).sticky &&& (s.settings.routing.get p).mask != 0
    | .pulse => (s.events.get p).pulse.isSome

/-- The condition of a contact output is true (R201). -/
def State.conditionTrue (s : State) : OutCondition → Bool
  | .none => false
  | .groupLive g => (s.groups.get g).openCount != 0
  | .groupHeld g => (s.groups.get g).holder.isSome
  | .overrideActive => s.override.state != .idle
  | .clockHoldover => s.clock.state == .holdover
  | .socketFaultAny => (List.finRange 16).any fun n => (s.sockets.get n).phase == .fault

/-- The relay of a contact output is closed (R201); every relay is open while the part is held (R168). -/
def State.relayClosed (s : State) (q : ContactOut) : Bool :=
  !s.held && (s.conditionTrue (s.settings.contactOut.get q).condition != (s.settings.contactOut.get q).inverted)

/-- Phantom power stands at a socket (R132); it is off at every socket while the part is held (R168). -/
def State.phantom (s : State) (n : Channel) : Bool := !s.held && (s.sockets.get n).phase.phantomOn

/-- The level of the phantom supply at a socket, in volts (R132); off at every socket while the part is held (R168). -/
def State.phantomVolts (s : State) (n : Channel) : Rat := if s.held then 0 else (s.sockets.get n).phase.volts

/-- The sensing current that the socket power unit drives into a socket, in microamperes: 100 µA while the socket is SENSING
(R130), and none in any other state. What flows at a SENSING socket while the part is held is free (log 36). -/
def State.sensingMicroamps (s : State) (n : Channel) : Nat :=
  match (s.sockets.get n).phase with
  | .sensing remaining => if s.held then Config.heldSensingMicroamps n.val remaining else Config.sensingMicroamps
  | _ => 0

/-- The part drives a port's line (R172): only while its handler is RESPONDING, and never while the part is held
(R187). -/
def State.driving (s : State) (p : Port) : Bool :=
  !s.held && match s.ports.get p with
    | .responding _ _ => true
    | _ => false

end Sys2Proof.Machine
end

