-- ==== Sys2Proof/Machine/Operands.lean ====
section
/-! DEFINITION. The formats of section 10.8: the fields of request bodies and entries as they are read from their bytes,
the entries as READ_ENTRY shows them, the codes, the check of R174 and the response frame of R173. -/

namespace Sys2Proof.Machine

/-! ### Reading fields (section 10.8, R189) -/

/-- The byte at an offset. -/
def byteAt (bs : List Byte) (i : Nat) : Byte := bs.getD i 0

/-- The unsigned one-byte field at an offset. -/
def natAt (bs : List Byte) (i : Nat) : Nat := (byteAt bs i).toNat

/-- The unsigned two-byte field at an offset, most significant byte first. -/
def wordAt (bs : List Byte) (i : Nat) : Nat := natAt bs i * 256 + natAt bs (i + 1)

/-- The signed two-byte field at an offset, in two's complement. -/
def intAt (bs : List Byte) (i : Nat) : Int :=
  if wordAt bs i < 32768 then wordAt bs i else (wordAt bs i : Int) - 65536

/-- The three-byte event mask at an offset; bit 0 is the lowest bit of the third byte (R189). -/
def maskAt (bs : List Byte) (i : Nat) : EventMask :=
  BitVec.ofNat 24 (natAt bs i * 65536 + natAt bs (i + 1) * 256 + natAt bs (i + 2))

/-- The three two-byte coordinates at an offset. -/
def pointAt (bs : List Byte) (i : Nat) : Point :=
  ⟨BitVec.ofNat 16 (wordAt bs i), BitVec.ofNat 16 (wordAt bs (i + 2)), BitVec.ofNat 16 (wordAt bs (i + 4))⟩

/-- A number from 1 to `n` that names a thing: a channel, a zone, a group, a socket, an arrangement, a profile. -/
def numbered (n : Nat) (v : Nat) : Option (Fin n) :=
  if h : 1 ≤ v ∧ v ≤ n then some ⟨v - 1, by omega⟩ else none

/-- A table index, from 0 (R183, R184). -/
def indexed (n : Nat) (v : Nat) : Option (Fin n) := if h : v < n then some ⟨v, h⟩ else none

/-- A number from 1 to `n`, or 0 for no such thing; no value is outside that (R189: station, group). -/
def numberedOrNone (n : Nat) (v : Nat) : Option (Option (Fin n)) :=
  if v = 0 then some none else (numbered n v).map some

/-- A yes or no field (R189). -/
def yesNo (v : Nat) : Option Bool := if v = 0 then some false else if v = 1 then some true else none

/-- A gate mode code. -/
def gateModeOf (v : Nat) : Option GateMode :=
  if v = 0 then some .auto else if v = 1 then some .forceOpen else if v = 2 then some .forceClosed else none

/-- A line mode code (R193). -/
def lineModeOf (v : Nat) : Option LineMode := if v = 0 then some .level else if v = 1 then some .pulse else none

/-- A mask has none of bits 19 to 23 (R189). -/
def maskValid (m : EventMask) : Bool := m &&& ~~~EventMask.kinds == 0

/-- A value brought to the nearer limit of its range (R182). -/
def clampNat (lo hi v : Nat) : Nat := max lo (min hi v)

/-- The name of a STATION entry: the 8 bytes from offset 6. -/
def nameAt (bs : List Byte) (i : Nat) : Table 8 Byte := .ofFn fun k => byteAt bs (i + k.val)

/-- Every character of a name is of code 32 to 126 (R1). -/
def nameValid (name : Table 8 Byte) : Bool := name.cells.all fun b => 32 ≤ b.toNat && b.toNat ≤ 126

/-- The STATION record an entry carries (section 10.8). -/
def stationOf (e : List Byte) : StationRec := ⟨pointAt e 0, nameAt e 6⟩

/-- The ZONE record an entry carries, its clamped fields at their limits (R5), given the profile it names. -/
def zoneOf (e : List Byte) (profile : Profile) : ZoneRec where
  speaker := pointAt e 0
  listening := pointAt e 6
  precedence := min 1440 (wordAt e 12)
  nearRadius := min 10000 (wordAt e 14)
  guardRadius := min 5000 (wordAt e 16)
  trim := min 60 (natAt e 18)
  profile := profile
  member := (byteAt e 20).getLsbD 0

/-- A field of the ZONE entry lies beyond its upper limit (R5). -/
def zoneClamped (e : List Byte) : Bool :=
  1440 < wordAt e 12 || 10000 < wordAt e 14 || 5000 < wordAt e 16 || 60 < natAt e 18

/-- The CHANNEL entry an entry's bytes carry, T and H at their limits (R84); none where home station, default gate mode or
auto power carries a value that refuses. The window's own range is checked by R12. -/
def channelOf (e : List Byte) : Option ChannelRec :=
  match numberedOrNone 32 (natAt e 4), gateModeOf (natAt e 8), yesNo (natAt e 9) with
  | some home, some mode, some auto =>
    some ⟨wordAt e 0, wordAt e 2, home, clampNat 20 140 (natAt e 5), clampNat 10 500 (wordAt e 6), mode, auto⟩
  | _, _, _ => none

/-- T or H of the CHANNEL entry lies outside its range (R84). -/
def channelClamped (e : List Byte) : Bool :=
  natAt e 5 != clampNat 20 140 (natAt e 5) || wordAt e 6 != clampNat 10 500 (wordAt e 6)

/-- The GROUP record an entry carries, its master at its limit; none where another field refuses (R104). -/
def groupOf (e : List Byte) : Option GroupRec :=
  match yesNo (natAt e 0), yesNo (natAt e 3) with
  | some enabled, some hold =>
    if 1 ≤ natAt e 2 ∧ natAt e 2 ≤ 8 then some ⟨enabled, min 60 (natAt e 1), natAt e 2, hold⟩ else none
  | _, _ => none

/-- The contact action that an action code takes with its target and station; none where one of them is outside what the
action takes (R196). -/
def contactActionOf (code target station : Nat) : Option ContactAction :=
  match code with
  | 0 => some .none
  | 1 => (numbered 16 target).map .forceOpenWhile
  | 2 => (numbered 16 target).map .forceClosedWhile
  | 3 => (numbered 24 target).map .zoneMuteWhile
  | 4 => match numbered 16 target, numberedOrNone 32 station with
    | some n, some st => some (.move n st)
    | _, _ => none
  | 5 => (numbered 4 target).map .arrange
  | _ => none

/-- The CONTACT_IN binding an entry carries, its debounce at its limit (R196). -/
def contactInOf (e : List Byte) : Option ContactBinding :=
  match contactActionOf (natAt e 0) (natAt e 1) (natAt e 2), yesNo (natAt e 3) with
  | some a, some pol => some ⟨a, pol, clampNat 10 500 (wordAt e 4)⟩
  | _, _ => none

/-- The condition that a condition code takes with its group; the group byte is ignored where the condition takes none
(R201). -/
def conditionOf (code group : Nat) : Option OutCondition :=
  match code with
  | 0 => some .none
  | 1 => (numbered 6 group).map .groupLive
  | 2 => (numbered 6 group).map .groupHeld
  | 3 => some .overrideActive
  | 4 => some .clockHoldover
  | 5 => some .socketFaultAny
  | _ => none

/-- The CONTACT_OUT binding an entry carries (R201). -/
def contactOutOf (e : List Byte) : Option OutBinding :=
  match conditionOf (natAt e 0) (natAt e 1), yesNo (natAt e 2) with
  | some c, some i => some ⟨c, i⟩
  | _, _ => none

/-- The PORT_ROUTING entry an entry carries (R193). -/
def routingOf (e : List Byte) : Option Routing :=
  match lineModeOf (natAt e 3) with
  | some m => if maskValid (maskAt e 0) then some ⟨maskAt e 0, m⟩ else none
  | none => none

/-- The retained fields of the SYSTEM entry an entry carries, the attenuation at its limit; its two read-only fields are
ignored (R154, R160, R184). -/
def systemOf (e : List Byte) : Option SystemRec :=
  match yesNo (natAt e 0), yesNo (natAt e 1) with
  | some ext, some sil => some ⟨ext, sil, min 60 (natAt e 2)⟩
  | _, _ => none

/-! ### Codes -/

/-- A one-byte field. -/
def byteOf (n : Nat) : Byte := BitVec.ofNat 8 n

/-- A two-byte field, most significant byte first. -/
def wordOf (n : Nat) : List Byte := [byteOf (n / 256), byteOf n]

/-- A signed two-byte field, in two's complement. -/
def intOf (t : Int) : List Byte := wordOf (BitVec.ofInt 16 t).toNat

/-- A three-byte event mask (R189). -/
def maskOf (m : EventMask) : List Byte := [byteOf (m.toNat / 65536), byteOf (m.toNat / 256), byteOf m.toNat]

/-- A yes or no, present or absent, set or clear. -/
def flagOf (b : Bool) : Byte := if b then 1 else 0

/-- The bits of a byte, the lowest first. -/
def bitsOf (bs : List Bool) : Byte := byteOf (bs.foldr (fun b v => 2 * v + if b then 1 else 0) 0)

/-- A number that names a thing, or 0 for none (R189). -/
def numberOf {n : Nat} (x : Option (Fin n)) : Byte :=
  match x with
  | none => 0
  | some i => byteOf (i.val + 1)

/-- A level: its steps, or 255 for off (R189). -/
def levelOf (l : Option Nat) : Byte :=
  match l with
  | none => 255
  | some a => byteOf a

/-- A fractional level as the whole step nearest to it, halves towards 160 (R80). -/
def wholeLevel (l : Rat) : Nat := (l + 1 / 2).floor.toNat

/-- The status codes of the port chapter's formats. -/
def Status.code : Status → Byte
  | .ok => 0x00
  | .okClamped => 0x01
  | .badCheck => 0x02
  | .badLength => 0x03
  | .unknownRequest => 0x04
  | .badTable => 0x05
  | .badIndex => 0x06
  | .badValue => 0x07
  | .readOnly => 0x08
  | .frozen => 0x09
  | .heldElsewhere => 0x0A
  | .notHolder => 0x0B
  | .notHeld => 0x0C
  | .windowOverlap => 0x0D
  | .windowBusy => 0x0E
  | .overrideActive => 0x0F
  | .groupFull => 0x10
  | .powerRefused => 0x11
  | .notPresent => 0x12
  | .clockNotReady => 0x13
  | .inStandby => 0x14

/-- The code of a gate mode. -/
def GateMode.code : GateMode → Byte
  | .auto => 0
  | .forceOpen => 1
  | .forceClosed => 2

/-- The code of a gate state (CHANNEL_STATE). -/
def GateState.code : GateState → Byte
  | .parked => 0
  | .closed => 1
  | .opened => 2
  | .holding => 3
  | .lastOn => 4

/-- The code of a socket state (SOCKET_STATE). -/
def SocketPhase.code : SocketPhase → Byte
  | .empty => 0
  | .sensing _ => 1
  | .present _ => 2
  | .ramping _ => 3
  | .powered => 4
  | .fault => 5

/-- The code of a sensed class (SOCKET_STATE). -/
def classCode : Option SocketClass → Byte
  | none => 0
  | some .condenser => 1
  | some .dynamic => 2
  | some .lineReceiver => 3
  | some .unknown => 4

/-- The code of a clock state (READ_EVENTS). -/
def ClockState.code : ClockState → Byte
  | .internal => 0
  | .locking => 1
  | .locked => 2
  | .holdover => 3

/-- The code of an override state (READ_EVENTS). -/
def OverrideState.code : OverrideState → Byte
  | .idle => 0
  | .active => 1
  | .latched => 2

/-- The kind and target of an item (ENGINE_STATE). -/
def Item.code : Item → List Byte
  | .channel n => [1, byteOf (n.val + 1)]
  | .group g => [2, byteOf (g.val + 1)]
  | .all => [3, 0]

/-- The code of a holder (GROUP_STATE). -/
def holderCode : Option Port → Byte
  | none => 0
  | some .A => 1
  | some .B => 2
  | some .C => 3

/-! ### Fixed tables (R30, R32, R37) -/

/-- The proximity table A[0] to A[63] (R30). -/
def proximityTable : List Nat :=
  [48, 48, 48, 48, 44, 41, 38, 36, 34, 32, 31, 29, 28, 26, 25, 24]
    ++ [23, 22, 21, 20, 19, 19, 18, 17, 16, 16, 15, 14, 14, 13, 13, 12]
    ++ [12, 11, 10, 10, 10, 9, 9, 8, 8, 7, 7, 7, 6, 6, 5, 5]
    ++ [5, 4, 4, 4, 3, 3, 3, 2, 2, 2, 1, 1, 1, 1, 0, 0]

/-- The open-count table nom(1) to nom(8) (R32). -/
def openCountTable : List Nat := [0, 6, 10, 12, 14, 16, 17, 18]

/-! ### Entries as READ_ENTRY shows them (section 10.8) -/

/-- The bytes of a point. -/
def Point.bytes (p : Point) : List Byte := wordOf p.x.toNat ++ wordOf p.y.toNat ++ wordOf p.z.toNat

/-- A STATION entry. -/
def StationRec.entry (r : StationRec) : List Byte := r.position.bytes ++ r.name.cells

/-- A ZONE entry. -/
def ZoneRec.entry (z : ZoneRec) : List Byte :=
  z.speaker.bytes ++ z.listening.bytes ++ wordOf z.precedence ++ wordOf z.nearRadius ++ wordOf z.guardRadius
    ++ [byteOf z.trim, byteOf (z.profile.val + 1), flagOf z.member]

/-- A CHANNEL entry. -/
def ChannelRec.entry (c : ChannelRec) : List Byte :=
  wordOf c.start ++ wordOf c.length ++ [numberOf c.home, byteOf c.threshold] ++ wordOf c.holdTime
    ++ [c.defaultMode.code, flagOf c.autoPower]

/-- A GROUP entry. -/
def GroupRec.entry (g : GroupRec) : List Byte :=
  [flagOf g.enabled, byteOf g.master, byteOf g.maxOpen, flagOf g.lastHold]

/-- The action, target and station bytes of a contact action; bytes it does not use are 0 (R196). -/
def ContactAction.bytes : ContactAction → List Byte
  | .none => [0, 0, 0]
  | .forceOpenWhile n => [1, byteOf (n.val + 1), 0]
  | .forceClosedWhile n => [2, byteOf (n.val + 1), 0]
  | .zoneMuteWhile j => [3, byteOf (j.val + 1), 0]
  | .move n st => [4, byteOf (n.val + 1), numberOf st]
  | .arrange k => [5, byteOf (k.val + 1), 0]

/-- A CONTACT_IN entry. -/
def ContactBinding.entry (b : ContactBinding) : List Byte :=
  b.action.bytes ++ [flagOf b.activeOpen] ++ wordOf b.debounceMs

/-- The condition and group bytes of a condition; the group is 0 where it takes none (R201). -/
def OutCondition.bytes : OutCondition → List Byte
  | .none => [0, 0]
  | .groupLive g => [1, byteOf (g.val + 1)]
  | .groupHeld g => [2, byteOf (g.val + 1)]
  | .overrideActive => [3, 0]
  | .clockHoldover => [4, 0]
  | .socketFaultAny => [5, 0]

/-- A CONTACT_OUT entry. -/
def OutBinding.entry (b : OutBinding) : List Byte := b.condition.bytes ++ [flagOf b.inverted]

/-- A PORT_ROUTING entry. -/
def Routing.entry (r : Routing) : List Byte :=
  maskOf r.mask ++ [if r.mode = .level then 0 else 1]

/-- The SYSTEM entry, with its read-only fields (R15, R103). -/
def State.systemEntry (s : State) : List Byte :=
  [flagOf s.settings.system.external, flagOf s.settings.system.autoSilence,
    byteOf s.settings.system.overrideAttenuation, flagOf s.frozen, byteOf (s.settings.active.val + 1)]

/-- The state code of a crosspoint (CROSSPOINT). -/
def Phase.code : Phase → Byte
  | .silent => 0
  | .steady _ => 1
  | .ramping _ _ _ => 2
  | .crossfading _ _ _ _ _ _ => 3

/-- The active level of a crosspoint in its phase: off in SILENT (R61). -/
def Phase.activeLevel : Phase → Option Rat
  | .silent => none
  | .steady l => some l
  | .ramping l _ _ => some l
  | .crossfading l _ _ _ _ _ => some l

/-- The old delay and old level, present only while CROSSFADING (R60). -/
def Phase.outgoing : Phase → Option (Nat × Rat)
  | .crossfading _ d l _ _ _ => some (d, l)
  | _ => none

/-- The pending delay, where one is held (R60). -/
def Phase.pendingDelay : Phase → Option Nat
  | .crossfading _ _ _ p _ _ => p
  | _ => none

/-- Fade length and fade remaining, present while RAMPING or CROSSFADING (R60). -/
def Phase.fade : Phase → Option (Nat × Nat)
  | .ramping _ len rem => some (len, rem)
  | .crossfading _ _ _ _ len rem => some (len, rem)
  | _ => none

/-- A CROSSPOINT entry (R80): an absent field is 0 with its presence bit clear. -/
def Crosspoint.entry (x : Crosspoint) : List Byte :=
  [x.phase.code] ++ wordOf x.activeDelay ++ [levelOf (x.phase.activeLevel.map wholeLevel)]
    ++ wordOf x.computedDelay ++ [levelOf x.computedLevel, byteOf x.proximity,
      bitsOf [x.clampedLow, x.clampedHigh, x.guarded, x.phase.outgoing.isSome, x.phase.pendingDelay.isSome,
        x.phase.fade.isSome], levelOf x.target]
    ++ wordOf ((x.phase.outgoing.map fun o => o.1).getD 0)
    ++ [byteOf ((x.phase.outgoing.map fun o => wholeLevel o.2).getD 0)]
    ++ wordOf (x.phase.pendingDelay.getD 0)
    ++ wordOf ((x.phase.fade.map fun f => f.1).getD 0) ++ wordOf ((x.phase.fade.map fun f => f.2).getD 0)

/-- The ineligibility causes as the bits of one byte (CHANNEL_STATE). -/
def Causes.byte (c : Causes) : Byte :=
  bitsOf [c.noGroup, c.groupDisabled, c.noStation, c.noWindow, c.socketNotReady, c.standby]

/-- A CHANNEL_STATE entry (R101). -/
def State.channelStateEntry (s : State) (n : Channel) : List Byte :=
  [(s.gates.get n).state.code, (s.gates.get n).mode.code, (s.gates.get n).portMode.code,
    numberOf (s.gates.get n).station, byteOf (s.gates.get n).latest] ++ wordOf (s.gates.get n).holdCounter
    ++ [(s.causes n).byte, flagOf (s.engine.aligned.get n), numberOf (memberGroup s.groups n)]

/-- A ZONE_STATE entry (R144). -/
def ZoneState.entry (z : ZoneState) : List Byte :=
  [bitsOf [z.requestMute, z.contactMute, z.clock, z.standby, z.overrideLatch], flagOf z.taken, flagOf z.audible]

/-- The bytes of one member record (GROUP_STATE). -/
def Member.bytes (m : Member) : List Byte :=
  [byteOf (m.channel.val + 1), if m.kind = .auto then 0 else 1, byteOf m.latest]

/-- A GROUP_STATE entry (R126). -/
def GroupState.entry (g : GroupState) : List Byte :=
  [holderCode g.holder, byteOf g.openCount] ++ g.members.flatMap Member.bytes
    ++ [byteOf g.waiting.length] ++ g.waiting.map (fun n : Channel => byteOf (n.val + 1))

/-- A SOCKET_STATE entry (R143). -/
def Socket.entry (x : Socket) : List Byte :=
  [x.phase.code, classCode x.phase.sensedClass, flagOf x.phase.ready, flagOf x.wish, flagOf x.suppressed,
    flagOf x.presence]

/-- The ENGINE_STATE entry (R59). -/
def Engine.entry (e : Engine) : List Byte :=
  [flagOf e.flight.isSome] ++ (match e.flight with | none => [0, 0] | some f => f.item.code)
    ++ [byteOf e.queue.length] ++ e.queue.flatMap Item.code ++ intOf e.reported ++ intOf e.inUse
    ++ [flagOf e.tempUnset]
    ++ [bitsOf ((e.aligned.cells.drop 8)), bitsOf (e.aligned.cells.take 8)]

/-- The number of entries of a table; none where the table number is not known (R183, R184). -/
def tableEntries : Nat → Option Nat
  | 1 => some 32
  | 2 => some 24
  | 3 => some 16
  | 4 => some 24
  | 5 => some 160
  | 6 => some 4
  | 7 => some 8
  | 8 => some 4
  | 9 => some 3
  | 10 => some 1
  | 11 => some 72
  | 12 => some 384
  | 13 => some 16
  | 14 => some 24
  | 15 => some 6
  | 16 => some 16
  | 17 => some 1
  | _ => none

/-- The entry size of a writable table (section 10.8). -/
def entrySize : Nat → Option Nat
  | 1 => some 14
  | 2 => some 21
  | 3 => some 10
  | 4 => some 4
  | 5 => some 1
  | 6 => some 2
  | 7 => some 6
  | 8 => some 3
  | 9 => some 4
  | 10 => some 5
  | _ => none

/-- A membership entry of the MEMBERSHIP table: arrangement, and zone or channel (R103). -/
def membershipAt (i : Fin 160) : Arrangement × (Zone ⊕ Channel) :=
  (⟨i.val / 40, by omega⟩,
    if h : i.val % 40 < 24 then .inl ⟨i.val % 40, h⟩ else .inr ⟨i.val % 40 - 24, by omega⟩)

/-- The stored value of a membership (R103). -/
def Settings.membership (c : Settings) (k : Arrangement) : Zone ⊕ Channel → Option Group
  | .inl j => (c.zoneGroups.get k).get j
  | .inr n => (c.channelGroups.get k).get n

/-- The arrangement and group of an entry of the GROUP table (R102). -/
def groupAt (i : Fin 24) : Arrangement × Group := (⟨i.val / 6, by omega⟩, ⟨i.val % 6, by omega⟩)

/-- Entry `i` of a table as READ_ENTRY shows it; empty where the table or the index does not exist. -/
def State.tableEntry (s : State) (table i : Nat) : List Byte :=
  match table with
  | 1 => ((indexed 32 i).map fun k => (s.settings.stations.get k).entry).getD []
  | 2 => ((indexed 24 i).map fun k => (s.settings.zones.get k).entry).getD []
  | 3 => ((indexed 16 i).map fun k => (s.settings.channels.get k).entry).getD []
  | 4 => ((indexed 24 i).map fun k => ((s.settings.groups.get (groupAt k).1).get (groupAt k).2).entry).getD []
  | 5 => ((indexed 160 i).map fun k =>
      [numberOf (s.settings.membership (membershipAt k).1 (membershipAt k).2)]).getD []
  | 6 => ((indexed 4 i).map fun k => wordOf (s.settings.profiles.get k)).getD []
  | 7 => ((indexed 8 i).map fun k => (s.settings.contactIn.get k).entry).getD []
  | 8 => ((indexed 4 i).map fun k => (s.settings.contactOut.get k).entry).getD []
  | 9 => match i with
    | 0 => s.settings.routing.a.entry
    | 1 => s.settings.routing.b.entry
    | 2 => s.settings.routing.c.entry
    | _ => []
  | 10 => if i = 0 then s.systemEntry else []
  | 11 => ((proximityTable ++ openCountTable)[i]?.map fun v => [byteOf v]).getD []
  | 12 => if h : i < 384 then ((s.crosspoints.get ⟨i / 24, by omega⟩).get ⟨i % 24, by omega⟩).entry else []
  | 13 => ((indexed 16 i).map s.channelStateEntry).getD []
  | 14 => ((indexed 24 i).map fun k => (s.zones.get k).entry).getD []
  | 15 => ((indexed 6 i).map fun k => (s.groups.get k).entry).getD []
  | 16 => ((indexed 16 i).map fun k => (s.sockets.get k).entry).getD []
  | 17 => if i = 0 then s.engine.entry else []
  | _ => []

/-- As many of the entries, in order, as fit in `room` bytes (R183). -/
def fitting : List (List Byte) → Nat → List (List Byte)
  | [], _ => []
  | e :: rest, room => if e.length ≤ room then e :: fitting rest (room - e.length) else []

/-! ### The check and the frames (R173, R174) -/

/-- One of the eight shifts of the check (R174). -/
def crcShift (r : BitVec 16) : BitVec 16 := if r.msb then (r <<< 1) ^^^ 0x1021#16 else r <<< 1

/-- One byte taken into the check (R174). -/
def crcByte (r : BitVec 16) (b : Byte) : BitVec 16 :=
  (crcShift ∘ crcShift ∘ crcShift ∘ crcShift ∘ crcShift ∘ crcShift ∘ crcShift ∘ crcShift)
    (r ^^^ (b.setWidth 16 <<< 8))

/-- The check of a run of bytes, from 0xFFFF (R174). -/
def crc (bs : List Byte) : BitVec 16 := bs.foldl crcByte 0xFFFF#16

/-- The check of the length, kind and body of a received frame agrees with its two check bytes (R177). The argument is the
frame after its sync byte. -/
def frameChecks (frame : List Byte) : Bool :=
  (crc (frame.take (frame.length - 2))).toNat == wordAt frame (frame.length - 2)

/-- The bytes of a response frame (R173). -/
def Response.frame (r : Response) : List Byte :=
  let core := byteOf (r.body.length + 2) :: r.kindEcho :: r.status.code :: r.body
  (0x5A#8 :: core) ++ wordOf (crc core).toNat

end Sys2Proof.Machine
end

