-- ==== Sys2Proof/Machine/Arithmetic.lean ====
section
/-! DEFINITION. The alignment arithmetic of chapter 2, the gain of R34 and the measurement of R82, each in exact integer
arithmetic. -/

namespace Sys2Proof.Machine

/-- The greatest number below `2 ^ k` above `r` that a test admits, found bit by bit: for a test that holds up to some
number and fails beyond it, `greatest P k 0` is the greatest number below `2 ^ k` that it admits. -/
def greatest (P : Nat → Bool) : Nat → Nat → Nat
  | 0, r => r
  | k + 1, r => greatest P k (if P (r + 2 ^ k) then r + 2 ^ k else r)

/-- The integer square root (R21): the largest `r` whose square does not exceed `m`. Sums of squares are below
`2 ^ 34`. -/
def isqrt (m : Nat) : Nat := greatest (fun r => r * r ≤ m) 17 0

/-- The square of a coordinate difference (R21). -/
def squaredGap (a b : BitVec 16) : Nat := ((a.toNat : Int) - b.toNat).natAbs ^ 2

/-- The distance between two points in whole centimetres (R21). -/
def distance (p q : Point) : Nat := isqrt (squaredGap p.x q.x + squaredGap p.y q.y + squaredGap p.z q.z)

/-- A fraction rounded to the nearest whole number, halves away from zero (R25, R77). -/
def roundAway (num : Int) (den : Nat) : Int :=
  if num < 0 then -(((2 * num.natAbs + den) / (2 * den) : Nat) : Int)
  else (((2 * num.natAbs + den) / (2 * den) : Nat) : Int)

/-- Stage 2: the speed of sound in millimetres per second, from the temperature in tenths (R23). The division rounds
towards minus infinity. -/
def speedOfSound (t : Int) : Int := 606 * t / 10 + 331300

/-- Stage 4: the raw delay q for a path difference in centimetres (R25). -/
def rawDelay (pathDifference : Int) (t : Int) : Int :=
  roundAway (pathDifference * 480000) (speedOfSound t).toNat

/-- What stage 5 gives: the computed delay and its two flags (R27). -/
structure Clamped where
  delay : Nat
  low : Bool
  high : Bool
deriving DecidableEq, Repr

/-- Stage 5: D brought into the window of W samples (R27), the rows in their order. -/
def clampDelay (d : Int) (w : Nat) : Clamped :=
  if d < 0 then ⟨0, true, false⟩
  else if w = 0 then ⟨0, false, decide (0 < d)⟩
  else if ((w - 1 : Nat) : Int) < d then ⟨w - 1, false, true⟩
  else ⟨d.toNat, false, false⟩

/-- Stage 6: the crosspoint is guarded (R28). -/
def guardedAt (z : ZoneRec) (dks : Nat) : Bool := z.guardRadius != 0 && dks < z.guardRadius

/-- Stage 6: the proximity part of a crosspoint that is not guarded (R29, R30). -/
def proximityPart (z : ZoneRec) (dsl : Nat) : Nat :=
  if z.nearRadius ≠ 0 ∧ dsl < z.nearRadius then proximityTable.getD (64 * dsl / z.nearRadius) 0 else 0

/-- nom(N) (R32). Above 8 the table says nothing: a free value (log 4). -/
def nom (n : Nat) : Nat :=
  if n = 0 then 0 else match openCountTable[n - 1]? with
    | some v => v
    | none => Config.nomBeyondTable n

/-- Stage 7: the sum of the four parts, limited to 160 (R31, R33). -/
def composeLevel (trim master proximity openCount : Nat) : Nat := min 160 (trim + master + proximity + nom openCount)

/-- The result of a full computation (R19), or of a channel with no current station (R20). -/
structure Result where
  /-- computed delay; none where the result carries no computed delay -/
  delay : Option Nat
  /-- computed level; none is off -/
  level : Option Nat
  proximity : Nat
  clampedLow : Bool
  clampedHigh : Bool
  guarded : Bool
deriving DecidableEq, Repr

/-- The result of a crosspoint of a channel with no current station (R20). -/
def Result.stationless : Result := ⟨none, none, 0, false, false, false⟩

/-- The full computation of one crosspoint, stages 1 to 7, for a channel that has a current station (R19 to R33). -/
def computeAt (station : Point) (c : ChannelInputs) (z : ZoneRec) (t : Int) : Result :=
  let dsl := distance station z.listening
  let dkl := distance z.speaker z.listening
  let dks := distance z.speaker station
  let delay := clampDelay (rawDelay ((dsl : Int) - dkl) t + z.precedence) c.window
  if guardedAt z dks then ⟨some delay.delay, none, 0, delay.low, delay.high, true⟩
  else
    let prox := proximityPart z dsl
    ⟨some delay.delay, some (composeLevel z.trim c.master prox c.openCount), prox, delay.low, delay.high, false⟩

/-- The full result of one crosspoint (R19, R20). -/
def fullResult (c : ChannelInputs) (z : ZoneRec) (t : Int) : Result :=
  match c.station with
  | none => .stationless
  | some p => computeAt p c z t

/-- The level-only computation of one crosspoint (R35), from its stored proximity part and GUARDED flag. -/
def levelOnly (hasStation : Bool) (stored : Nat × Bool) (trim master openCount : Nat) : Option Nat :=
  if !hasStation then none
  else if stored.2 then none
  else some (composeLevel trim master stored.1 openCount)

/-! ### Gains (R34) -/

/-- The gain of an attenuation of `a` steps in units of 1/16,777,216: 10 to the power −a/40 rounded to the nearest unit,
halves up (R34). For a = p/q, `g` is not above the rounded gain exactly when (2g − 1)^(40q) · 10^p ≤ 2^(1000q). -/
def gainUnits (a : Rat) : Nat :=
  greatest (fun g => (2 * g - 1) ^ (40 * a.den) * 10 ^ a.num.toNat ≤ 2 ^ (1000 * a.den)) 25 0

/-- One gain unit's denominator (R34). -/
abbrev gainScale : Nat := 16777216

/-- A sum of products of samples and gain units rounded to a whole sample value, halves away from zero (R77, R147). -/
def roundSum (sum : Int) : Int := roundAway sum gainScale

/-- A rounded sum limited to the range of a 24-bit sample (R78). -/
def limitSample (v : Int) : Int := max (-8388608) (min 8388607 v)

/-! ### Measurements (R82) -/

/-- The measurement L of a block whose 480 squares sum to `sum`: −20·log10(m) for m = sum / (480 · 2^46), rounded to the
nearest whole step with halves to the larger number and limited to 240 (R82). `k` is not above the rounded value exactly
when sum^40 · 10^(2k − 1) ≤ (480 · 2^46)^40. -/
def measurementOf (sum : Nat) : Nat :=
  min 240 (greatest (fun k => sum ^ 40 * 10 ^ (2 * k - 1) ≤ (480 * 2 ^ 46) ^ 40) 8 0)

end Sys2Proof.Machine
end

