-- ==== Sys2Proof/Machine/Crosspoints.lean ====
section
/-! DEFINITION. What one crosspoint does at each event (R64 to R76): retargeting, delivery, fades and takeover. -/

namespace Sys2Proof.Machine

/-- The level that stands for a target while a fade moves: off counts as 160 (R64). -/
def fadeGoal (t : Option Nat) : Rat := ((t.getD 160 : Nat) : Rat)

/-- What the phase becomes when the effective target takes a new value `t`, a fade begun now being `len` samples long
(R64; R69 for CROSSFADING, whose incoming tap is retargeted by the new target alone). -/
def Phase.react (len : Nat) (t : Option Nat) : Phase → Phase
  | .silent => if t.isNone then .silent else .ramping 160 len len
  | .steady l => if t = some l then .steady l else .ramping (l : Nat) len len
  | .ramping l _ _ => .ramping l len len
  | .crossfading l od ol p fl rem => .crossfading l od ol p fl rem

/-- The effective target is re-evaluated to `t` (R63): the same value moves nothing, a new value is reacted to by R64. -/
def Crosspoint.retarget (len : Nat) (t : Option Nat) (x : Crosspoint) : Crosspoint :=
  if t = x.target then x else { x with target := t, phase := x.phase.react len t }

/-- Fade remaining set to 240 where it is greater (R74). -/
def Phase.shorten : Phase → Phase
  | .ramping l fl rem => .ramping l fl (min Config.clockFade rem)
  | .crossfading l od ol p fl rem => .crossfading l od ol p fl (min Config.clockFade rem)
  | ph => ph

/-- The re-evaluation at an event that gives the crosspoint's zone CLOCK or STANDBY or removes one of them (R74). -/
def Crosspoint.retargetClock (t : Option Nat) (x : Crosspoint) : Crosspoint :=
  let y := x.retarget Config.clockFade t
  { y with phase := y.phase.shorten }

/-- A crossfade begins from the tap in use to delay `d`, over `len` samples (R67). -/
def Crosspoint.beginCrossfade (len d : Nat) (level : Rat) (x : Crosspoint) : Crosspoint :=
  { x with phase := .crossfading 160 x.activeDelay level none len len, activeDelay := d }

/-- A delivered computed delay is handled by the crosspoint's state (R66). -/
def Crosspoint.deliverDelay (len d : Nat) (x : Crosspoint) : Crosspoint :=
  match x.phase with
  | .silent => { x with activeDelay := d }
  | .steady l => if d = x.activeDelay then x else x.beginCrossfade len d (l : Nat)
  | .ramping l _ _ => if d = x.activeDelay then x else x.beginCrossfade len d l
  | .crossfading l od ol _ fl rem => { x with phase := .crossfading l od ol (some d) fl rem }

/-- The delivery of a full result (R53, R66): the computed fields and flags, then the delay, then the effective target.
`live` is the live test of the crosspoint and `len` its zone's fade length. -/
def Crosspoint.deliver (live : Bool) (len : Nat) (r : Result) (x : Crosspoint) : Crosspoint :=
  let written : Crosspoint := { x with
    computedDelay := r.delay.getD x.computedDelay
    computedLevel := r.level
    proximity := r.proximity
    clampedLow := r.clampedLow
    clampedHigh := r.clampedHigh
    guarded := r.guarded }
  let moved := match r.delay with
    | none => written
    | some d => written.deliverDelay len d
  moved.retarget len (if live then r.level else none)

/-- The delivery of a level-only result (R53, R66): the computed level alone. -/
def Crosspoint.deliverLevel (live : Bool) (len : Nat) (level : Option Nat) (x : Crosspoint) : Crosspoint :=
  ({ x with computedLevel := level }).retarget len (if live then level else none)

/-- The state a fade that has ended leaves: STEADY at a level, SILENT at off (R65, R68). -/
def settledPhase (t : Option Nat) : Phase :=
  match t with
  | none => .silent
  | some a => .steady a

/-- The end of a ramp whose fade remaining has reached 0 (R65); nothing for any other crosspoint. -/
def Crosspoint.endRamp (x : Crosspoint) : Crosspoint :=
  match x.phase with
  | .ramping _ _ 0 => { x with phase := settledPhase x.target }
  | _ => x

/-- The end of a crossfade whose fade remaining has reached 0, with its pending delay (R68); a further crossfade is `len`
samples long. Nothing for any other crosspoint. -/
def Crosspoint.endCrossfade (len : Nat) (x : Crosspoint) : Crosspoint :=
  match x.phase with
  | .crossfading _ _ _ pend _ 0 =>
    let settled := { x with phase := settledPhase x.target }
    match pend with
    | none => settled
    | some d =>
      if d = x.activeDelay then settled
      else match x.target with
        | none => { settled with activeDelay := d }
        | some a => settled.beginCrossfade len d (a : Nat)
  | _ => x

/-- Whatever fade has ended is ended (R65, R68). -/
def Crosspoint.endFade (len : Nat) (x : Crosspoint) : Crosspoint := (x.endRamp).endCrossfade len

/-- One sample's step of a level towards a goal with `rem` samples of the fade left (R65, R67). -/
def stepLevel (level goal : Rat) (rem : Nat) : Rat := level + (goal - level) / (rem : Rat)

/-- One output sample of a fade (R65, R67): each level moves by the difference divided by fade remaining, and fade
remaining falls by one. -/
def Phase.advance (goal : Rat) : Phase → Phase
  | .ramping l fl (rem + 1) => .ramping (stepLevel l goal (rem + 1)) fl rem
  | .crossfading l od ol p fl (rem + 1) =>
    .crossfading (stepLevel l goal (rem + 1)) od (stepLevel ol 160 (rem + 1)) p fl rem
  | ph => ph

/-- One output sample of a crosspoint (R65, R67). -/
def Crosspoint.advance (x : Crosspoint) : Crosspoint := { x with phase := x.phase.advance (fadeGoal x.target) }

/-- The takeover of the crosspoint's zone (R75): SILENT at once, a pending delay becoming the active delay, the target
off. -/
def Crosspoint.seize (x : Crosspoint) : Crosspoint :=
  { x with phase := .silent, activeDelay := x.phase.pendingDelay.getD x.activeDelay, target := none }

/-- The taps a crosspoint contributes to its zone's sum, each a delay and a level (R61, R77). -/
def Crosspoint.taps (x : Crosspoint) : List (Nat × Rat) :=
  match x.phase with
  | .silent => []
  | .steady l => [(x.activeDelay, ((l : Nat) : Rat))]
  | .ramping l _ _ => [(x.activeDelay, l)]
  | .crossfading l od ol _ _ _ => [(x.activeDelay, l), (od, ol)]

end Sys2Proof.Machine
end

