-- ==== Sys2Proof/Machine/Ops.lean ====
section
/-! DEFINITION. The shared operations on State: delay memory, events, retune asks, the re-evaluation of effective targets,
replies, and the two shapes of a command: a request on a port, and an event. -/

namespace Sys2Proof.Machine

/-! ### Delay memory (R9, R10) -/

/-- A cell of delay memory; an unlisted cell holds silence, the value zero (R10). -/
def readCell : List (Nat × Sample) → Nat → Sample
  | [], _ => 0
  | (b, v) :: rest, a => if a = b then v else readCell rest a

/-- A cell written, the list kept rising and free of silence. -/
def writeCell : List (Nat × Sample) → Nat → Sample → List (Nat × Sample)
  | [], a, v => if v = 0 then [] else [(a, v)]
  | (b, w) :: rest, a, v =>
    if a < b then (if v = 0 then (b, w) :: rest else (a, v) :: (b, w) :: rest)
    else if a = b then (if v = 0 then rest else (a, v) :: rest)
    else (b, w) :: writeCell rest a v

/-- The cells from `lo` up to but not including `hi` cleared to silence (R10). -/
def clearCells (cells : List (Nat × Sample)) (lo hi : Nat) : List (Nat × Sample) :=
  cells.filter fun c => !(lo ≤ c.1 && c.1 < hi)

/-- The canonical form of delay memory: the listed cells rise strictly and none holds silence. -/
def wfCells : List (Nat × Sample) → Bool
  | [] => true
  | [(_, v)] => v != 0
  | (a, v) :: (b, w) :: rest => v != 0 && a < b && wfCells ((b, w) :: rest)

/-- The canonical form of delay memory holds. -/
def DelayMemory.wf (m : DelayMemory) : Bool := wfCells m.cells

/-- A sample of Mn stored in its window at the write position, which then advances around the ring; a channel whose
window length is 0 stores nothing (R9). -/
def DelayMemory.store (c : ChannelRec) (n : Channel) (v : Sample) (m : DelayMemory) : DelayMemory :=
  if c.windowSamples = 0 then m
  else
    { cells := writeCell m.cells (c.firstCell + m.position.get n) v
      position := m.position.set n ((m.position.get n + 1) % c.windowSamples) }

/-- A tap of Mn at delay `d`: the cell `d` places behind the newest sample, counting back around the ring (R9). A channel
whose window length is 0 reads no delay memory; a delay at or beyond the window is not a tap of R9, and what it would read
is a free value (log 3). -/
def DelayMemory.tap (c : ChannelRec) (n : Channel) (d : Nat) (m : DelayMemory) : Sample :=
  if c.windowSamples = 0 then 0
  else if d < c.windowSamples then
    readCell m.cells
      (c.firstCell + (m.position.get n + (c.windowSamples - 1) + (c.windowSamples - d)) % c.windowSamples)
  else Config.tapBeyondWindow d

/-- The window of Mn becomes that of `c`: its cells cleared, the write position 0 (R13). -/
def DelayMemory.newWindow (c : ChannelRec) (n : Channel) (m : DelayMemory) : DelayMemory :=
  { cells := clearCells m.cells c.firstCell (c.firstCell + c.windowSamples)
    position := m.position.set n 0 }

/-! ### Events (R190, R195) -/

/-- Kinds added to a port's set: in PULSE mode a kind of the routing mask that goes from absent to present starts or
extends the port's pulse (R190, R195). -/
def PortEvents.add (r : Routing) (kinds : EventMask) (e : PortEvents) : PortEvents where
  sticky := e.sticky ||| kinds
  pulse := if r.mode = .pulse ∧ kinds &&& ~~~e.sticky &&& r.mask ≠ 0 then some Config.pulseTime else e.pulse

/-- Kinds posted to all three sets at one event (R190). -/
def State.postMask (kinds : EventMask) (s : State) : State :=
  { s with events := s.events.map fun p e => e.add (s.settings.routing.get p) kinds }

/-- Every zone's runtime record changed (R144). -/
def State.onZones (f : Zone → ZoneState → ZoneState) (s : State) : State := { s with zones := s.zones.map f }

/-- One kind posted to all three sets (R190). -/
def State.post (k : EventKind) (s : State) : State := s.postMask k.mask

/-- Kinds added to one port's set alone (R190, R192). -/
def State.postTo (p : Port) (kinds : EventMask) (s : State) : State :=
  { s with events := s.events.set p ((s.events.get p).add (s.settings.routing.get p) kinds) }

/-- An attention pulse of a port ended (R193, R195). -/
def State.endPulse (p : Port) (s : State) : State :=
  { s with events := s.events.set p { s.events.get p with pulse := none } }

/-! ### Retune asks (R42, R43, R55) -/

/-- The queue after an ask for a CHANNEL or GROUP item: merged under ALL or under the same item, appended otherwise
(R42). -/
def mergeItem (i : Item) (queue : List Item) : List Item :=
  if queue.contains .all || queue.contains i then queue else queue ++ [i]

/-- An ask for CHANNEL(n), which clears the ALIGNED flag of Mn whatever becomes of the item (R42, R55). -/
def Engine.askChannel (n : Channel) (e : Engine) : Engine :=
  { e with queue := mergeItem (.channel n) e.queue, aligned := e.aligned.set n false }

/-- An ask for GROUP(g) (R42). -/
def Engine.askGroup (g : Group) (e : Engine) : Engine := { e with queue := mergeItem (.group g) e.queue }

/-- An ask for ALL, which empties the queue, leaves ALL alone in it and clears every ALIGNED flag (R43). -/
def Engine.askAll (e : Engine) : Engine := { e with queue := [.all], aligned := .ofFn fun _ => false }

/-- CHANNEL(n) asked of the engine. -/
def State.askChannel (n : Channel) (s : State) : State := { s with engine := s.engine.askChannel n }

/-- ALL asked of the engine. -/
def State.askAll (s : State) : State := { s with engine := s.engine.askAll }

/-- GROUP(g) asked of the engine. -/
def State.askGroup (g : Group) (s : State) : State := { s with engine := s.engine.askGroup g }

/-- GROUP(g) asked for each group whose open count differs between two group states, in ascending number (R111). -/
def Engine.askCounts (before after : Table 6 GroupState) (e : Engine) : Engine :=
  (List.finRange 6).foldl
    (fun e g => if (before.get g).openCount = (after.get g).openCount then e else e.askGroup g) e

/-- GROUP(g) asked for each group whose open count the event since `before` has changed (R111). -/
def State.askCounts (s before : State) : State :=
  { s with engine := s.engine.askCounts before.groups s.groups }

/-! ### Effective targets (R63, R73, R74) -/

/-- Every crosspoint's effective target re-evaluated, fades taking their zone's profile length (R63, R73). -/
def State.retarget (s : State) : State :=
  { s with crosspoints := s.crosspoints.map fun n row =>
      row.map fun j x => x.retarget (s.settings.fadeLength j) (s.targetOf n j x) }

/-- Every crosspoint's effective target re-evaluated at an event that gave or took CLOCK or STANDBY at the zones of
`zones`: those zones' fades take 240 samples (R74). -/
def State.retargetClock (zones : Zone → Bool) (s : State) : State :=
  { s with crosspoints := s.crosspoints.map fun n row => row.map fun j x =>
      if zones j then x.retargetClock (s.targetOf n j x)
      else x.retarget (s.settings.fadeLength j) (s.targetOf n j x) }

/-- The end of an event that began in `before`: the GROUP asks of R111, then the re-evaluation of R63. -/
def State.settle (s before : State) : State := (s.askCounts before).retarget

/-! ### The two shapes of a command -/

/-- What serving a request answers (R179, R180): the state after it, the status and the body of the response. -/
structure Reply where
  state : State
  status : Status
  body : List Byte

/-- A refusal (R180): nothing changes and the body is empty. -/
def refuse (s : State) (st : Status) : Reply := ⟨s, st, []⟩

/-- An answer OK with an empty body. -/
def accept (s : State) : Reply := ⟨s, .ok, []⟩

/-- An answer OK, or OK_CLAMPED where a field was clamped (R182). -/
def acceptClamped (clamped : Bool) (s : State) : Reply := ⟨s, if clamped then .okClamped else .ok, []⟩

/-- A request whose body has `size` bytes, the first of which names one of `n` things by its number (R180, steps 3 and 5);
then the steps of its owner. -/
def naming {n : Nat} (size : Nat) (body : List Byte) (s : State) (own : Fin n → Reply) : Reply :=
  if body.length ≠ size then refuse s .badLength
  else match numbered n (natAt body 0) with
    | none => refuse s .badIndex
    | some i => own i

/-- A request whose body has `size` bytes and names nothing (R180, step 3). -/
def sized (size : Nat) (body : List Byte) (s : State) (own : Reply) : Reply :=
  if body.length ≠ size then refuse s .badLength else own

/-- The handler of `p` set. -/
def State.setPort (p : Port) (h : Handler) (s : State) : State := { s with ports := s.ports.set p h }

/-- The request is served as one event, and the handler of its port becomes RESPONDING (R179). `echo` is the kind echo;
`resetAfter` says that a runtime reset is performed when the response ends (R169). -/
def State.serve (p : Port) (echo : Byte) (resetAfter : Bool) (f : State → Reply) (s : State) : State :=
  (f s).state.setPort p (.responding ⟨echo, (f s).status, (f s).body⟩ resetAfter)

/-- A character that arrives while a handler has a request in hand is discarded with PORT_FAULT (R178). -/
def State.collide (p : Port) (s : State) : State := s.postTo p EventKind.portFault.mask

/-- A request of `kind` and `body` on port `p` (log 5): served when the handler is SERVING that very request, or is IDLE
and takes its frame whole; lost with PORT_FAULT when the handler has another request in hand (R178); no request can be
served while a frame is still being received. -/
def State.request (p : Port) (kind : Byte) (body : List Byte) (resetAfter : Bool) (f : State → Reply) (s : State) :
    State :=
  match s.ports.get p with
  | .idle => s.serve p kind resetAfter f
  | .receiving _ _ => s
  | .serving k b => if k = kind ∧ b = body then s.serve p kind resetAfter f else s.collide p
  | .responding _ _ => s.collide p

/-- A command acts unless the part is held in a power-on reset, when nothing reaches it (R168). -/
def occur (f : State → State) (s : State) : Host.Outcome State Fault Refusal := .next (if s.held then s else f s)

/-- The body of a WRITE_ENTRY frame (section 10.8): table, index, entry. -/
def writeBody (table : Byte) (index : BitVec 16) (entry : List Byte) : List Byte :=
  table :: (wordOf index.toNat ++ entry)

/-- A WRITE_ENTRY to a writable table as R180, R181 and R184 check it up to the index: the entry's size, the index; then
the steps of the table's owner. -/
def writeEntry {n : Nat} (size : Nat) (index : BitVec 16) (entry : List Byte) (s : State) (own : Fin n → Reply) :
    Reply :=
  if entry.length ≠ size then refuse s .badLength
  else match indexed n index.toNat with
    | none => refuse s .badIndex
    | some i => own i

end Sys2Proof.Machine
end

