-- ==== Sys2Proof/Machine/Arbiter.lean ====
section
/-! DEFINITION. The channel gate unit and the group arbiter acting on each other (chapters 5 and 6): entries, exits, bumps,
the forced-wait list, the gate machine at a measurement and at a change of mode, and the fitting of open sets. All of it
acts on the gates, the groups and the kinds to be posted, and reads the settings. -/

namespace Sys2Proof.Machine

/-- What the gate unit and the arbiter act on during one event: gates, groups, and the kinds posted so far. -/
structure Mix where
  gates : Table 16 Gate
  groups : Table 6 GroupState
  posted : EventMask
deriving DecidableEq, Repr

/-- The gates and groups of the state, with nothing posted yet. -/
def State.mix (s : State) : Mix := ⟨s.gates, s.groups, 0⟩

/-- The gates and groups put back, and the kinds posted to all three sets. -/
def State.withMix (s : State) (m : Mix) : State := ({ s with gates := m.gates, groups := m.groups }).postMask m.posted

/-- The gates and groups of the state acted on. -/
def State.onMix (s : State) (f : Mix → Mix) : State := s.withMix (f s.mix)

namespace Mix

/-- A kind to be posted to all three sets. -/
def post (k : EventKind) (m : Mix) : Mix := { m with posted := m.posted ||| k.mask }

/-- A channel's gate changed. -/
def onGate (n : Channel) (f : Gate → Gate) (m : Mix) : Mix := { m with gates := m.gates.modify n f }

/-- A group's runtime state changed. -/
def onGroup (g : Group) (f : GroupState → GroupState) (m : Mix) : Mix := { m with groups := m.groups.modify g f }

/-- A channel's gate put into a state in which the hold counter is 0 (R86). -/
def setState (n : Channel) (st : GateState) (m : Mix) : Mix :=
  m.onGate n fun g => { g with state := st, holdCounter := 0 }

/-- A channel taken off every forced-wait list (R115). -/
def unwait (n : Channel) (m : Mix) : Mix :=
  { m with groups := m.groups.map fun _ x => { x with waiting := x.waiting.filter fun w => w != n } }

/-- A channel joins a group's forced-wait list at its tail, unless it is on it already (R115). -/
def enqueueWaiting (g : Group) (n : Channel) (m : Mix) : Mix :=
  m.onGroup g fun x => if x.waiting.contains n then x else { x with waiting := x.waiting ++ [n] }

/-- A channel enters a group's open set at its tail with its latest measurement: its gate becomes OPEN, GATE_OPENED is
posted, and it leaves the forced-wait list (R83, R96, R110, R115). -/
def join (g : Group) (n : Channel) (kind : EntryKind) (m : Mix) : Mix :=
  (((m.onGroup g fun x => { x with members := x.members ++ [⟨n, kind, (m.gates.get n).latest⟩] }).unwait n).setState n
    .opened).post .gateOpened

/-- A channel is taken out of whatever open set holds it, with a GATE_CLOSED, and its gate becomes `st` (R94 to R96). The
forced-wait list is not offered entry here. -/
def evict (n : Channel) (st : GateState) (m : Mix) : Mix :=
  match memberGroup m.groups n with
  | none => m.setState n st
  | some g =>
    ((m.onGroup g fun x => { x with members := x.members.filter fun y => y.channel != n }).setState n st).post
      .gateClosed

/-- The member of a group's open set that is in LAST_ON, if there is one (R116). -/
def lastOnMember (g : Group) (m : Mix) : Option Member :=
  (m.groups.get g).members.find? fun y => (m.gates.get y.channel).state == .lastOn

/-- The quietest AUTO member of a list: the highest latest measurement, and of several equally high the earliest entered
(R106, R113). -/
def quietest (ms : List Member) : Option Member :=
  ms.foldl (fun best y =>
    if y.kind = .auto then
      match best with
      | none => some y
      | some b => if b.latest < y.latest then some y else some b
    else best) none

/-- A forced ask would be granted (R114): a LAST_ON member yields, or there is room, or there is an AUTO member. -/
def grantable (maxOpen : Nat) (g : Group) (m : Mix) : Bool :=
  (m.lastOnMember g).isSome || decide ((m.groups.get g).openCount < maxOpen)
    || (quietest (m.groups.get g).members).isSome

/-- The entry of a FORCED candidate that is granted (R114, R116): beside a yielding LAST_ON member, into room, or for the
quietest AUTO member. -/
def enterForced (maxOpen : Nat) (g : Group) (n : Channel) (m : Mix) : Mix :=
  match m.lastOnMember g with
  | some y => (m.evict y.channel .closed).join g n .forced
  | none =>
    if (m.groups.get g).openCount < maxOpen then m.join g n .forced
    else match quietest (m.groups.get g).members with
      | some v => (m.evict v.channel .closed).join g n .forced
      | none => m

/-- An ask for entry as a FORCED candidate from any cause but a SET_GATE_MODE (R114): granted, or the channel joins the
forced-wait list (R115). A channel with no group asks of no set. -/
def askForced (c : Settings) (n : Channel) (m : Mix) : Mix :=
  match c.channelGroup n with
  | none => m
  | some g =>
    if m.grantable (c.groupRecord g).maxOpen g then m.enterForced (c.groupRecord g).maxOpen g n
    else m.enqueueWaiting g n

/-- Entry offered to the channels of a forced-wait list in order, stopping at the first that is not granted (R115). -/
def offerList (maxOpen : Nat) (g : Group) : List Channel → Mix → Mix
  | [], m => m
  | n :: rest, m => if m.grantable maxOpen g then offerList maxOpen g rest (m.enterForced maxOpen g n) else m

/-- Entry offered to a group's forced-wait list (R115). -/
def offer (c : Settings) (g : Group) (m : Mix) : Mix :=
  offerList (c.groupRecord g).maxOpen g (m.groups.get g).waiting m

/-- A channel leaves whatever open set holds it other than by a bump or a LAST_ON yield: its gate becomes `st`, it is taken
off every forced-wait list, and the set it left offers entry to its list (R94, R95, R115, R117). -/
def leave (c : Settings) (n : Channel) (st : GateState) (m : Mix) : Mix :=
  match memberGroup m.groups n with
  | none => (m.unwait n).setState n st
  | some g => ((m.unwait n).evict n st).offer c g

/-- A channel leaves without an offer to the forced-wait list: where the rule of the event makes the offers itself or
empties the lists (R105, R120, R165). -/
def leaveQuietly (n : Channel) (st : GateState) (m : Mix) : Mix := (m.unwait n).evict n st

/-- An ask for entry as an AUTO candidate with measurement `l` (R113, R116): a bump or a denial posts OPEN_DENIED. -/
def askAuto (c : Settings) (n : Channel) (l : Nat) (m : Mix) : Mix :=
  match c.channelGroup n with
  | none => m
  | some g =>
    match m.lastOnMember g with
    | some y => (m.evict y.channel .closed).join g n .auto
    | none =>
      if (m.groups.get g).openCount < (c.groupRecord g).maxOpen then m.join g n .auto
      else match quietest (m.groups.get g).members with
        | none => m.post .openDenied
        | some v =>
          if l + 12 ≤ v.latest then ((m.evict v.channel .closed).join g n .auto).post .openDenied
          else m.post .openDenied

/-- A channel leaves PARKED for CLOSED, asking for forced entry at once where its effective mode is FORCE_OPEN (R87). -/
def leaveParked (c : Settings) (n : Channel) (m : Mix) : Mix :=
  if (m.gates.get n).mode = .forceOpen then (m.setState n .closed).askForced c n else m.setState n .closed

/-- A member's entry kind changed in its record (R93, R112). -/
def setKind (n : Channel) (kind : EntryKind) (m : Mix) : Mix :=
  { m with groups := m.groups.map fun _ x =>
      { x with members := x.members.map fun y => if y.channel = n then { y with kind := kind } else y } }

/-- The member's entry kind becomes AUTO; where it was FORCED, its set offers entry to the forced-wait list (R93, R112,
R115). -/
def becomeAuto (c : Settings) (n : Channel) (m : Mix) : Mix :=
  match memberGroup m.groups n with
  | none => m
  | some g =>
    if (m.groups.get g).members.any fun y => y.channel == n && y.kind == .forced then (m.setKind n .auto).offer c g
    else m

/-- The gate machine reacts to a new effective mode, by its state (R93). -/
def reactMode (c : Settings) (n : Channel) (mode : GateMode) (m : Mix) : Mix :=
  match (m.gates.get n).state with
  | .parked => m
  | .closed => if mode = .forceOpen then m.askForced c n else m.unwait n
  | .opened =>
    match mode with
    | .auto => m.becomeAuto c n
    | .forceOpen => m.setKind n .forced
    | .forceClosed => m.leave c n .closed
  | .holding =>
    match mode with
    | .auto => m.becomeAuto c n
    | .forceOpen => (m.setState n .opened).setKind n .forced
    | .forceClosed => m.leave c n .closed
  | .lastOn =>
    match mode with
    | .auto => m.becomeAuto c n
    | .forceOpen => (m.setState n .opened).setKind n .forced
    | .forceClosed => m.leave c n .closed

/-- The effective mode re-evaluated to `mode`: the same mode does nothing, a new one is reacted to (R92, R93). -/
def setMode (c : Settings) (n : Channel) (mode : GateMode) (m : Mix) : Mix :=
  if mode = (m.gates.get n).mode then m
  else (m.onGate n fun g => { g with mode := mode }).reactMode c n mode

/-- A completed measurement recorded: the channel's latest measurement, and the member record of an open set that holds it
(R83, R112). -/
def record (n : Channel) (l : Nat) (m : Mix) : Mix where
  gates := m.gates.modify n fun g => { g with latest := l }
  groups := m.groups.map fun _ x =>
    { x with members := x.members.map fun y => if y.channel = n then { y with latest := l } else y }
  posted := m.posted

/-- The end of a countdown in HOLDING (R90): LAST_ON for the only member of a set whose last-channel hold is set, in AUTO;
CLOSED and out of the set otherwise. -/
def endCountdown (c : Settings) (n : Channel) (m : Mix) : Mix :=
  match memberGroup m.groups n with
  | none => m.leave c n .closed
  | some g =>
    if (c.groupRecord g).lastHold ∧ (m.gates.get n).mode = .auto ∧ (m.groups.get g).openCount = 1 then
      m.setState n .lastOn
    else m.leave c n .closed

/-- The gate machine acts on a recorded measurement (R87 to R91). -/
def actOn (c : Settings) (n : Channel) (l : Nat) (m : Mix) : Mix :=
  let entry := c.channels.get n
  let loud := l ≤ entry.threshold + 12
  match (m.gates.get n).state with
  | .parked => m
  | .closed => if (m.gates.get n).mode = .auto ∧ l ≤ entry.threshold then m.askAuto c n l else m
  | .opened =>
    if (m.gates.get n).mode = .auto ∧ ¬loud then
      m.onGate n fun g => { g with state := .holding, holdCounter := entry.holdTime }
    else m
  | .holding =>
    if loud then m.setState n .opened
    else if (m.gates.get n).holdCounter ≤ 1 then m.endCountdown c n
    else m.onGate n fun g => { g with holdCounter := g.holdCounter - 1 }
  | .lastOn => if loud then m.setState n .opened else m

/-- A measurement recorded and acted on (R82, R88 to R91, R112). -/
def measure (c : Settings) (n : Channel) (l : Nat) (m : Mix) : Mix := (m.record n l).actOn c n l

/-- AUTO members removed, the quietest first, until the set's size is at most `maxOpen` or no AUTO member is left (R106).
The first argument bounds the removals. -/
def fitAuto (maxOpen : Nat) (g : Group) : Nat → Mix → Mix
  | 0, m => m
  | fuel + 1, m =>
    if (m.groups.get g).openCount ≤ maxOpen then m
    else match quietest (m.groups.get g).members with
      | none => m
      | some v => fitAuto maxOpen g fuel (m.evict v.channel .closed)

/-- FORCED members removed, the latest entered first, until the set fits; each joins the tail of the forced-wait list
(R121). -/
def fitForced (maxOpen : Nat) (g : Group) : Nat → Mix → Mix
  | 0, m => m
  | fuel + 1, m =>
    if (m.groups.get g).openCount ≤ maxOpen then m
    else match (m.groups.get g).members.getLast? with
      | none => m
      | some v => fitForced maxOpen g fuel ((m.evict v.channel .closed).enqueueWaiting g v.channel)

/-- A set's open count bounds the removals that can be made from it. -/
def fitOpenSet (maxOpen : Nat) (g : Group) (m : Mix) : Mix := m.fitAuto maxOpen g (m.groups.get g).openCount

/-- The LAST_ON member of a group becomes CLOSED and leaves the set (R91, R105, R121). -/
def dropLastOn (g : Group) (m : Mix) : Mix :=
  match m.lastOnMember g with
  | none => m
  | some y => m.evict y.channel .closed

/-- One group at step 5 of an arrangement switch (R121): its size, its last-channel hold, its forced entries. `moved` says
which channels changed group at the switch. -/
def fitAtSwitch (c : Settings) (moved : Channel → Bool) (g : Group) (m : Mix) : Mix :=
  let sized := m.fitOpenSet (c.groupRecord g).maxOpen g
  let forced := sized.fitForced (c.groupRecord g).maxOpen g (sized.groups.get g).openCount
  let held := if (c.groupRecord g).lastHold then forced else forced.dropLastOn g
  let offered := held.offer c g
  (List.finRange 16).foldl (fun m n =>
    if c.channelGroup n = some g ∧ moved n ∧ (m.gates.get n).state = .closed ∧ (m.gates.get n).mode = .forceOpen then
      m.askForced c n
    else m) offered

end Mix

/-! ### The same on State -/

/-- A channel's eligibility re-evaluated (R85): a channel that is not eligible and not PARKED is parked (R95); a PARKED
channel that is eligible and ALIGNED leaves PARKED (R87). -/
def State.reEvaluate (n : Channel) (s : State) : State :=
  if s.eligible n then
    if (s.gates.get n).state = .parked ∧ s.engine.aligned.get n then s.onMix (Mix.leaveParked s.settings n) else s
  else if (s.gates.get n).state = .parked then s
  else s.onMix (Mix.leave s.settings n .parked)

/-- The eligibility of a list of channels re-evaluated in order. -/
def State.reEvaluateAll (ns : List Channel) (s : State) : State := ns.foldl (fun s n => s.reEvaluate n) s

/-- Channels that have lost eligibility together are parked, with no offer to a forced-wait list (R105, R120, R165). -/
def State.parkIneligible (ns : List Channel) (s : State) : State :=
  ns.foldl (fun s n =>
    if s.eligible n || (s.gates.get n).state == .parked then s else s.onMix (Mix.leaveQuietly n .parked)) s

/-- A channel's effective mode re-evaluated (R92, R93). -/
def State.reMode (n : Channel) (s : State) : State :=
  s.onMix (Mix.setMode s.settings n (s.modeFrom n (s.gates.get n).portMode))

/-- The three steps of a move (R98): the current station, CHANNEL(n), the channel's eligibility. -/
def State.moveTo (n : Channel) (st : Option Station) (s : State) : State :=
  (({ s with gates := s.gates.modify n fun g => { g with station := st } }).askChannel n).reEvaluate n

/-- A switch to another arrangement, steps 1 to 5 and 7 of R120; step 6, the re-evaluation of every effective target, is
the end of the event that the switch is part of. -/
def State.switchTo (k : Arrangement) (s : State) : State :=
  let moved : Channel → Bool := fun n =>
    (s.settings.channelGroups.get k).get n != s.settings.channelGroup n
  let selected := { s with settings := { s.settings with active := k } }
  let taken := selected.onMix fun m =>
    (List.finRange 16).foldl (fun m n =>
      if moved n then
        if (memberGroup m.groups n).isSome then m.leaveQuietly n .closed else m.unwait n
      else m) m
  let parked := taken.parkIneligible (List.finRange 16)
  let asked := parked.askAll
  let fitted := asked.onMix fun m => (List.finRange 6).foldl (fun m g => m.fitAtSwitch asked.settings moved g) m
  fitted.post .arrangementChanged

end Sys2Proof.Machine
end

