-- ==== Sys2Proof/Machine/Alignment.lean ====
section
/-! DEFINITION. The alignment engine's commands (chapter 3): ITEM_START and the three completions, with the delivery of
results into the crosspoints; and the ends of fades (R65, R68). -/

namespace Sys2Proof.Machine

/-- The inputs of a full computation that belong to Mn, as they stand (R47). -/
def State.channelInputs (s : State) (n : Channel) : ChannelInputs where
  station := (s.gates.get n).station.map fun st => (s.settings.stations.get st).position
  window := s.settings.window n
  master := match s.settings.channelGroup n with
    | none => 0
    | some g => (s.settings.groupRecord g).master
  openCount := match s.settings.channelGroup n with
    | none => 0
    | some g => (s.groups.get g).openCount

/-- The inputs of GROUP(g): one record for each channel whose group is Gg, in ascending number (R41, R47). -/
def State.memberInputs (s : State) (g : Group) : List MemberInputs :=
  ((List.finRange 16).filter fun n => s.settings.channelGroup n == some g).map fun n =>
    { channel := n
      hasStation := (s.gates.get n).station.isSome
      stored := (s.crosspoints.get n).map fun _ x => (x.proximity, x.guarded) }

/-- The item in flight that an item becomes at its start, with the inputs as they stand (R47). -/
def State.takeInputs (s : State) : Item → Flight
  | .channel n => .channel n (s.channelInputs n) s.settings.zones s.engine.inUse
  | .group g => .group g (s.memberInputs g) (s.settings.zones.map fun _ z => z.trim)
      (s.settings.groupRecord g).master (s.groups.get g).openCount
  | .all => .all (.ofFn s.channelInputs) s.settings.zones s.engine.inUse

/-- The reported temperature copied into the temperature in use, at the start of an ALL item alone (R47, R57). -/
def Engine.copyTemperature (i : Item) (e : Engine) : Engine :=
  if i = .all then { e with inUse := e.reported } else e

/-- The engine removes an item from the head of the queue, leaving `rest`, and starts it (R46, R47). -/
def State.startItem (i : Item) (rest : List Item) (s : State) : State :=
  let copied := { s with engine := { s.engine.copyTemperature i with queue := rest } }
  { copied with engine := { copied.engine with flight := some (copied.takeInputs i) } }

/-- After a completion (R46): the new head is started, or the engine becomes IDLE and posts QUEUE_IDLE. -/
def State.nextItem (s : State) : State :=
  match s.engine.queue with
  | [] => ({ s with engine := { s.engine with flight := none } }).post .queueIdle
  | i :: rest => s.startItem i rest

/-- ITEM_START (R46, R47): an IDLE engine with a queue that is not empty starts its head item. Otherwise no start is due. -/
def execItemStart (s : State) : Host.Outcome State Fault Refusal :=
  occur (fun s => match s.engine.flight, s.engine.queue with
    | none, i :: rest => s.startItem i rest
    | _, _ => s) s

/-- Full results written into the crosspoints of the channels of `chosen`, all at one event (R53, R66), with their ALIGNED
flags set (R55) and one CLAMPED posted where a delivered result has a clamped delay (R54). -/
def State.deliverFull (chosen : Channel → Bool) (result : Channel → Zone → Result) (s : State) : State :=
  let written := { s with
    crosspoints := s.crosspoints.map fun n row =>
      if chosen n then row.map fun j x => x.deliver (s.live n j) (s.settings.fadeLength j) (result n j) else row
    engine := { s.engine with aligned := s.engine.aligned.map fun n b => chosen n || b } }
  if (List.finRange 16).any fun n => chosen n && (List.finRange 24).any fun j =>
      (result n j).clampedLow || (result n j).clampedHigh
  then written.post .clamped else written

/-- CHANNEL_ITEM_COMPLETE (R50, R53 to R55): the results of CHANNEL(n) are dropped where CHANNEL(n) or ALL is queued and
delivered otherwise; the channel may then leave PARKED (R87); the engine goes on with the queue (R46). Not due unless
CHANNEL(n) is in flight. -/
def execChannelItemComplete (n : Channel) (s : State) : Host.Outcome State Fault Refusal :=
  occur (fun s => match s.engine.flight with
    | some (.channel m inputs zones t) =>
      if m = n then
        if s.engine.queue.contains (.channel n) || s.engine.queue.contains .all then s.nextItem
        else (((s.deliverFull (fun k => k == n) fun _ j => fullResult inputs (zones.get j) t).reEvaluate n).settle
          s).nextItem
      else s
    | _ => s) s

/-- ALL_ITEM_COMPLETE (R51, R53 to R55): every result is dropped where ALL is queued; otherwise the results of each channel
are delivered unless its CHANNEL item is queued, all in one delivery; the channels may then leave PARKED in ascending
number (R87). Not due unless ALL is in flight. -/
def execAllItemComplete (s : State) : Host.Outcome State Fault Refusal :=
  occur (fun s => match s.engine.flight with
    | some (.all inputs zones t) =>
      if s.engine.queue.contains .all then s.nextItem
      else (((s.deliverFull (fun n => !s.engine.queue.contains (.channel n))
          fun n j => fullResult (inputs.get n) (zones.get j) t).reEvaluateAll (List.finRange 16)).settle s).nextItem
    | _ => s) s

/-- Level-only results written into the crosspoints of one channel (R52, R53). -/
def State.deliverLevels (m : MemberInputs) (level : Zone → Option Nat) (s : State) : State :=
  { s with crosspoints := s.crosspoints.modify m.channel fun row => row.map fun j x =>
      x.deliverLevel (s.live m.channel j) (s.settings.fadeLength j) (level j) }

/-- GROUP_ITEM_COMPLETE (R52, R53): the levels are always delivered, to the channels that were in the group at the item's
start; no ALIGNED flag is set and no CLAMPED posted. Not due unless GROUP(g) is in flight. -/
def execGroupItemComplete (g : Group) (s : State) : Host.Outcome State Fault Refusal :=
  occur (fun s => match s.engine.flight with
    | some (.group h members trims master count) =>
      if h = g then
        (members.foldl (fun s m => s.deliverLevels m fun j =>
          levelOnly m.hasStation (m.stored.get j) (trims.get j) master count) s).nextItem
      else s
    | _ => s) s

/-- One crosspoint changed. -/
def State.onCrosspoint (n : Channel) (j : Zone) (f : Crosspoint → Crosspoint) (s : State) : State :=
  { s with crosspoints := s.crosspoints.modify n fun row => row.modify j f }

/-- RAMP_END (R65): a RAMPING crosspoint whose fade remaining is 0 becomes STEADY, or SILENT where its target is off. Not
due for any other crosspoint. -/
def execRampEnd (n : Channel) (j : Zone) (s : State) : Host.Outcome State Fault Refusal :=
  occur (State.onCrosspoint n j Crosspoint.endRamp) s

/-- CROSSFADE_END (R68): a CROSSFADING crosspoint whose fade remaining is 0 drops its outgoing tap, becomes STEADY or
SILENT, and takes or crossfades to its pending delay. Not due for any other crosspoint. -/
def execCrossfadeEnd (n : Channel) (j : Zone) (s : State) : Host.Outcome State Fault Refusal :=
  occur (fun s => s.onCrosspoint n j (Crosspoint.endCrossfade (s.settings.fadeLength j))) s

end Sys2Proof.Machine
end

