-- ==== Sys2Proof/Machine/Gating.lean ====
section
/-! DEFINITION. The gate machine's commands (chapter 5): MEASUREMENT_COMPLETE and HOLD_COUNTDOWN_END. -/

namespace Sys2Proof.Machine

/-- A completed block of Mn is taken as its measurement `l`, and its gate machine acts on it (R82, R83, R88 to R91). -/
def State.takeMeasurement (n : Channel) (l : Nat) (s : State) : State :=
  ((({ s with gates := s.gates.modify n fun g => { g with detector := { g.detector with done := none } } }).onMix
    (Mix.measure s.settings n l)).settle s)

/-- MEASUREMENT_COMPLETE (R82, R83, R88 to R91): the block that channel Mn has completed is measured and acted on. Not due
where no completed block waits. -/
def execMeasurementComplete (n : Channel) (s : State) : Host.Outcome State Fault Refusal :=
  occur (fun s => match (s.gates.get n).detector.done with
    | none => s
    | some sum => s.takeMeasurement n (measurementOf sum)) s

/-- HOLD_COUNTDOWN_END (R90): the measurement that takes the hold counter of a HOLDING channel to 0, whereupon the channel
becomes LAST_ON or leaves the open set. It is the MEASUREMENT_COMPLETE of that case (log 8), and is not due in any
other. -/
def execHoldCountdownEnd (n : Channel) (s : State) : Host.Outcome State Fault Refusal :=
  occur (fun s => match (s.gates.get n).detector.done with
    | none => s
    | some sum =>
      if (s.gates.get n).state = .holding ∧ (s.gates.get n).holdCounter ≤ 1 ∧
          (s.settings.channels.get n).threshold + 12 < measurementOf sum then
        s.takeMeasurement n (measurementOf sum)
      else s) s

end Sys2Proof.Machine
end

