-- ==== Sys2Proof/Machine/Sockets.lean ====
section
/-! DEFINITION. The socket power unit's commands (chapter 7): the events of R129 to R135 and the requests of R136 to
R138. -/

namespace Sys2Proof.Machine

/-- A socket record changed. -/
def State.onSocket (n : Channel) (f : Socket → Socket) (s : State) : State :=
  { s with sockets := s.sockets.modify n f }

/-- The socket's state set. -/
def State.setPhase (n : Channel) (ph : SocketPhase) (s : State) : State := s.onSocket n fun x => { x with phase := ph }

/-- A socket that stands PRESENT and calls for power begins a ramp (R131, R132, R139, R140); any other is not moved. -/
def Socket.powerUp (autoPower : Bool) (x : Socket) : Socket :=
  match x.phase with
  | .present _ => if x.callsForPower autoPower then { x with phase := .ramping Config.phantomRampTime } else x
  | _ => x

/-- Phantom switched off by standby: RAMPING and POWERED become PRESENT, class CONDENSER (R140). -/
def Socket.powerDown (x : Socket) : Socket :=
  match x.phase with
  | .ramping _ => { x with phase := .present .condenser }
  | .powered => { x with phase := .present .condenser }
  | _ => x

/-- The end of a socket event at Mn: the channel's eligibility (R134), the GROUP asks and the effective targets. -/
def State.socketEvent (n : Channel) (s before : State) : State := (s.reEvaluate n).settle before

/-- A reading of the common-mode path has changed by more than 10 % from an earlier one (R130): by more than a tenth of the
earlier, or the path has come or gone (DEDUCED, log 34). -/
def pathChanged (earlier later : Option Nat) : Bool :=
  match earlier, later with
  | none, none => false
  | some a, some b => decide (a < 10 * ((b : Int) - a).natAbs)
  | _, _ => true

/-- Some reading of a run of them has changed by more than 10 % from one before it (R130). -/
def pathUnsteady : List (Option Nat) → Bool
  | [] => false
  | a :: rest => rest.any (pathChanged a) || pathUnsteady rest

/-- The readings of the common-mode path over the last 10 ms, earliest first (R130). -/
def commonModes (r : SenseReading) : List (Option Nat) :=
  r.earlier.map Resistances.commonMode ++ [r.last.commonMode]

/-- The class that a sensing latches, the rows of R130 in order; the rows after the first take the last reading (DEDUCED,
log 34). -/
def latchedClass (r : SenseReading) : SocketClass :=
  if pathUnsteady (commonModes r) then .unknown
  else if r.last.commonMode.any fun ohms => ohms ≤ 100000 then .condenser
  else match r.last.legs with
    | none => .lineReceiver
    | some ohms => if ohms ≤ 1000 then .dynamic else if 5000 ≤ ohms then .lineReceiver else .unknown

/-- The raw level of a socket's presence contact; a change of it restarts the 50 ms debounce (R129). -/
def Socket.follow (closed : Bool) (x : Socket) : Socket :=
  if closed = x.raw then x else { x with raw := closed, debounce := some Config.presenceDebounce }

/-- RAW_PRESENCE_CHANGE (R129): a change of the raw contact level restarts the 50 ms debounce. The level is followed even
while the part is held, so that the debounce after the reset starts from it (R168). -/
def execRawPresenceChange (n : Channel) (closed : Bool) (s : State) : Host.Outcome State Fault Refusal :=
  .next (s.onSocket n (Socket.follow closed))

/-- INSERTION (R129, R130): the raw level has held present for 50 ms and the debounced presence was absent; an EMPTY socket
becomes SENSING. The insertion clears the auto power suppressed flag (R128, R137). Not due otherwise. -/
def execInsertion (n : Channel) (s : State) : Host.Outcome State Fault Refusal :=
  occur (fun s =>
    if (s.sockets.get n).debounce = some 0 ∧ (s.sockets.get n).raw ∧ ¬(s.sockets.get n).presence then
      s.onSocket n fun x =>
        { x with
          presence := true
          debounce := none
          suppressed := false
          phase := if x.phase = .empty then .sensing Config.sensingTime else x.phase }
    else s) s

/-- SENSING_END (R130, R131): the 100 ms of sensing have ended; the class is latched, SOCKET_CHANGE posted, and an awake
socket that calls for power begins its ramp. Not due otherwise. -/
def execSensingEnd (n : Channel) (r : SenseReading) (s : State) : Host.Outcome State Fault Refusal :=
  occur (fun s =>
    if (s.sockets.get n).phase = .sensing 0 then
      let latched := (s.setPhase n (.present (latchedClass r))).post .socketChange
      let powered := if s.standby then latched
        else latched.onSocket n (Socket.powerUp (s.settings.channels.get n).autoPower)
      powered.socketEvent n s
    else s) s

/-- PHANTOM_RAMP_END (R132): the 200 ms of a ramp have ended; the socket is POWERED, POWER_READY is posted. Not due
otherwise. -/
def execPhantomRampEnd (n : Channel) (s : State) : Host.Outcome State Fault Refusal :=
  occur (fun s =>
    if (s.sockets.get n).phase = .ramping 0 then ((s.setPhase n .powered).post .powerReady).socketEvent n s else s) s

/-- How much of a phantom current that has lasted `lasted` samples has flowed since phantom was applied (R132, R133): none
where none is applied, and in a ramp no more than the ramp's own samples. A POWERED socket has its whole ramp behind it. -/
def SocketPhase.currentTime (lasted : Nat) : SocketPhase → Nat
  | .ramping remaining => min lasted (Config.phantomRampTime - remaining)
  | .powered => lasted
  | _ => 0

/-- The test of R133: a phantom current above 12 mA that has lasted 5 ms or more, at a socket in RAMPING or POWERED. -/
def SocketPhase.overcurrent (x : PhantomCurrent) (ph : SocketPhase) : Bool :=
  decide (Config.overcurrentMicroamps < x.microamps) && decide (Config.overcurrentTime ≤ ph.currentTime x.lasted)

/-- OVERCURRENT (R133): a phantom current of a socket, with how long it has lasted (log 21). Where that is an overcurrent,
phantom is switched off, the socket becomes FAULT and POWER_FAULT is posted; a smaller or shorter current is none. -/
def execOvercurrent (x : PhantomCurrent) (s : State) : Host.Outcome State Fault Refusal :=
  occur (fun s =>
    if (s.sockets.get x.socket).phase.overcurrent x then
      ((s.setPhase x.socket .fault).post .powerFault).socketEvent x.socket s
    else s) s

/-- REMOVAL (R129, R135): the raw level has held absent for 50 ms and the debounced presence was present; the socket is
EMPTY with nothing kept. SOCKET_CHANGE is posted, and LIVE_REMOVAL where the channel is a member of an open set. Not due
otherwise. -/
def execRemoval (n : Channel) (s : State) : Host.Outcome State Fault Refusal :=
  occur (fun s =>
    if (s.sockets.get n).debounce = some 0 ∧ ¬(s.sockets.get n).raw ∧ (s.sockets.get n).presence then
      let emptied := (s.onSocket n fun x =>
        { x with phase := .empty, wish := false, suppressed := false, presence := false, debounce := none }).post
          .socketChange
      let posted := if (memberGroup s.groups n).isSome then emptied.post .liveRemoval else emptied
      posted.socketEvent n s
    else s) s

/-- What an accepted request for on does to a socket, by its state (R136). -/
def Socket.powerOnRequest (x : Socket) : Socket :=
  { x with
    wish := true
    phase := match x.phase with
      | .present _ => .ramping Config.phantomRampTime
      | .fault => .ramping Config.phantomRampTime
      | ph => ph }

/-- What SET_SOCKET_POWER for on answers (R136), for a body of socket and value; a value other than off or on passes to the
value check after the index. -/
def serveSocketPowerOn (body : List Byte) (s : State) : Reply :=
  naming 2 body s fun n : Channel =>
    if natAt body 1 ≠ 1 then refuse s .badValue
    else match (s.sockets.get n).phase.sensedClass with
      | none => refuse s .notPresent
      | some .condenser =>
        if s.standby then refuse s .inStandby
        else accept ((s.onSocket n Socket.powerOnRequest).socketEvent n s)
      | some _ => refuse (s.post .powerRefused) .powerRefused

/-- SET_SOCKET_POWER_ON (R136): a SET_SOCKET_POWER frame whose value is not off. A body whose value is off is the other
row's frame. -/
def execSetSocketPowerOn (p : Port) (body : List Byte) (s : State) : Host.Outcome State Fault Refusal :=
  occur (fun s =>
    if body.length = 2 ∧ natAt body 1 = 0 then s else s.request p 0x0B body false (serveSocketPowerOn body)) s

/-- What a request for off does to a socket, by its state (R137). -/
def Socket.powerOffRequest (x : Socket) : Socket :=
  { x with
    wish := false
    suppressed := true
    phase := match x.phase with
      | .ramping _ => .present .condenser
      | .powered => .present .condenser
      | .fault => .present .condenser
      | ph => ph }

/-- What SET_SOCKET_POWER for off answers (R137). -/
def serveSocketPowerOff (body : List Byte) (s : State) : Reply :=
  naming 2 body s fun n : Channel => accept ((s.onSocket n Socket.powerOffRequest).socketEvent n s)

/-- SET_SOCKET_POWER_OFF (R137): a SET_SOCKET_POWER frame whose value is off. A body with another value is the other row's
frame. -/
def execSetSocketPowerOff (p : Port) (body : List Byte) (s : State) : Host.Outcome State Fault Refusal :=
  occur (fun s =>
    if body.length = 2 ∧ natAt body 1 ≠ 0 then s else s.request p 0x0B body false (serveSocketPowerOff body)) s

/-- What RESENSE_SOCKET answers (R138). -/
def serveResense (body : List Byte) (s : State) : Reply :=
  naming 1 body s fun n : Channel =>
    if (s.sockets.get n).phase = .empty then refuse s .notPresent
    else if s.standby then refuse s .inStandby
    else
      accept ((s.onSocket n fun x =>
        { x with phase := .sensing Config.sensingTime, wish := false, suppressed := false }).socketEvent n s)

/-- RESENSE_SOCKET (R138). -/
def execResenseSocket (p : Port) (body : List Byte) (s : State) : Host.Outcome State Fault Refusal :=
  occur (fun s => s.request p 0x0C body false (serveResense body)) s

end Sys2Proof.Machine
end

