-- ==== Sys2Proof/Machine/Zones.lean ====
section
/-! DEFINITION. The zone output unit and the override monitor (chapter 8): ZONE_MUTE, the life-safety line, RESUME_AFTER_
OVERRIDE. -/

namespace Sys2Proof.Machine

/-- A zone's runtime record changed. -/
def State.onZone (j : Zone) (f : ZoneState → ZoneState) (s : State) : State := { s with zones := s.zones.modify j f }

/-- What ZONE_MUTE answers (R148). -/
def serveZoneMute (p : Port) (body : List Byte) (s : State) : Reply :=
  naming 2 body s fun j : Zone =>
    if heldElsewhere s.groups p (s.settings.zoneGroup j) then refuse s .heldElsewhere
    else match yesNo (natAt body 1) with
      | none => refuse s .badValue
      | some mute => accept ((s.onZone j fun z => { z with requestMute := mute }).settle s)

/-- ZONE_MUTE (R148). -/
def execZoneMute (p : Port) (body : List Byte) (s : State) : Host.Outcome State Fault Refusal :=
  occur (fun s => s.request p 0x0A body false (serveZoneMute p body)) s

/-- The zones of `zones` taken over at one event (R75, R150): every crosspoint SILENT at once, the flag set, the causes
kept. -/
def State.takeOver (zones : Zone → Bool) (s : State) : State :=
  { s with
    crosspoints := s.crosspoints.map fun _ row => row.map fun j x => if zones j then x.seize else x
    zones := s.zones.map fun j z => if zones j then { z with taken := true } else z }

/-- The override monitor changed. -/
def State.onOverride (f : Override → Override) (s : State) : State := { s with override := f s.override }

/-- The raw level of the life-safety line; a change of it restarts the 50 ms debounce (R149). -/
def Override.follow (asserted : Bool) (o : Override) : Override :=
  if asserted = o.raw then o else { o with raw := asserted, debounce := some Config.lineDebounce }

/-- RAW_LINE_CHANGE (R149): the loop current, in microamperes. The level is followed even while the part is held (R168). -/
def execRawLineChange (microamps : Nat) (s : State) : Host.Outcome State Fault Refusal :=
  .next (s.onOverride (Override.follow (decide (Config.lineThresholdMicroamps ≤ microamps))))

/-- The debounced level has taken the raw level `level` (R149). -/
def Override.take (level : Bool) (o : Override) : Override := { o with debounced := level, debounce := none }

/-- OVERRIDE_ASSERTION (R149, R150, R152): the raw level has held asserted for 50 ms and the debounced level was deasserted.
A monitor in IDLE or LATCHED becomes ACTIVE and takes over every member zone. Not due otherwise. -/
def execOverrideAssertion (s : State) : Host.Outcome State Fault Refusal :=
  occur (fun s =>
    if s.override.debounce = some 0 ∧ s.override.raw ∧ ¬s.override.debounced then
      let heard := s.onOverride (Override.take true)
      if s.override.state = .active then heard
      else
        (((heard.onOverride fun o => { o with state := .active }).takeOver
          fun j => (s.settings.zones.get j).member).post .overrideChange).settle s
    else s) s

/-- A zone taken over is released and gains OVERRIDE_LATCH (R151). -/
def ZoneState.release (z : ZoneState) : ZoneState := if z.taken then { z with taken := false, overrideLatch := true } else z

/-- OVERRIDE_DEASSERTION (R149, R151): the raw level has held deasserted for 50 ms and the debounced level was asserted. An
ACTIVE monitor becomes LATCHED; every zone taken over is released and gains OVERRIDE_LATCH. Not due otherwise. -/
def execOverrideDeassertion (s : State) : Host.Outcome State Fault Refusal :=
  occur (fun s =>
    if s.override.debounce = some 0 ∧ ¬s.override.raw ∧ s.override.debounced then
      let heard := s.onOverride (Override.take false)
      if s.override.state ≠ .active then heard
      else
        (((heard.onOverride fun o => { o with state := .latched }).onZones fun _ z => z.release).post
          .overrideChange).settle s
    else s) s

/-- What RESUME_AFTER_OVERRIDE answers (R153). -/
def serveResume (body : List Byte) (s : State) : Reply :=
  sized 0 body s (match s.override.state with
    | .idle => accept s
    | .active => refuse s .overrideActive
    | .latched =>
      accept ((((s.onOverride fun o => { o with state := .idle }).onZones
        fun _ z => { z with overrideLatch := false }).post .overrideChange).settle s))

/-- RESUME_AFTER_OVERRIDE (R153). -/
def execResumeAfterOverride (p : Port) (body : List Byte) (s : State) : Host.Outcome State Fault Refusal :=
  occur (fun s => s.request p 0x10 body false (serveResume body)) s

end Sys2Proof.Machine
end

