-- ==== Sys2Proof/Machine/Clocking.lean ====
section
/-! DEFINITION. The clock monitor and standby (chapter 9): word clock edges, gaps and qualification, REARM_OUTPUTS, STANDBY
and WAKE. -/

namespace Sys2Proof.Machine

/-- The clock monitor changed. -/
def State.onClock (f : Clock → Clock) (s : State) : State := { s with clock := f s.clock }

/-- The end of an event that gave or took CLOCK or STANDBY at the zones of `zones` (R74, R111). -/
def State.settleClock (s before : State) (zones : Zone → Bool) : State :=
  (s.askCounts before).retargetClock zones

/-- The mean frequency of the noted edges, which are the valid edges of the 10 ms that end at the last of them: their number
and the time of their periods (R159, log 12). -/
def meanReference (edges : List Edge) : ClockReference := .mean edges.length (edges.map Edge.period).sum

/-- A valid edge joins the valid edges of the 10 ms before it (R159). -/
def noteValid (periodNs : Nat) (edges : List Edge) : List Edge :=
  ⟨periodNs, 0⟩ :: edges.filter fun e => decide (e.age < Config.frequencyWindow)

/-- An edge is valid (R159): it has an edge before it, and its period lies between 19.8 µs and 21.9 µs. -/
def Clock.validEdge (c : Clock) (periodNs : Nat) : Bool :=
  c.edgeSeen && (Config.edgeMinNs ≤ periodNs && periodNs ≤ Config.edgeMaxNs)

/-- An edge noted: it is the reference of the next, and a valid one joins the valid edges of its last 10 ms and begins the
wait for a gap anew (R159). -/
def Clock.noteEdge (periodNs : Nat) (valid : Bool) (c : Clock) : Clock :=
  { c with
    edgeSeen := true
    edges := if valid then noteValid periodNs c.edges else c.edges
    gap := if valid then some Config.gapTime else c.gap }

/-- What an edge does to the state and the run of the monitor (R161 to R163). -/
def Clock.edge (periodNs : Nat) (c : Clock) : Clock :=
  let noted := c.noteEdge periodNs (c.validEdge periodNs)
  match c.state with
  | .internal => c
  | .locking =>
    { noted with run := if c.validEdge periodNs then some (c.run.getD Config.qualificationTime) else none }
  | .locked => if c.validEdge periodNs then { noted with reference := .wordClock } else noted
  | .holdover =>
    if c.validEdge periodNs then { noted with state := .locking, run := some Config.qualificationTime } else noted

/-- WORD_CLOCK_EDGE (R159, R161 to R163): an edge with its period from the edge before it, in nanoseconds; in INTERNAL edges
are not watched. -/
def execWordClockEdge (periodNs : Nat) (s : State) : Host.Outcome State Fault Refusal :=
  occur (State.onClock (Clock.edge periodNs)) s

/-- QUALIFICATION_COMPLETE (R161): 100 ms of a run have passed; LOCKED, CLOCK_LOCKED posted, no CLOCK cause removed (R163).
The sample clock follows the word clock from the next valid edge (R159). Not due otherwise. -/
def execQualificationComplete (s : State) : Host.Outcome State Fault Refusal :=
  occur (fun s =>
    if s.clock.state = .locking ∧ s.clock.run = some 0 then
      (s.onClock fun c => { c with state := .locked, run := none }).post .clockLocked
    else s) s

/-- CLOCK_GAP (R159, R161 to R163): 1 ms has passed with no valid edge. In LOCKING the run ends; in LOCKED the monitor goes
to HOLDOVER with CLOCK_LOST, and with auto-silence every zone gains CLOCK. Not due otherwise. -/
def execClockGap (s : State) : Host.Outcome State Fault Refusal :=
  occur (fun s =>
    if s.clock.gap = some 0 then
      match s.clock.state with
      | .internal => s
      | .locking => s.onClock fun c => { c with gap := none, run := none }
      | .holdover => s.onClock fun c => { c with gap := none }
      | .locked =>
        let lost := (s.onClock fun c =>
          { c with state := .holdover, gap := none, run := none, reference := meanReference c.edges }).post .clockLost
        if s.settings.system.autoSilence then
          (lost.onZones fun _ z => { z with clock := true }).settleClock s fun j => !(s.zones.get j).clock
        else lost
    else s) s

/-- What REARM_OUTPUTS answers (R164). -/
def serveRearm (body : List Byte) (s : State) : Reply :=
  sized 0 body s (if s.clock.state = .locked ∨ s.clock.state = .internal then
      accept ((s.onZones fun _ z => { z with clock := false }).settleClock s fun j => (s.zones.get j).clock)
    else refuse s .clockNotReady)

/-- REARM_OUTPUTS (R164). -/
def execRearmOutputs (p : Port) (body : List Byte) (s : State) : Host.Outcome State Fault Refusal :=
  occur (fun s => s.request p 0x11 body false (serveRearm body)) s

/-- Every detector begins a new block, and every latest measurement becomes 240 (R83). -/
def State.freshDetectors (s : State) : State :=
  { s with gates := s.gates.map fun _ g => { g with latest := 240, detector := .fresh } }

/-- Every forced-wait list emptied (R165). -/
def State.emptyWaiting (s : State) : State :=
  { s with groups := s.groups.map fun _ x => { x with waiting := [] } }

/-- Every socket acted on. -/
def State.onSockets (f : Channel → Socket → Socket) (s : State) : State := { s with sockets := s.sockets.map f }

/-- Entry to standby (R165): every zone gains STANDBY, the forced-wait lists are emptied, detectors stop, every channel is
parked and leaves its open set, and phantom is removed. -/
def State.enterStandby (s : State) : State :=
  let silenced := ({ s with standby := true } : State).onZones fun _ z => { z with standby := true }
  let told := silenced.emptyWaiting.freshDetectors.onSockets fun _ x => x.powerDown
  (told.parkIneligible (List.finRange 16)).settleClock s fun j => !(s.zones.get j).standby

/-- What STANDBY answers (R165). -/
def serveStandby (body : List Byte) (s : State) : Reply :=
  sized 0 body s (if s.standby then accept s else accept s.enterStandby)

/-- STANDBY (R165). -/
def execStandby (p : Port) (body : List Byte) (s : State) : Host.Outcome State Fault Refusal :=
  occur (fun s => s.request p 0x13 body false (serveStandby body)) s

/-- The wake (R167): every zone loses STANDBY, delay memory is cleared, detectors begin new blocks, sockets that call for
power ramp; then the channels that can leave PARKED do, in ascending number. The fades of channels that enter a set at the
wake take their zone's profile (DEDUCED, log 26), and GROUP(g) is asked where such entries change an open count, though R167
says that a wake asks for no retune item (DEDUCED, log 31). -/
def State.leaveStandby (s : State) : State :=
  let told := ((({ s with standby := false, delay := .silent } : State).onZones
    fun _ z => { z with standby := false }).freshDetectors).onSockets
      fun n x => x.powerUp (s.settings.channels.get n).autoPower
  ((told.retargetClock fun j => (s.zones.get j).standby).reEvaluateAll (List.finRange 16)).settle s

/-- What WAKE answers (R167). -/
def serveWake (body : List Byte) (s : State) : Reply :=
  sized 0 body s (if s.standby then accept s.leaveStandby else accept s)

/-- WAKE (R167). -/
def execWake (p : Port) (body : List Byte) (s : State) : Host.Outcome State Fault Refusal :=
  occur (fun s => s.request p 0x14 body false (serveWake body)) s

end Sys2Proof.Machine
end

