-- ==== Sys2Proof/Machine/Contacts.lean ====
section
/-! DEFINITION. The contact inputs (R196 to R200) and the end of an attention pulse (R195). -/

namespace Sys2Proof.Machine

/-- A zone's CONTACT_MUTE re-evaluated against the active contact inputs (R146, R198). -/
def State.reMute (j : Zone) (s : State) : State :=
  s.onZone j fun z => { z with contactMute := s.anyActive (.zoneMuteWhile j) }

/-- What a while-action bears on, re-evaluated (R198): the effective mode of its channel, or the CONTACT_MUTE of its zone.
The other actions bear on nothing while their input is active. -/
def State.reAct (a : ContactAction) (s : State) : State :=
  match a with
  | .forceOpenWhile n => s.reMode n
  | .forceClosedWhile n => s.reMode n
  | .zoneMuteWhile j => s.reMute j
  | _ => s

/-- A contact input changed. -/
def State.onContact (k : ContactIn) (f : Contact → Contact) (s : State) : State :=
  { s with contacts := s.contacts.modify k f }

/-- The raw level of a contact input; a change of it restarts the debounce of `b` (R197). -/
def Contact.follow (b : ContactBinding) (closed : Bool) (c : Contact) : Contact :=
  if closed = c.raw then c else { c with raw := closed, debounce := some b.debounceSamples }

/-- RAW_CONTACT_CHANGE (R197). The level is followed even while the part is held (R168). -/
def execRawContactChange (k : ContactIn) (closed : Bool) (s : State) : Host.Outcome State Fault Refusal :=
  .next (s.onContact k (Contact.follow (s.settings.contactIn.get k) closed))

/-- No group has a holder (R199). -/
def State.noHolder (s : State) : Bool := (List.finRange 6).all fun g => (s.groups.get g).holder.isNone

/-- A contact input's action applied at its debounced change (R198, R199). -/
def State.applyContact (k : ContactIn) (s : State) : State :=
  match (s.settings.contactIn.get k).action with
  | .move n st => if s.contactActive k then s.moveTo n st else s
  | .arrange a => if s.contactActive k ∧ s.noHolder ∧ a ≠ s.settings.active then s.switchTo a else s
  | a => s.reAct a

/-- CONTACT_CHANGE (R197 to R199): the raw level has held for the debounce time and differs from the debounced level; the
debounced level takes it, CONTACT_CHANGE is posted and the action applied. Not due otherwise. -/
def execContactChange (k : ContactIn) (s : State) : Host.Outcome State Fault Refusal :=
  occur (fun s =>
    if (s.contacts.get k).debounce = some 0 ∧ (s.contacts.get k).raw ≠ (s.contacts.get k).debounced then
      (((s.onContact k fun c => { c with debounced := c.raw, debounce := none }).post .contactChange).applyContact
        k).settle s
    else s) s

/-- PULSE_END (R195): the 1 ms of an attention pulse has passed and the line is released. Not due otherwise. -/
def execPulseEnd (p : Port) (s : State) : Host.Outcome State Fault Refusal :=
  occur (fun s => if (s.events.get p).pulse = some 0 then s.endPulse p else s) s

end Sys2Proof.Machine
end

