-- ==== Sys2Proof/Machine/Requests.lean ====
section
/-! DEFINITION. The requests that name no table and that no earlier file holds: moves and gate modes (R97, R98), temperature
(R38, R56), arrangements and holds (R119 to R123), events (R191, R192), the freeze (R15) and the request for a runtime
reset (R169). -/

namespace Sys2Proof.Machine

/-! ### Channels -/

/-- What MOVE_SOURCE answers (R98). -/
def serveMoveSource (p : Port) (body : List Byte) (s : State) : Reply :=
  naming 2 body s fun n : Channel =>
    if heldElsewhere s.groups p (s.settings.channelGroup n) then refuse s .heldElsewhere
    else match numberedOrNone 32 (natAt body 1) with
      | none => refuse s .badValue
      | some st => accept ((s.moveTo n st).settle s)

/-- MOVE_SOURCE (R98). -/
def execMoveSource (p : Port) (body : List Byte) (s : State) : Host.Outcome State Fault Refusal :=
  occur (fun s => s.request p 0x03 body false (serveMoveSource p body)) s

/-- A named mode, applied as the port-set mode of Mn, would make or leave its effective mode FORCE_OPEN; a code that names no
mode leaves what the contacts give (R97, step 3; log 16). -/
def State.wouldForceOpen (n : Channel) (mode : Option GateMode) (s : State) : Bool :=
  ((s.contactForce n).or mode) == some .forceOpen

/-- The request would send a forced ask that the arbiter does not grant (R97, step 3). Every request that leaves the
effective mode of a waiting channel at FORCE_OPEN is so refused: one that names the stored mode, which a later sentence of
R97 accepts (DEDUCED, log 33), and one that names another mode under an active contact FORCE_OPEN_WHILE, AUTO and
FORCE_CLOSED among them, which the sentence on contact forces accepts and stores (DEDUCED, log 35). -/
def State.forcedAskFails (n : Channel) (mode : Option GateMode) (s : State) : Bool :=
  (s.gates.get n).state == .closed && s.wouldForceOpen n mode &&
    match s.settings.channelGroup n with
    | none => false
    | some g => !(s.mix.grantable (s.settings.groupRecord g).maxOpen g)

/-- The port-set mode stored and the effective mode re-evaluated (R92, R97); a CLOSED channel whose mode becomes or stays
FORCE_OPEN makes its forced ask. -/
def State.setPortMode (n : Channel) (mode : GateMode) (s : State) : State :=
  let stored := { s with gates := s.gates.modify n fun g => { g with portMode := mode } }
  if (s.gates.get n).state = .closed ∧ s.wouldForceOpen n (some mode) then
    stored.onMix fun m => (m.onGate n fun g => { g with mode := .forceOpen }).askForced s.settings n
  else stored.reMode n

/-- What SET_GATE_MODE answers (R97). -/
def serveSetGateMode (p : Port) (body : List Byte) (s : State) : Reply :=
  naming 2 body s fun n : Channel =>
    if heldElsewhere s.groups p (s.settings.channelGroup n) then refuse s .heldElsewhere
    else if s.forcedAskFails n (gateModeOf (natAt body 1)) then refuse s .groupFull
    else match gateModeOf (natAt body 1) with
      | none => refuse s .badValue
      | some mode => accept ((s.setPortMode n mode).settle s)

/-- SET_GATE_MODE (R97). -/
def execSetGateMode (p : Port) (body : List Byte) (s : State) : Host.Outcome State Fault Refusal :=
  occur (fun s => s.request p 0x04 body false (serveSetGateMode p body)) s

/-! ### Temperature -/

/-- A temperature limited to −100 to 400 tenths (R38). -/
def limitTemperature (t : Int) : Int := max (-100) (min 400 t)

/-- A report is five tenths or more from the temperature in use, in either direction (R56). -/
def beyondDeadband (reported inUse : Int) : Bool := 5 ≤ (reported - inUse).natAbs

/-- A temperature reported (R38, R56): stored, TEMP_UNSET cleared, and ALL asked where it lies beyond the deadband. -/
def State.reportTemperature (t : Int) (s : State) : State :=
  let told := { s with engine := { s.engine with reported := t, tempUnset := false } }
  if beyondDeadband t s.engine.inUse then told.askAll else told

/-- What SET_TEMPERATURE answers (R38, R56). -/
def serveSetTemperature (body : List Byte) (s : State) : Reply :=
  sized 2 body s (
    if limitTemperature (intAt body 0) = intAt body 0 then accept (s.reportTemperature (intAt body 0))
    else acceptClamped true ((s.reportTemperature (limitTemperature (intAt body 0))).post .clamped))

/-- SET_TEMPERATURE (R38, R56). -/
def execSetTemperature (p : Port) (body : List Byte) (s : State) : Host.Outcome State Fault Refusal :=
  occur (fun s => s.request p 0x05 body false (serveSetTemperature body)) s

/-! ### Arrangements and holds -/

/-- What SELECT_ARRANGEMENT answers (R119). -/
def serveSelectArrangement (p : Port) (body : List Byte) (s : State) : Reply :=
  sized 1 body s (
    if (List.finRange 6).any fun g : Group => heldElsewhere s.groups p (some g) then refuse s .heldElsewhere
    else match numbered 4 (natAt body 0) with
      | none => refuse s .badValue
      | some k => if k = s.settings.active then accept s else accept ((s.switchTo k).settle s))

/-- SELECT_ARRANGEMENT (R119 to R121). -/
def execSelectArrangement (p : Port) (body : List Byte) (s : State) : Host.Outcome State Fault Refusal :=
  occur (fun s => s.request p 0x06 body false (serveSelectArrangement p body)) s

/-- The holder of a group set (R122). -/
def State.setHolder (g : Group) (h : Option Port) (s : State) : State :=
  { s with groups := s.groups.modify g fun x => { x with holder := h } }

/-- What HOLD_GROUP answers (R122). -/
def serveHoldGroup (p : Port) (body : List Byte) (s : State) : Reply :=
  naming 1 body s fun g : Group =>
    match (s.groups.get g).holder with
    | none => accept (s.setHolder g (some p))
    | some q => if q = p then accept s else refuse s .heldElsewhere

/-- HOLD_GROUP (R122). -/
def execHoldGroup (p : Port) (body : List Byte) (s : State) : Host.Outcome State Fault Refusal :=
  occur (fun s => s.request p 0x07 body false (serveHoldGroup p body)) s

/-- What RELEASE_GROUP answers (R123). -/
def serveReleaseGroup (p : Port) (body : List Byte) (s : State) : Reply :=
  naming 1 body s fun g : Group =>
    if (s.groups.get g).holder = some p then accept (s.setHolder g none) else refuse s .notHolder

/-- RELEASE_GROUP (R123). -/
def execReleaseGroup (p : Port) (body : List Byte) (s : State) : Host.Outcome State Fault Refusal :=
  occur (fun s => s.request p 0x08 body false (serveReleaseGroup p body)) s

/-- What BREAK_HOLD answers (R123): HOLD_BROKEN goes to the former holder's set alone. -/
def serveBreakHold (body : List Byte) (s : State) : Reply :=
  naming 1 body s fun g : Group =>
    match (s.groups.get g).holder with
    | none => refuse s .notHeld
    | some q => accept ((s.setHolder g none).postTo q EventKind.holdBroken.mask)

/-- BREAK_HOLD (R123). -/
def execBreakHold (p : Port) (body : List Byte) (s : State) : Host.Outcome State Fault Refusal :=
  occur (fun s => s.request p 0x09 body false (serveBreakHold body)) s

/-! ### Events -/

/-- The body of a READ_EVENTS response (R191, section 10.8): the port's set and the summary. -/
def State.eventSummary (p : Port) (s : State) : List Byte :=
  maskOf (s.events.get p).sticky
    ++ [s.clock.state.code, s.override.state.code, flagOf s.standby, flagOf s.engine.flight.isSome,
      flagOf s.engine.tempUnset]

/-- What READ_EVENTS answers (R191). -/
def serveReadEvents (p : Port) (body : List Byte) (s : State) : Reply := sized 0 body s ⟨s, .ok, s.eventSummary p⟩

/-- READ_EVENTS (R191). -/
def execReadEvents (p : Port) (body : List Byte) (s : State) : Host.Outcome State Fault Refusal :=
  occur (fun s => s.request p 0x0D body false (serveReadEvents p body)) s

/-- Kinds removed from one port's set (R192); a clear neither makes nor ends a pulse (R195). -/
def State.clearKinds (p : Port) (kinds : EventMask) (s : State) : State :=
  { s with events := s.events.set p { s.events.get p with sticky := (s.events.get p).sticky &&& ~~~kinds } }

/-- What CLEAR_EVENTS answers (R192). -/
def serveClearEvents (p : Port) (body : List Byte) (s : State) : Reply :=
  sized 3 body s (if maskValid (maskAt body 0) then accept (s.clearKinds p (maskAt body 0)) else refuse s .badValue)

/-- CLEAR_EVENTS (R192). -/
def execClearEvents (p : Port) (body : List Byte) (s : State) : Host.Outcome State Fault Refusal :=
  occur (fun s => s.request p 0x0E body false (serveClearEvents p body)) s

/-- What FORCE_EVENTS answers (R192). -/
def serveForceEvents (p : Port) (body : List Byte) (s : State) : Reply :=
  sized 3 body s (if maskValid (maskAt body 0) then accept (s.postTo p (maskAt body 0)) else refuse s .badValue)

/-- FORCE_EVENTS (R192). -/
def execForceEvents (p : Port) (body : List Byte) (s : State) : Host.Outcome State Fault Refusal :=
  occur (fun s => s.request p 0x0F body false (serveForceEvents p body)) s

/-! ### The freeze and the request for a runtime reset -/

/-- What FREEZE_GEOMETRY answers (R15). -/
def serveFreeze (body : List Byte) (s : State) : Reply := sized 0 body s (accept { s with frozen := true })

/-- FREEZE_GEOMETRY (R15). -/
def execFreezeGeometry (p : Port) (body : List Byte) (s : State) : Host.Outcome State Fault Refusal :=
  occur (fun s => s.request p 0x12 body false (serveFreeze body)) s

/-- What RESET_RUNTIME answers (R169); the reset itself is performed when the response has been sent. -/
def serveResetRuntime (body : List Byte) (s : State) : Reply := sized 0 body s (accept s)

/-- RESET_RUNTIME (R169): a request whose body is empty is answered OK, and marks its response as the one at whose end the
reset is performed. -/
def execResetRuntime (p : Port) (body : List Byte) (s : State) : Host.Outcome State Fault Refusal :=
  occur (fun s => s.request p 0x15 body body.isEmpty (serveResetRuntime body)) s

end Sys2Proof.Machine
end

