-- ==== Sys2Proof/Machine/Tables.lean ====
section
/-! DEFINITION. READ_ENTRY and the WRITE_ENTRY rows (R183, R184), each writable table with the checks and the effects of its
owning rules. -/

namespace Sys2Proof.Machine

/-! ### Reading (R183) -/

/-- The entries that a READ_ENTRY returns (R183): no more than the count, none past the table's end, and as many as fit in
244 bytes. -/
def State.shownEntries (table first count size : Nat) (s : State) : List (List Byte) :=
  fitting ((List.range (min count (size - first))).map fun k => s.tableEntry table (first + k)) 244

/-- What READ_ENTRY answers (R183). -/
def serveReadEntry (body : List Byte) (s : State) : Reply :=
  sized 5 body s (match tableEntries (natAt body 0) with
    | none => refuse s .badTable
    | some size =>
      if size ≤ wordAt body 1 then refuse s .badIndex
      else if wordAt body 3 = 0 then refuse s .badValue
      else
        let shown := s.shownEntries (natAt body 0) (wordAt body 1) (wordAt body 3) size
        ⟨s, .ok, byteAt body 0 :: (wordOf (wordAt body 1) ++ byteOf shown.length :: shown.flatten)⟩)

/-- READ_ENTRY (R183). -/
def execReadEntry (p : Port) (body : List Byte) (s : State) : Host.Outcome State Fault Refusal :=
  occur (fun s => s.request p 0x01 body false (serveReadEntry body)) s

/-! ### Stations (R1 to R3) -/

/-- The retained settings changed. -/
def State.onSettings (f : Settings → Settings) (s : State) : State := { s with settings := f s.settings }

/-- CHANNEL(n) asked for each channel that a test picks, in ascending number. -/
def State.askChannels (chosen : Channel → Bool) (s : State) : State :=
  ((List.finRange 16).filter chosen).foldl (fun s n => s.askChannel n) s

/-- An accepted STATION write (R3). -/
def State.storeStation (k : Station) (r : StationRec) (s : State) : State :=
  let stored := s.onSettings fun c => { c with stations := c.stations.set k r }
  if (s.settings.stations.get k).position = r.position then stored
  else stored.askChannels fun n => (s.gates.get n).station == some k

/-- What a WRITE_ENTRY to the STATION table answers (R2). -/
def serveWriteStation (index : BitVec 16) (entry : List Byte) (s : State) : Reply :=
  writeEntry 14 index entry s fun k : Station =>
    if s.frozen ∧ stationOf entry ≠ s.settings.stations.get k then refuse s .frozen
    else if nameValid (stationOf entry).name then accept (s.storeStation k (stationOf entry))
    else refuse s .badValue

/-- WRITE_ENTRY to the STATION table (R1 to R3). -/
def execWriteEntryStation (p : Port) (index : BitVec 16) (entry : List Byte) (s : State) :
    Host.Outcome State Fault Refusal :=
  occur (fun s => s.request p 0x02 (writeBody 1 index entry) false (serveWriteStation index entry)) s

/-! ### Zones (R4 to R6) -/

/-- The fields of a zone that the geometry freeze fixes agree (R5). -/
def ZoneRec.sameGeometry (a b : ZoneRec) : Bool :=
  a.speaker == b.speaker && a.listening == b.listening && a.precedence == b.precedence &&
    a.nearRadius == b.nearRadius && a.guardRadius == b.guardRadius

/-- The six alignment fields of a zone agree (R6). -/
def ZoneRec.sameAlignment (a b : ZoneRec) : Bool := a.sameGeometry b && a.trim == b.trim

/-- An accepted ZONE write (R6). -/
def State.storeZone (j : Zone) (r : ZoneRec) (s : State) : State :=
  let stored := s.onSettings fun c => { c with zones := c.zones.set j r }
  if (s.settings.zones.get j).sameAlignment r then stored else stored.askAll

/-- What a WRITE_ENTRY to the ZONE table answers (R5). -/
def serveWriteZone (index : BitVec 16) (entry : List Byte) (s : State) : Reply :=
  writeEntry 21 index entry s fun j : Zone =>
    let stored := s.settings.zones.get j
    let written := zoneOf entry stored.profile
    if s.frozen ∧ ¬stored.sameGeometry written then refuse s .frozen
    else if s.override.state ≠ .idle ∧ stored.member ≠ written.member then refuse s .overrideActive
    else match numbered 4 (natAt entry 19) with
      | none => refuse s .badValue
      | some k => acceptClamped (zoneClamped entry) (s.storeZone j { written with profile := k })

/-- WRITE_ENTRY to the ZONE table (R4 to R6). -/
def execWriteEntryZone (p : Port) (index : BitVec 16) (entry : List Byte) (s : State) :
    Host.Outcome State Fault Refusal :=
  occur (fun s => s.request p 0x02 (writeBody 2 index entry) false (serveWriteZone index entry)) s

/-! ### Channels (R7, R8, R12, R13, R84, R139) -/

/-- Two windows, each a start and a length in units, share a cell (R11). -/
def windowsOverlap (start length otherStart otherLength : Nat) : Bool :=
  length != 0 && otherLength != 0 && start < otherStart + otherLength && otherStart < start + length

/-- The written window of Mn would share a cell with the stored window of another channel (R12). -/
def Settings.overlapsAnother (c : Settings) (n : Channel) (start length : Nat) : Bool :=
  (List.finRange 16).any fun m =>
    m != n && windowsOverlap start length (c.channels.get m).start (c.channels.get m).length

/-- A window lies within the ranges that do not refuse it (R12). -/
def windowInRange (start length : Nat) : Bool :=
  start ≤ 1023 && length ≤ 256 && start + length ≤ Config.delayUnits

/-- Mn is a member of an open set, or one of its crosspoints is sounding (R12). -/
def State.windowBusy (n : Channel) (s : State) : Bool :=
  (memberGroup s.groups n).isSome || (List.finRange 24).any fun j => ((s.crosspoints.get n).get j).phase != .silent

/-- The steps of an accepted window write beyond the retained memory (R13): the window cleared, the gate PARKED, the
retune asked. -/
def State.moveWindow (n : Channel) (c : ChannelRec) (s : State) : State :=
  ((({ s with delay := s.delay.newWindow c n } : State).onMix fun m => (m.unwait n).setState n .parked).askChannel n)

/-- An auto power field changed to yes acts on an awake socket whose auto power is not suppressed (R139). -/
def State.autoPowerOn (n : Channel) (before : ChannelRec) (c : ChannelRec) (s : State) : State :=
  if c.autoPower ∧ ¬before.autoPower ∧ ¬s.standby ∧ ¬(s.sockets.get n).suppressed then
    s.onSocket n (Socket.powerUp true)
  else s

/-- An accepted CHANNEL write (R7, R8, R13, R84, R139). -/
def State.storeChannel (n : Channel) (c : ChannelRec) (s : State) : State :=
  let before := s.settings.channels.get n
  let stored := s.onSettings fun x => { x with channels := x.channels.set n c }
  let moved := if c.start = before.start ∧ c.length = before.length then stored else stored.moveWindow n c
  moved.autoPowerOn n before c

/-- What a WRITE_ENTRY to the CHANNEL table answers (R7, R12). -/
def serveWriteChannel (index : BitVec 16) (entry : List Byte) (s : State) : Reply :=
  writeEntry 10 index entry s fun n : Channel =>
    let before := s.settings.channels.get n
    let start := wordAt entry 0
    let length := wordAt entry 2
    let isWindowWrite : Bool := start != before.start || length != before.length
    if isWindowWrite ∧ s.frozen then refuse s .frozen
    else if isWindowWrite ∧ s.windowBusy n then refuse s .windowBusy
    else if isWindowWrite ∧ s.settings.overlapsAnother n start length then refuse s .windowOverlap
    else if isWindowWrite ∧ ¬windowInRange start length then refuse s .badValue
    else match channelOf entry with
      | none => refuse s .badValue
      | some c => acceptClamped (channelClamped entry) (s.storeChannel n c)

/-- WRITE_ENTRY to the CHANNEL table (R7, R8, R12, R13, R84, R139). -/
def execWriteEntryChannel (p : Port) (index : BitVec 16) (entry : List Byte) (s : State) :
    Host.Outcome State Fault Refusal :=
  occur (fun s => s.request p 0x02 (writeBody 3 index entry) false (serveWriteChannel index entry)) s

/-! ### Groups (R102, R104 to R106) -/

/-- The channels whose group is Gg, in ascending number. -/
def Settings.channelsOf (c : Settings) (g : Group) : List Channel :=
  (List.finRange 16).filter fun n => c.channelGroup n == some g

/-- R105, step 1: enabled cleared. -/
def State.groupDisabled (g : Group) (s : State) : State :=
  ({ s with groups := s.groups.modify g fun x => { x with waiting := [] } }).parkIneligible (s.settings.channelsOf g)

/-- R105, step 3: max open changed (R106). -/
def State.groupResized (g : Group) (before after : Nat) (s : State) : State :=
  if after = before then s
  else if before < after then s.onMix (Mix.offer s.settings g)
  else s.onMix fun m => (m.fitOpenSet after g).offer s.settings g

/-- R105, step 4: last-channel hold cleared (R91). -/
def State.groupHoldCleared (g : Group) (s : State) : State :=
  s.onMix fun m => (m.dropLastOn g).offer s.settings g

/-- The effects of an accepted write to the record of Gg in the active arrangement, field by field (R105). The record is
already stored. -/
def State.groupEffects (g : Group) (before after : GroupRec) (s : State) : State :=
  let disabled := if before.enabled ∧ ¬after.enabled then s.groupDisabled g else s
  let enabled :=
    if ¬before.enabled ∧ after.enabled then disabled.reEvaluateAll (s.settings.channelsOf g) else disabled
  let resized := enabled.groupResized g before.maxOpen after.maxOpen
  let released := if before.lastHold ∧ ¬after.lastHold then resized.groupHoldCleared g else resized
  if before.master = after.master then released else released.askGroup g

/-- A group record replaced. -/
def Settings.setGroup (k : Arrangement) (g : Group) (r : GroupRec) (c : Settings) : Settings :=
  { c with groups := c.groups.modify k fun t => t.set g r }

/-- An accepted GROUP write (R104, R105). -/
def State.storeGroup (k : Arrangement) (g : Group) (r : GroupRec) (s : State) : State :=
  let stored := s.onSettings (Settings.setGroup k g r)
  if k = s.settings.active then (stored.groupEffects g (s.settings.groupRecord g) r).settle s else stored

/-- What a WRITE_ENTRY to the GROUP table answers (R104). -/
def serveWriteGroup (p : Port) (index : BitVec 16) (entry : List Byte) (s : State) : Reply :=
  writeEntry 4 index entry s fun i : Fin 24 =>
    let k := (groupAt i).1
    let g := (groupAt i).2
    if k = s.settings.active ∧ heldElsewhere s.groups p (some g) then refuse s .heldElsewhere
    else if k = s.settings.active ∧ natAt entry 2 < (s.groups.get g).forcedCount then refuse s .badValue
    else match groupOf entry with
      | none => refuse s .badValue
      | some r => acceptClamped (decide (60 < natAt entry 1)) (s.storeGroup k g r)

/-- WRITE_ENTRY to the GROUP table (R102, R104 to R106). -/
def execWriteEntryGroup (p : Port) (index : BitVec 16) (entry : List Byte) (s : State) :
    Host.Outcome State Fault Refusal :=
  occur (fun s => s.request p 0x02 (writeBody 4 index entry) false (serveWriteGroup p index entry)) s

/-! ### Memberships (R103, R107 to R109) -/

/-- A membership replaced. -/
def Settings.setMembership (k : Arrangement) (x : Zone ⊕ Channel) (g : Option Group) (c : Settings) : Settings :=
  match x with
  | .inl j => { c with zoneGroups := c.zoneGroups.modify k fun t => t.set j g }
  | .inr n => { c with channelGroups := c.channelGroups.modify k fun t => t.set n g }

/-- A channel taken out of its old group's open set or forced-wait list at a change of its group (R109, step 1). -/
def Mix.leaveOldGroup (c : Settings) (n : Channel) (m : Mix) : Mix :=
  if (memberGroup m.groups n).isSome then m.leave c n .closed else m.unwait n

/-- The forced ask of a channel that is CLOSED with effective mode FORCE_OPEN (R109, step 4). -/
def Mix.askIfForced (c : Settings) (n : Channel) (m : Mix) : Mix :=
  if (m.gates.get n).state = .closed ∧ (m.gates.get n).mode = .forceOpen then m.askForced c n else m

/-- The group of Mn in the active arrangement has changed (R109); the membership is already stored. -/
def State.changeGroup (n : Channel) (s : State) : State :=
  let left := (s.onMix (Mix.leaveOldGroup s.settings n)).askCounts s
  ((left.askChannel n).reEvaluate n).onMix (Mix.askIfForced s.settings n)

/-- An accepted MEMBERSHIP write (R107 to R109). -/
def State.storeMembership (k : Arrangement) (x : Zone ⊕ Channel) (g : Option Group) (s : State) : State :=
  let stored := s.onSettings (Settings.setMembership k x g)
  if k ≠ s.settings.active ∨ g = s.settings.membership k x then stored
  else match x with
    | .inl _ => stored.settle s
    | .inr n => (stored.changeGroup n).settle s

/-- What a WRITE_ENTRY to the MEMBERSHIP table answers (R107). -/
def serveWriteMembership (p : Port) (index : BitVec 16) (entry : List Byte) (s : State) : Reply :=
  writeEntry 1 index entry s fun i : Fin 160 =>
    let k := (membershipAt i).1
    let x := (membershipAt i).2
    let written := numberedOrNone 6 (natAt entry 0)
    if k = s.settings.active ∧
        (heldElsewhere s.groups p (s.settings.membership k x) ∨ heldElsewhere s.groups p written.join) then
      refuse s .heldElsewhere
    else match written with
      | none => refuse s .badValue
      | some g => accept (s.storeMembership k x g)

/-- WRITE_ENTRY to the MEMBERSHIP table (R103, R107 to R109). -/
def execWriteEntryMembership (p : Port) (index : BitVec 16) (entry : List Byte) (s : State) :
    Host.Outcome State Fault Refusal :=
  occur (fun s => s.request p 0x02 (writeBody 5 index entry) false (serveWriteMembership p index entry)) s

/-! ### Profiles (R72) -/

/-- What a WRITE_ENTRY to the PROFILE table answers (R72). -/
def serveWriteProfile (index : BitVec 16) (entry : List Byte) (s : State) : Reply :=
  writeEntry 2 index entry s fun k : Profile =>
    acceptClamped (wordAt entry 0 != clampNat 240 9600 (wordAt entry 0))
      (s.onSettings fun c => { c with profiles := c.profiles.set k (clampNat 240 9600 (wordAt entry 0)) })

/-- WRITE_ENTRY to the PROFILE table (R72). -/
def execWriteEntryProfile (p : Port) (index : BitVec 16) (entry : List Byte) (s : State) :
    Host.Outcome State Fault Refusal :=
  occur (fun s => s.request p 0x02 (writeBody 6 index entry) false (serveWriteProfile index entry)) s

/-! ### Contacts, routing, system (R193, R196, R201, R160) -/

/-- An accepted CONTACT_IN write (R196): the old binding's while-effect is ended and the new one's taken up. -/
def State.storeContactIn (k : ContactIn) (b : ContactBinding) (s : State) : State :=
  let stored := s.onSettings fun c => { c with contactIn := c.contactIn.set k b }
  ((stored.reAct (s.settings.contactIn.get k).action).reAct b.action).settle s

/-- What a WRITE_ENTRY to the CONTACT_IN table answers (R196). -/
def serveWriteContactIn (index : BitVec 16) (entry : List Byte) (s : State) : Reply :=
  writeEntry 6 index entry s fun k : ContactIn =>
    match contactInOf entry with
    | none => refuse s .badValue
    | some b => acceptClamped (wordAt entry 4 != clampNat 10 500 (wordAt entry 4)) (s.storeContactIn k b)

/-- WRITE_ENTRY to the CONTACT_IN table (R196). -/
def execWriteEntryContactIn (p : Port) (index : BitVec 16) (entry : List Byte) (s : State) :
    Host.Outcome State Fault Refusal :=
  occur (fun s => s.request p 0x02 (writeBody 7 index entry) false (serveWriteContactIn index entry)) s

/-- What a WRITE_ENTRY to the CONTACT_OUT table answers (R201). -/
def serveWriteContactOut (index : BitVec 16) (entry : List Byte) (s : State) : Reply :=
  writeEntry 3 index entry s fun q : ContactOut =>
    match contactOutOf entry with
    | none => refuse s .badValue
    | some b => accept (s.onSettings fun c => { c with contactOut := c.contactOut.set q b })

/-- WRITE_ENTRY to the CONTACT_OUT table (R201). -/
def execWriteEntryContactOut (p : Port) (index : BitVec 16) (entry : List Byte) (s : State) :
    Host.Outcome State Fault Refusal :=
  occur (fun s => s.request p 0x02 (writeBody 8 index entry) false (serveWriteContactOut index entry)) s

/-- The port of a PORT_ROUTING entry (R193). -/
def portAt (i : Fin 3) : Port := if i = 0 then .A else if i = 1 then .B else .C

/-- An accepted PORT_ROUTING write (R193): a change of mode ends a pulse in flight. -/
def State.storeRouting (q : Port) (r : Routing) (s : State) : State :=
  let stored := s.onSettings fun c => { c with routing := c.routing.set q r }
  if r.mode = (s.settings.routing.get q).mode then stored else stored.endPulse q

/-- What a WRITE_ENTRY to the PORT_ROUTING table answers (R193). -/
def serveWriteRouting (index : BitVec 16) (entry : List Byte) (s : State) : Reply :=
  writeEntry 4 index entry s fun i : Fin 3 =>
    match routingOf entry with
    | none => refuse s .badValue
    | some r => accept (s.storeRouting (portAt i) r)

/-- WRITE_ENTRY to the PORT_ROUTING table (R193). -/
def execWriteEntryPortRouting (p : Port) (index : BitVec 16) (entry : List Byte) (s : State) :
    Host.Outcome State Fault Refusal :=
  occur (fun s => s.request p 0x02 (writeBody 9 index entry) false (serveWriteRouting index entry)) s

/-- An accepted SYSTEM write (R154, R160): a change of clock source moves the clock monitor at the same event. -/
def State.storeSystem (r : SystemRec) (s : State) : State :=
  let stored := s.onSettings fun c => { c with system := r }
  if r.external = s.settings.system.external then stored
  else stored.onClock fun _ => .start (if r.external then .locking else .internal)

/-- What a WRITE_ENTRY to the SYSTEM table answers (R154, R160). -/
def serveWriteSystem (index : BitVec 16) (entry : List Byte) (s : State) : Reply :=
  writeEntry 5 index entry s fun _ : Fin 1 =>
    match systemOf entry with
    | none => refuse s .badValue
    | some r => acceptClamped (decide (60 < natAt entry 2)) (s.storeSystem r)

/-- WRITE_ENTRY to the SYSTEM table (R154, R160). -/
def execWriteEntrySystem (p : Port) (index : BitVec 16) (entry : List Byte) (s : State) :
    Host.Outcome State Fault Refusal :=
  occur (fun s => s.request p 0x02 (writeBody 10 index entry) false (serveWriteSystem index entry)) s

/-! ### Tables that cannot be written (R184) -/

/-- What a WRITE_ENTRY to a table that is not writable answers (R180, R181, R184). -/
def serveWriteReadOnly (body : List Byte) (s : State) : Reply :=
  if body.length < 3 then refuse s .badLength
  else match tableEntries (natAt body 0) with
    | none => refuse s .badTable
    | some size => if size ≤ wordAt body 1 then refuse s .badIndex else refuse s .readOnly

/-- The body is that of a WRITE_ENTRY to one of the ten writable tables, whose frames are the other rows'. -/
def writableBody (body : List Byte) : Bool :=
  3 ≤ body.length && 1 ≤ natAt body 0 && natAt body 0 ≤ 10

/-- WRITE_ENTRY to a read-only table, to no table, or too short to name one (R181, R184). -/
def execWriteEntryReadOnly (p : Port) (body : List Byte) (s : State) : Host.Outcome State Fault Refusal :=
  occur (fun s => if writableBody body then s else s.request p 0x02 body false (serveWriteReadOnly body)) s

end Sys2Proof.Machine
end

