-- ==== Sys2Proof/Machine/Resets.lean ====
section
/-! DEFINITION. The two resets (R168, R169 and the reset rules of each chapter), and the part held in reset. -/

namespace Sys2Proof.Machine

/-- The engine after a runtime reset (R58): ALL alone in the queue, no item in flight, every ALIGNED flag clear; the
temperatures and TEMP_UNSET kept. -/
def Engine.restart (e : Engine) : Engine :=
  { e with queue := [.all], flight := none, aligned := .ofFn fun _ => false }

/-- A handler at a runtime reset (R187): a partial frame is discarded; a request in hand or a response runs on. -/
def Handler.restart : Handler → Handler
  | .receiving _ _ => .idle
  | h => h

/-- A contact input at a runtime reset (R200): a debounce in progress begun again from the present raw level. It takes the
debounce time of the binding as it is then written, also where the binding was rewritten during the debounce, which R200
leaves open (DESIGN CHOICE, log 32). -/
def Contact.restart (b : ContactBinding) (c : Contact) : Contact :=
  if c.debounce.isSome then { c with debounce := some b.debounceSamples } else c

/-- The gate of Mn after a runtime reset (R101): its reset values, the effective mode taken from the contacts that are
active (R92, R200). -/
def State.restartGate (s : State) (n : Channel) : Gate :=
  { Gate.reset (s.settings.channels.get n) with mode := s.modeFrom n (s.settings.channels.get n).defaultMode }

/-- A runtime reset, performed when the last byte of the requester's response has been sent (R169; R58, R76, R101, R127,
R158, R187, R190, R200). -/
def State.runtimeReset (requester : Port) (s : State) : State :=
  { s with
    engine := s.engine.restart
    crosspoints := .ofFn fun _ => .ofFn fun _ => .reset
    gates := .ofFn s.restartGate
    groups := .ofFn fun _ => .reset
    ports := (s.ports.map fun _ h => h.restart).set requester .idle
    events := s.events.map fun p e => .restart (s.settings.routing.get p) e.pulse
    zones := s.zones.map fun j z => { z with contactMute := s.anyActive (.zoneMuteWhile j) }
    contacts := s.contacts.map fun k c => c.restart (s.settings.contactIn.get k) }

/-- The state after a power-on reset (R168) with settings `c`, the raw levels standing at the contacts and the line, and the
commands that wait. -/
def State.powerOn (c : Settings) (presence : Table 16 Bool) (line : Bool) (closed : Table 8 Bool) (pending : List Instr) :
    State where
  pending := pending
  held := false
  settings := c
  frozen := false
  delay := .silent
  engine := .powerOn
  crosspoints := .ofFn fun _ => .ofFn fun _ => .reset
  gates := .ofFn fun n => .reset (c.channels.get n)
  groups := .ofFn fun _ => .reset
  sockets := .ofFn fun n => .powerOn (presence.get n)
  zones := .ofFn fun _ => .powerOn
  override := .powerOn line
  clock := .powerOn c.system.external
  standby := false
  ports := ⟨.idle, .idle, .idle⟩
  events := c.routing.map fun _ r => .restart r none
  contacts := .ofFn fun k => .powerOn (c.contactIn.get k) (closed.get k)
  announcement := 0
  feeds := .ofFn fun _ => 0

/-- POWER_ON_RESET (R168): the reset is taken; the retained settings are kept, and the debounces begin from the raw levels
that stand. -/
def execPowerOnReset (s : State) : Host.Outcome State Fault Refusal :=
  .next (.powerOn s.settings (s.sockets.map fun _ x => x.raw) s.override.raw (s.contacts.map fun _ c => c.raw) s.pending)

/-- HELD_IN_RESET (R168, R187): the part is held; the output link sends silence, a response being sent is cut off and no
byte is heard. The pins that R168 names are functions of `held`. -/
def execHeldInReset (s : State) : Host.Outcome State Fault Refusal :=
  .next { s with held := true, ports := ⟨.idle, .idle, .idle⟩, feeds := .ofFn fun _ => 0 }

/-- The end of the response of port `p` (R179): the handler becomes IDLE, and a runtime reset that waited for this response
is performed (R169). -/
def State.endResponse (p : Port) (s : State) : State :=
  match s.ports.get p with
  | .responding _ true => s.runtimeReset p
  | .responding _ false => s.setPort p .idle
  | _ => s

/-- RESPONSE_END (R172, R179). Not due unless the handler is RESPONDING. -/
def execResponseEnd (p : Port) (s : State) : Host.Outcome State Fault Refusal := occur (State.endResponse p) s

/-- RUNTIME_RESET (R169): the end of a response to RESET_RUNTIME, at which the reset is performed (log 17). Not due unless
the port is sending such a response. -/
def execRuntimeReset (p : Port) (s : State) : Host.Outcome State Fault Refusal :=
  occur (fun s => match s.ports.get p with
    | .responding _ true => s.runtimeReset p
    | _ => s) s

end Sys2Proof.Machine
end

