-- ==== Sys2Proof/Machine/Ports.lean ====
section
/-! DEFINITION. The request handlers byte by byte (R175 to R178): receiving, abandoning, the check, and the request whose
kind is not known (R181). -/

namespace Sys2Proof.Machine

/-- A frame abandoned (R175, R176): the partial frame discarded, PORT_FAULT posted to this port's set, IDLE. -/
def State.abandon (p : Port) (s : State) : State := (s.setPort p .idle).postTo p EventKind.portFault.mask

/-- A frame's bytes after its sync byte are all there: the length byte, L bytes of kind and body, and the check (R173). -/
def frameWhole (frame : List Byte) : Bool := frame.length == natAt frame 0 + 3

/-- The request of a whole frame whose check agrees: its kind and its body (R173, R177). -/
def requestOf (frame : List Byte) : Handler := .serving (byteAt frame 1) ((frame.drop 2).take (natAt frame 0 - 1))

/-- The answer to a frame whose check differs (R177). -/
def badCheckAnswer : Handler := .responding ⟨0, .badCheck, []⟩ false

/-- What a byte makes of a frame that is being received (R175, R177): none where it abandons the frame. -/
def receiveByte (partialFrame : List Byte) (b : Byte) : Option Handler :=
  if partialFrame = [] then
    if 1 ≤ b.toNat ∧ b.toNat ≤ 250 then some (.receiving [b] Config.interByteTime) else none
  else if frameWhole (partialFrame ++ [b]) then
    some (if frameChecks (partialFrame ++ [b]) then requestOf (partialFrame ++ [b]) else badCheckAnswer)
  else some (.receiving (partialFrame ++ [b]) Config.interByteTime)

/-- A character received on a port (R172, R175, R177, R178). -/
def State.receive (p : Port) (c : RxChar) (s : State) : State :=
  match s.ports.get p with
  | .idle => if c = .byte 0xA5 then s.setPort p (.receiving [] Config.interByteTime) else s
  | .receiving part _ =>
    match c with
    | .framingError => s.abandon p
    | .byte b =>
      match receiveByte part b with
      | none => s.abandon p
      | some h => s.setPort p h
  | .serving _ _ => s.collide p
  | .responding _ _ => s.collide p

/-- BYTE_RECEIVED (R172, R175, R177, R178). -/
def execByteReceived (p : Port) (c : RxChar) (s : State) : Host.Outcome State Fault Refusal := occur (State.receive p c) s

/-- The character abandons a frame in the state of its handler (R175). -/
def abandons (h : Handler) (c : RxChar) : Bool :=
  match h, c with
  | .receiving _ _, .framingError => true
  | .receiving part _, .byte b => (receiveByte part b).isNone
  | _, _ => false

/-- FRAME_ABANDONED (R175): a bad length byte, or a framing error in RECEIVING. Not due at any other character. -/
def execFrameAbandoned (p : Port) (c : RxChar) (s : State) : Host.Outcome State Fault Refusal :=
  occur (fun s => if abandons (s.ports.get p) c then s.abandon p else s) s

/-- INTER_BYTE_TIMEOUT (R176): 20 ms have passed with no further byte. Not due otherwise. -/
def execInterByteTimeout (p : Port) (s : State) : Host.Outcome State Fault Refusal :=
  occur (fun s => match s.ports.get p with
    | .receiving _ 0 => s.abandon p
    | _ => s) s

/-- BYTE_DURING_SERVICE (R178): a character in SERVING or RESPONDING. Not due in the other states. -/
def execByteDuringService (p : Port) (s : State) : Host.Outcome State Fault Refusal :=
  occur (fun s => match s.ports.get p with
    | .serving _ _ => s.collide p
    | .responding _ _ => s.collide p
    | _ => s) s

/-- A whole frame (its bytes after the sync byte) whose check differs (R177). -/
def badFrame (frame : List Byte) : Bool :=
  1 ≤ natAt frame 0 && natAt frame 0 ≤ 250 && frameWhole frame && !frameChecks frame

/-- BAD_CHECK (R177): a whole frame whose check differs, taken by an IDLE handler, is answered BAD_CHECK with kind echo 0; a
handler with a request in hand loses it (R178). A frame whose check agrees is not this row's. -/
def execBadCheck (p : Port) (frame : List Byte) (s : State) : Host.Outcome State Fault Refusal :=
  occur (fun s =>
    if badFrame frame then
      match s.ports.get p with
      | .idle => s.setPort p badCheckAnswer
      | .receiving _ _ => s
      | .serving _ _ => s.collide p
      | .responding _ _ => s.collide p
    else s) s

/-- The kind is one of 0x01 to 0x15 (R180, step 2). -/
def knownKind (kind : Byte) : Bool := 1 ≤ kind.toNat && kind.toNat ≤ 0x15

/-- UNKNOWN_REQUEST (R181): a request whose kind is not one of 0x01 to 0x15, whatever its body. A frame of a known kind is
another row's. -/
def execUnknownRequest (p : Port) (kind : Byte) (body : List Byte) (s : State) : Host.Outcome State Fault Refusal :=
  occur (fun s =>
    if knownKind kind then s else s.request p kind body false fun s => refuse s .unknownRequest) s

end Sys2Proof.Machine
end

