-- ==== Sys2Proof/Machine/Audio.lean ====
section
/-! DEFINITION. The audio links: INPUT_SAMPLE (R9, R82, R147) and OUTPUT_SAMPLE (R65, R67, R77, R78, R147), with the
passing of time, which the part measures on the sample clock (R159). -/

namespace Sys2Proof.Machine

/-! ### Input -/

/-- The square of a sample (R82). -/
def squareOf (v : Sample) : Nat := v.toInt.natAbs ^ 2

/-- A sample taken by a level detector (R82): the block's 480th sample completes it. -/
def Detector.take (v : Sample) (d : Detector) : Detector :=
  if d.count + 1 < Config.blockSamples then { d with sum := d.sum + squareOf v, count := d.count + 1 }
  else ⟨0, 0, some (d.sum + squareOf v)⟩

/-- The slot of a channel on the input link. -/
def slotOf (n : Channel) : Fin 17 := ⟨n.val, by omega⟩

/-- Every channel's sample written into its window (R9). -/
def DelayMemory.storeAll (c : Settings) (slots : Table 17 Sample) (m : DelayMemory) : DelayMemory :=
  (List.finRange 16).foldl (fun m n => m.store (c.channels.get n) n (slots.get (slotOf n))) m

/-- INPUT_SAMPLE (R9, R82, R83, R147): the 17 slots of the input link. Each channel's sample is written into its window; the
detectors take it, but not in standby; slot 17 is the announcement channel's. -/
def execInputSample (slots : Table 17 Sample) (s : State) : Host.Outcome State Fault Refusal :=
  occur (fun s =>
    { s with
      delay := s.delay.storeAll s.settings slots
      gates := if s.standby then s.gates
        else s.gates.map fun n g => { g with detector := g.detector.take (slots.get (slotOf n)) }
      announcement := slots.get 16 }) s

/-! ### Output -/

/-- What one tap adds to a zone's sum, in gain units (R77). -/
def State.tapTerm (s : State) (n : Channel) (tap : Nat × Rat) : Int :=
  (s.delay.tap (s.settings.channels.get n) n tap.1).toInt * (gainUnits tap.2 : Int)

/-- What a channel's crosspoint adds to a zone's sum (R77). -/
def State.crosspointTerm (s : State) (j : Zone) (n : Channel) : Int :=
  ((((s.crosspoints.get n).get j).taps).map (s.tapTerm n)).sum

/-- The exact sum of a zone, in gain units (R77). -/
def State.zoneSum (s : State) (j : Zone) : Int := ((List.finRange 16).map (s.crosspointTerm j)).sum

/-- A zone's sum lies outside the range of a 24-bit sample (R78). -/
def State.zoneClips (s : State) (j : Zone) : Bool := limitSample (roundSum (s.zoneSum j)) != roundSum (s.zoneSum j)

/-- The feed of a zone (R147). -/
def State.feedOf (s : State) (j : Zone) : Sample :=
  if (s.zones.get j).taken then
    BitVec.ofInt 24 (roundSum (s.announcement.toInt * (gainUnits s.settings.system.overrideAttenuation : Int)))
  else BitVec.ofInt 24 (limitSample (roundSum (s.zoneSum j)))

/-- The feeds of one output sample sent, and ZONE_CLIPPED posted where a zone's sum is limited (R77, R78, R147). -/
def State.sendFeeds (s : State) : State :=
  let sent := { s with feeds := .ofFn s.feedOf }
  if (List.finRange 24).any s.zoneClips then sent.post .zoneClipped else sent

/-- Every crosspoint acted on, given its zone's fade length. -/
def State.onCrosspoints (f : Nat → Crosspoint → Crosspoint) (s : State) : State :=
  { s with crosspoints := s.crosspoints.map fun _ row => row.map fun j x => f (s.settings.fadeLength j) x }

/-! ### Time -/

/-- One sample of a time that is running down; a time that has run out stays at 0 until its event is taken. -/
def countDown (t : Option Nat) : Option Nat := t.map fun k => k - 1

/-- One sample of a debounce: one that runs out at the debounced level ends with no effect (R129, R149, R197). -/
def debounceDown (raw debounced : Bool) (t : Option Nat) : Option Nat :=
  match t with
  | none => none
  | some 0 => if raw = debounced then none else some 0
  | some (k + 1) => if k = 0 ∧ raw = debounced then none else some k

/-- One sample of a socket's times (R129, R130, R132). -/
def Socket.tick (x : Socket) : Socket :=
  { x with
    phase := match x.phase with
      | .sensing k => .sensing (k - 1)
      | .ramping k => .ramping (k - 1)
      | ph => ph
    debounce := debounceDown x.raw x.presence x.debounce }

/-- One sample of a handler's inter-byte timer (R176). -/
def Handler.tick : Handler → Handler
  | .receiving part k => .receiving part (k - 1)
  | h => h

/-- One sample of the clock monitor's times (R159, R161): the gap and the run come nearer, and the edges grow older. -/
def Clock.tick (c : Clock) : Clock :=
  { c with gap := countDown c.gap, run := countDown c.run, edges := c.edges.map fun e => { e with age := e.age + 1 } }

/-- One sample of every time that the part measures on the sample clock. -/
def State.tick (s : State) : State :=
  { s with
    sockets := s.sockets.map fun _ x => x.tick
    override := { s.override with debounce := debounceDown s.override.raw s.override.debounced s.override.debounce }
    contacts := s.contacts.map fun _ c => { c with debounce := debounceDown c.raw c.debounced c.debounce }
    clock := s.clock.tick
    ports := s.ports.map fun _ h => h.tick
    events := s.events.map fun _ e => { e with pulse := countDown e.pulse } }

/-- OUTPUT_SAMPLE (R65, R67, R77, R78, R147): fades that have ended are ended, every fade moves one sample, the feeds are
formed and sent, and one sample of time passes (log 6, log 7). -/
def execOutputSample (s : State) : Host.Outcome State Fault Refusal :=
  occur (fun s =>
    (((s.onCrosspoints fun len x => x.endFade len).onCrosspoints fun _ x => x.advance).sendFeeds).tick) s

end Sys2Proof.Machine
end

