-- ==== Sys2Proof/Machine/Dispatch.lean ====
section
/-! DEFINITION. Which meaning each command has: one arm per constructor of Instr. -/

namespace Sys2Proof.Machine

-- The effect of a command on everything but the queue.
def exec (i : Instr) (s : State) : Host.Outcome State Fault Refusal :=
  match i with
  | .readEntry p body => Sys2Proof.Machine.execReadEntry p body s
  | .writeEntryStation p index entry => Sys2Proof.Machine.execWriteEntryStation p index entry s
  | .writeEntryZone p index entry => Sys2Proof.Machine.execWriteEntryZone p index entry s
  | .writeEntryChannel p index entry => Sys2Proof.Machine.execWriteEntryChannel p index entry s
  | .writeEntryGroup p index entry => Sys2Proof.Machine.execWriteEntryGroup p index entry s
  | .writeEntryMembership p index entry => Sys2Proof.Machine.execWriteEntryMembership p index entry s
  | .writeEntryProfile p index entry => Sys2Proof.Machine.execWriteEntryProfile p index entry s
  | .writeEntryContactIn p index entry => Sys2Proof.Machine.execWriteEntryContactIn p index entry s
  | .writeEntryContactOut p index entry => Sys2Proof.Machine.execWriteEntryContactOut p index entry s
  | .writeEntryPortRouting p index entry => Sys2Proof.Machine.execWriteEntryPortRouting p index entry s
  | .writeEntrySystem p index entry => Sys2Proof.Machine.execWriteEntrySystem p index entry s
  | .writeEntryReadOnly p body => Sys2Proof.Machine.execWriteEntryReadOnly p body s
  | .moveSource p body => Sys2Proof.Machine.execMoveSource p body s
  | .setGateMode p body => Sys2Proof.Machine.execSetGateMode p body s
  | .setTemperature p body => Sys2Proof.Machine.execSetTemperature p body s
  | .selectArrangement p body => Sys2Proof.Machine.execSelectArrangement p body s
  | .holdGroup p body => Sys2Proof.Machine.execHoldGroup p body s
  | .releaseGroup p body => Sys2Proof.Machine.execReleaseGroup p body s
  | .breakHold p body => Sys2Proof.Machine.execBreakHold p body s
  | .zoneMute p body => Sys2Proof.Machine.execZoneMute p body s
  | .setSocketPowerOn p body => Sys2Proof.Machine.execSetSocketPowerOn p body s
  | .setSocketPowerOff p body => Sys2Proof.Machine.execSetSocketPowerOff p body s
  | .resenseSocket p body => Sys2Proof.Machine.execResenseSocket p body s
  | .readEvents p body => Sys2Proof.Machine.execReadEvents p body s
  | .clearEvents p body => Sys2Proof.Machine.execClearEvents p body s
  | .forceEvents p body => Sys2Proof.Machine.execForceEvents p body s
  | .resumeAfterOverride p body => Sys2Proof.Machine.execResumeAfterOverride p body s
  | .rearmOutputs p body => Sys2Proof.Machine.execRearmOutputs p body s
  | .freezeGeometry p body => Sys2Proof.Machine.execFreezeGeometry p body s
  | .standby p body => Sys2Proof.Machine.execStandby p body s
  | .wake p body => Sys2Proof.Machine.execWake p body s
  | .resetRuntime p body => Sys2Proof.Machine.execResetRuntime p body s
  | .runtimeReset p => Sys2Proof.Machine.execRuntimeReset p s
  | .powerOnReset => Sys2Proof.Machine.execPowerOnReset s
  | .unknownRequest p kind body => Sys2Proof.Machine.execUnknownRequest p kind body s
  | .badCheck p frame => Sys2Proof.Machine.execBadCheck p frame s
  | .frameAbandoned p c => Sys2Proof.Machine.execFrameAbandoned p c s
  | .interByteTimeout p => Sys2Proof.Machine.execInterByteTimeout p s
  | .byteDuringService p => Sys2Proof.Machine.execByteDuringService p s
  | .responseEnd p => Sys2Proof.Machine.execResponseEnd p s
  | .itemStart => Sys2Proof.Machine.execItemStart s
  | .channelItemComplete n => Sys2Proof.Machine.execChannelItemComplete n s
  | .allItemComplete => Sys2Proof.Machine.execAllItemComplete s
  | .groupItemComplete g => Sys2Proof.Machine.execGroupItemComplete g s
  | .rampEnd n j => Sys2Proof.Machine.execRampEnd n j s
  | .crossfadeEnd n j => Sys2Proof.Machine.execCrossfadeEnd n j s
  | .measurementComplete n => Sys2Proof.Machine.execMeasurementComplete n s
  | .holdCountdownEnd n => Sys2Proof.Machine.execHoldCountdownEnd n s
  | .insertion n => Sys2Proof.Machine.execInsertion n s
  | .sensingEnd n r => Sys2Proof.Machine.execSensingEnd n r s
  | .phantomRampEnd n => Sys2Proof.Machine.execPhantomRampEnd n s
  | .overcurrent x => Sys2Proof.Machine.execOvercurrent x s
  | .removal n => Sys2Proof.Machine.execRemoval n s
  | .overrideAssertion => Sys2Proof.Machine.execOverrideAssertion s
  | .overrideDeassertion => Sys2Proof.Machine.execOverrideDeassertion s
  | .wordClockEdge periodNs => Sys2Proof.Machine.execWordClockEdge periodNs s
  | .qualificationComplete => Sys2Proof.Machine.execQualificationComplete s
  | .clockGap => Sys2Proof.Machine.execClockGap s
  | .contactChange k => Sys2Proof.Machine.execContactChange k s
  | .pulseEnd p => Sys2Proof.Machine.execPulseEnd p s
  | .outputSample => Sys2Proof.Machine.execOutputSample s
  | .inputSample slots => Sys2Proof.Machine.execInputSample slots s
  | .byteReceived p c => Sys2Proof.Machine.execByteReceived p c s
  | .heldInReset => Sys2Proof.Machine.execHeldInReset s
  | .rawPresenceChange n closed => Sys2Proof.Machine.execRawPresenceChange n closed s
  | .rawLineChange microamps => Sys2Proof.Machine.execRawLineChange microamps s
  | .rawContactChange k closed => Sys2Proof.Machine.execRawContactChange k closed s

end Sys2Proof.Machine
end

