-- ==== Sys2Proof/Machine/Step.lean ====
section
/-! DEFINITION. One step: the command at the front of the queue is taken and run. -/

namespace Sys2Proof.Machine

/-- The queue of waiting commands replaced. -/
def State.setPending (q : List Instr) (s : State) : State := { s with pending := q }

/-- One step: the command at the front of the queue runs with the queue's rest; on an empty queue the part idles
(log 9). -/
def step (s : State) : Host.Outcome State Fault Refusal :=
  match s.pending with
  | [] => .next s
  | c :: rest => exec c (s.setPending rest)

/-- The command that a word spells by the table's bits put at the front of the queue; no row has bits, so no word spells a
command and nothing changes (log 18). -/
def State.withFetchWord (s : State) (nbits w : Nat) : State :=
  match decodeTableWord nbits w with
  | none => s
  | some c => s.setPending (c :: s.pending)

end Sys2Proof.Machine
end

