-- ==== Sys2Proof/Safety.lean ====
section
/-! DEFINITION. The laws that the manual says the part keeps, each as a property of a state, and what a safe run is: one
whose every state keeps them. -/

namespace Sys2Proof.Safety

open Sys2Proof.Machine

/-! ### Delay memory and windows (R9, R10, R11) -/

/-- R11, R12: every stored window lies within the array. -/
abbrev WindowsInArray (c : Settings) : Prop :=
  ∀ n, windowInRange (c.channels.get n).start (c.channels.get n).length = true

/-- R11: the windows of two channels never share a cell. -/
abbrev WindowsApart (c : Settings) : Prop :=
  ∀ n m, n ≠ m → windowsOverlap (c.channels.get n).start (c.channels.get n).length
    (c.channels.get m).start (c.channels.get m).length = false

/-- R9: a write position is an offset within its window (0 where the window has no cell). -/
abbrev PositionsInWindows (s : State) : Prop :=
  ∀ n, s.delay.position.get n < max 1 (s.settings.window n)

/-- Delay memory is in its canonical form and within the array, its write positions within the windows, and the windows
apart (R9, R11). -/
abbrev DelayLaw (s : State) : Prop :=
  s.delay.wf = true ∧ (∀ c ∈ s.delay.cells, c.1 < Config.delayCells) ∧ PositionsInWindows s ∧
    WindowsInArray s.settings ∧ WindowsApart s.settings

/-! ### The alignment engine (R44, R57) -/

/-- R44: no item is queued twice, and ALL is queued alone. -/
abbrev QueueLaw (s : State) : Prop :=
  s.engine.queue.Nodup ∧ (Item.all ∈ s.engine.queue → s.engine.queue = [.all])

/-- A temperature within the range of R38. -/
abbrev TemperatureInRange (t : Int) : Prop := -100 ≤ t ∧ t ≤ 400

/-- R57: both temperatures lie within −100 to 400 tenths, and while no ALL is queued they differ by less than 5 tenths. -/
abbrev TemperatureLaw (s : State) : Prop :=
  TemperatureInRange s.engine.reported ∧ TemperatureInRange s.engine.inUse ∧
    (Item.all ∉ s.engine.queue → beyondDeadband s.engine.reported s.engine.inUse = false)

/-! ### Crosspoints (R61, R63, R71, R75) -/

/-- R71: a level is off or an attenuation of 0 to 160 steps. -/
abbrev LevelInRange (l : Option Nat) : Prop := ∀ a ∈ l, a ≤ 160

/-- R71: an instantaneous attenuation lies between 0 and 160 steps. -/
abbrev AttenuationInRange (l : Rat) : Prop := 0 ≤ l ∧ l ≤ 160

/-- R61, R71: the phase agrees with the effective target, and its levels are within range. -/
abbrev PhaseLaw (target : Option Nat) : Phase → Prop
  | .silent => target = none
  | .steady l => target = some l
  | .ramping l len rem => AttenuationInRange l ∧ rem ≤ len
  | .crossfading l _ ol _ len rem => AttenuationInRange l ∧ AttenuationInRange ol ∧ rem ≤ len

/-- R61, R71: what every crosspoint record keeps. -/
abbrev CrosspointLaw (x : Crosspoint) : Prop :=
  LevelInRange x.computedLevel ∧ LevelInRange x.target ∧ PhaseLaw x.target x.phase

/-- R63: every effective target is the computed level of a live crosspoint, and off otherwise. -/
abbrev TargetLaw (s : State) : Prop :=
  ∀ n j, ((s.crosspoints.get n).get j).target = s.targetOf n j ((s.crosspoints.get n).get j)

/-- R63, R75: every crosspoint of a zone under takeover is SILENT. -/
abbrev TakeoverLaw (s : State) : Prop :=
  ∀ n j, (s.zones.get j).taken = true → ((s.crosspoints.get n).get j).phase = .silent

/-- What the whole array keeps (R61, R63, R71, R75). -/
abbrev ArrayLaw (s : State) : Prop :=
  (∀ n j, CrosspointLaw ((s.crosspoints.get n).get j)) ∧ TargetLaw s ∧ TakeoverLaw s

/-- R70: a crosspoint that sounds reads its taps within a window of `w` samples, and a pending delay would. -/
abbrev TapsWithin (w : Nat) (x : Crosspoint) : Prop :=
  match x.phase with
  | .silent => True
  | .crossfading _ old _ pending _ _ => x.activeDelay < w ∧ old < w ∧ ∀ d ∈ pending, d < w
  | _ => x.activeDelay < w

/-- The inputs that an item in flight took for Mn still hold in what decides its delays: the window, and that there is a
station (R47, R70). -/
abbrev InputsStand (s : State) (n : Channel) (i : ChannelInputs) : Prop :=
  i.window = s.settings.window n ∧ i.station.isSome = (s.gates.get n).station.isSome

/-- Mn is to be computed anew: its CHANNEL item or ALL is queued (R50, R51). -/
abbrev Requeued (s : State) (n : Channel) : Prop := Item.channel n ∈ s.engine.queue ∨ Item.all ∈ s.engine.queue

/-- R70 with what keeps it: no sounding crosspoint reads beyond its window; a channel that is not PARKED, or is ALIGNED at a
station with a window, has every active delay within the window; and an item in flight whose inputs no longer stand has been
overtaken. -/
structure TapLaw (s : State) : Prop where
  taps : ∀ n j, TapsWithin (s.settings.window n) ((s.crosspoints.get n).get j)
  unparked : ∀ n, (s.gates.get n).state ≠ .parked → ∀ j, ((s.crosspoints.get n).get j).activeDelay < s.settings.window n
  aligned : ∀ n, s.engine.aligned.get n = true → (s.gates.get n).station.isSome = true → 0 < s.settings.window n →
    ∀ j, ((s.crosspoints.get n).get j).activeDelay < s.settings.window n
  inFlight : match s.engine.flight with
    | some (.channel n i _ _) => InputsStand s n i ∨ Requeued s n
    | some (.all i _ _) => ∀ n, InputsStand s n (i.get n) ∨ Requeued s n
    | _ => True

/-! ### Gates and open sets (R86, R93, R110) -/

/-- The gate states in which a channel is a member of an open set (R86). -/
abbrev sounding (st : GateState) : Bool := st == .opened || st == .holding || st == .lastOn

/-- R86, R110: a channel is in an open set exactly in OPEN, HOLDING and LAST_ON. -/
abbrev MembershipLaw (s : State) : Prop :=
  ∀ n, (memberGroup s.groups n).isSome = sounding (s.gates.get n).state

/-- R110: a set holds each channel at most once, and no channel is in more than one set. -/
abbrev OpenSetsApart (s : State) : Prop :=
  (∀ g, ((s.groups.get g).members.map Member.channel).Nodup) ∧
    ∀ g h n, (s.groups.get g).holds n = true → (s.groups.get h).holds n = true → g = h

/-- R86: the hold counter is at least 1 in HOLDING and 0 in every other state. -/
abbrev CounterLaw (s : State) : Prop :=
  ∀ n, ((s.gates.get n).state = .holding → 1 ≤ (s.gates.get n).holdCounter) ∧
    ((s.gates.get n).state ≠ .holding → (s.gates.get n).holdCounter = 0)

/-- R110: no set holds more members than the max open of its group. -/
abbrev BoundLaw (s : State) : Prop := ∀ g, (s.groups.get g).openCount ≤ (s.settings.groupRecord g).maxOpen

/-- R95, R110: a channel that is not PARKED is eligible, and is a member only of its own group's set. -/
abbrev OwnGroupLaw (s : State) : Prop :=
  (∀ n, (s.gates.get n).state ≠ .parked → s.eligible n = true) ∧
    ∀ g n, (s.groups.get g).holds n = true → s.settings.channelGroup n = some g

/-- R93, R112, R114: a member is FORCED exactly where its effective mode is FORCE_OPEN. -/
abbrev KindLaw (s : State) : Prop :=
  ∀ g, ∀ m ∈ (s.groups.get g).members, m.kind = .forced ↔ (s.gates.get m.channel).mode = .forceOpen

/-- R89, R93: a channel that sounds is not in FORCE_CLOSED, and one in HOLDING or LAST_ON is in AUTO. -/
abbrev ModeLaw (s : State) : Prop :=
  ∀ n, (sounding (s.gates.get n).state = true → (s.gates.get n).mode ≠ .forceClosed) ∧
    ((s.gates.get n).state = .holding ∨ (s.gates.get n).state = .lastOn → (s.gates.get n).mode = .auto)

/-- R88, R115: a forced-wait list holds each channel at most once, and exactly the channels of its group that are CLOSED with
effective mode FORCE_OPEN. -/
abbrev WaitingLaw (s : State) : Prop :=
  ∀ g, (s.groups.get g).waiting.Nodup ∧ ∀ n, n ∈ (s.groups.get g).waiting ↔
    (s.gates.get n).state = .closed ∧ (s.gates.get n).mode = .forceOpen ∧ s.settings.channelGroup n = some g

/-- R115: while a group's forced-wait list is not empty, its open set is full and holds FORCED members alone. -/
abbrev FullLaw (s : State) : Prop :=
  ∀ g, (s.groups.get g).waiting ≠ [] → (s.settings.groupRecord g).maxOpen ≤ (s.groups.get g).members.length ∧
    ∀ m ∈ (s.groups.get g).members, m.kind = .forced

/-- R90, R116: a member in LAST_ON is the only member of its set. -/
abbrev LastOnLaw (s : State) : Prop :=
  ∀ g, ∀ m ∈ (s.groups.get g).members, (s.gates.get m.channel).state = .lastOn → (s.groups.get g).members = [m]

/-- R87: no channel that is eligible and ALIGNED is PARKED. -/
abbrev ParkedLaw (s : State) : Prop :=
  ∀ n, s.eligible n = true → s.engine.aligned.get n = true → (s.gates.get n).state ≠ .parked

/-- What the gates and the open sets keep together (R86 to R90, R93, R95, R110, R112, R115, R116). -/
structure GroupLaw (s : State) : Prop where
  membership : MembershipLaw s
  apart : OpenSetsApart s
  counter : CounterLaw s
  bound : BoundLaw s
  own : OwnGroupLaw s
  kind : KindLaw s
  modes : ModeLaw s
  waiting : WaitingLaw s
  full : FullLaw s
  lastOn : LastOnLaw s
  parked : ParkedLaw s

/-- R92, R146: each channel's effective mode is the one that its active contacts and its port-set mode give, and each zone
holds CONTACT_MUTE exactly while an active contact binds it. -/
abbrev ContactLaw (s : State) : Prop :=
  (∀ n, (s.gates.get n).mode = s.modeFrom n (s.gates.get n).portMode) ∧
    ∀ j, (s.zones.get j).contactMute = s.anyActive (.zoneMuteWhile j)

/-! ### The override, standby, the settings, the sets and the responses -/

/-- R149 to R153: the debounced line is asserted exactly while the monitor is ACTIVE; zones are taken over only then, and
OVERRIDE_LATCH stands only outside IDLE. -/
abbrev OverrideLaw (s : State) : Prop :=
  (s.override.debounced = true ↔ s.override.state = .active) ∧
    (∀ j, (s.zones.get j).taken = true → s.override.state = .active) ∧
    ∀ j, (s.zones.get j).overrideLatch = true → s.override.state ≠ .idle

/-- R140, R146, R165: in standby every zone holds STANDBY, every channel is PARKED, every open set and forced-wait list is
empty and no socket carries phantom; awake, no zone holds STANDBY. -/
abbrev StandbyLaw (s : State) : Prop :=
  (∀ j, (s.zones.get j).standby = s.standby) ∧
    (s.standby = true →
      (∀ n, (s.gates.get n).state = .parked) ∧
      (∀ g, (s.groups.get g).members = [] ∧ (s.groups.get g).waiting = []) ∧
      ∀ n, (s.sockets.get n).phase.phantomOn = false)

/-- The ranges of a zone record (R4). -/
abbrev ZoneInRange (z : ZoneRec) : Prop :=
  z.precedence ≤ 1440 ∧ z.nearRadius ≤ 10000 ∧ z.guardRadius ≤ 5000 ∧ z.trim ≤ 60

/-- The ranges of a channel's gate parameters (R84). -/
abbrev ChannelInRange (c : ChannelRec) : Prop :=
  20 ≤ c.threshold ∧ c.threshold ≤ 140 ∧ 10 ≤ c.holdTime ∧ c.holdTime ≤ 500

/-- The ranges of a group record (R102). -/
abbrev GroupInRange (g : GroupRec) : Prop := g.master ≤ 60 ∧ 1 ≤ g.maxOpen ∧ g.maxOpen ≤ 8

/-- R4, R72, R84, R102, R154, R196: every retained field lies in its range. -/
abbrev SettingsLaw (s : State) : Prop :=
  (∀ j, ZoneInRange (s.settings.zones.get j)) ∧ (∀ n, ChannelInRange (s.settings.channels.get n)) ∧
    (∀ k g, GroupInRange ((s.settings.groups.get k).get g)) ∧
    (∀ k, 240 ≤ s.settings.profiles.get k ∧ s.settings.profiles.get k ≤ 9600) ∧
    (∀ k, 10 ≤ (s.settings.contactIn.get k).debounceMs ∧ (s.settings.contactIn.get k).debounceMs ≤ 500) ∧
    s.settings.system.overrideAttenuation ≤ 60

/-- R189, R190: a sticky set and a routing mask hold none of bits 19 to 23. -/
abbrev EventLaw (s : State) : Prop :=
  ∀ p, maskValid (s.events.get p).sticky = true ∧ maskValid (s.settings.routing.get p).mask = true

/-- What a handler's response and partial frame keep (R173, R175, R180): the body fits, and is empty but with OK; a partial
frame's length byte is 1 to 250 and the frame is not yet whole. -/
abbrev HandlerLaw : Handler → Prop
  | .responding r _ => r.body.length ≤ 248 ∧ (r.status ≠ .ok → r.body = [])
  | .receiving frame _ => frame = [] ∨ (1 ≤ natAt frame 0 ∧ natAt frame 0 ≤ 250 ∧ frame.length < natAt frame 0 + 3)
  | _ => True

/-- R173, R175, R180: what the three handlers keep. -/
abbrev PortLaw (s : State) : Prop := ∀ p, HandlerLaw (s.ports.get p)

/-! ### What a command meets and what it leaves -/

/-- A request of `kind` and `body` can be served on `p` (R175, R179): the part is not held, and the handler is IDLE and takes
the frame, or has this very request in hand. -/
abbrev Ready (s : State) (p : Port) (kind : Byte) (body : List Byte) : Prop :=
  s.held = false ∧ (s.ports.get p = .idle ∨ s.ports.get p = .serving kind body)

/-- The state in which port `p` is sending a response (R173, R179), all else as in `s`. -/
abbrev answering (s : State) (p : Port) (kind : Byte) (st : Status) (body : List Byte) : State :=
  s.setPort p (.responding ⟨kind, st, body⟩ false)

/-- The number that names thing `i` in a frame (R189). -/
abbrev numberByte {n : Nat} (i : Fin n) : Byte := byteOf (i.val + 1)

/-- The index that names entry `i` of a table in a frame (R184). -/
abbrev indexWord {n : Nat} (i : Fin n) : BitVec 16 := BitVec.ofNat 16 i.val

/-- Port `p` is sending a response with an empty body, and no other handler has moved (R173, R179). -/
abbrev Answered (s t : State) (p : Port) (kind : Byte) (st : Status) : Prop :=
  t.ports = s.ports.set p (.responding ⟨kind, st, []⟩ false)

/-- No kind outside `kinds` was posted to any port's set or removed from it (R190). -/
abbrev PostedWithin (kinds : EventMask) (s t : State) : Prop :=
  ∀ p, (t.events.get p).sticky &&& ~~~kinds = (s.events.get p).sticky &&& ~~~kinds

/-- GATE_OPENED and GATE_CLOSED (R96). -/
abbrev gateKinds : EventMask := EventKind.gateOpened.mask ||| EventKind.gateClosed.mask

/-- A kind stands in the sticky sets of all three ports (R190). -/
abbrev PostedToAll (k : EventKind) (s : State) : Prop := ∀ p, (s.events.get p).sticky &&& k.mask = k.mask

/-- The blocks that belong to the building and not to the mixing are as they were: sockets, zone causes, the line, the
clock, the contacts, the freeze, standby, the announcement and the feeds. -/
structure SameBuilding (s t : State) : Prop where
  held : t.held = s.held
  frozen : t.frozen = s.frozen
  sockets : t.sockets = s.sockets
  zones : t.zones = s.zones
  override : t.override = s.override
  clock : t.clock = s.clock
  standby : t.standby = s.standby
  contacts : t.contacts = s.contacts
  announcement : t.announcement = s.announcement
  feeds : t.feeds = s.feeds
  pending : t.pending = s.pending

/-- What an event at a socket cannot move is as it was: the settings, the freeze, delay memory, the zones, the line, the
clock, standby, the contacts, the links and the queue of commands. -/
structure SocketFrame (s t : State) : Prop where
  held : t.held = s.held
  settings : t.settings = s.settings
  frozen : t.frozen = s.frozen
  delay : t.delay = s.delay
  zones : t.zones = s.zones
  override : t.override = s.override
  clock : t.clock = s.clock
  standby : t.standby = s.standby
  contacts : t.contacts = s.contacts
  announcement : t.announcement = s.announcement
  feeds : t.feeds = s.feeds
  pending : t.pending = s.pending

/-- What an event at the zones or the line cannot move is as it was: the settings, the freeze, delay memory, the engine, the
gates and groups, the sockets, standby, the contacts, the links and the queue of commands. -/
structure ZoneFrame (s t : State) : Prop where
  held : t.held = s.held
  settings : t.settings = s.settings
  frozen : t.frozen = s.frozen
  delay : t.delay = s.delay
  engine : t.engine = s.engine
  gates : t.gates = s.gates
  groups : t.groups = s.groups
  sockets : t.sockets = s.sockets
  standby : t.standby = s.standby
  contacts : t.contacts = s.contacts
  announcement : t.announcement = s.announcement
  feeds : t.feeds = s.feeds
  pending : t.pending = s.pending

/-! ### What a forced ask and a new effective mode do

`s` is the state before the event and `t` the state after it. -/

/-- The record with which Mn enters an open set on a forced ask (R110, R114). -/
abbrev forcedRecord (s : State) (n : Channel) : Member := ⟨n, .forced, (s.gates.get n).latest⟩

/-- R106, R121: of the AUTO members `m` and `k` of a list, `m` is taken out before `k`: it is the quieter, or as quiet and
entered earlier. -/
abbrev QuieterThan (ms : List Member) (m k : Member) : Prop :=
  k.latest < m.latest ∨ (k.latest = m.latest ∧ [m, k].Sublist ms)

/-- R134: a socket in this state is ready. -/
abbrev SocketReady (ph : SocketPhase) : Prop := ph = .powered ∨ ph = .present .dynamic ∨ ph = .present .lineReceiver

/-- R130: a later reading of the common-mode path differs from an earlier one by at most a tenth of the earlier; a path that
comes or goes does not (log 34). -/
abbrev WithinATenth : Option Nat → Option Nat → Prop
  | none, none => True
  | some a, some b => 10 * |(b : Int) - a| ≤ a
  | _, _ => False

/-- The members of a list without Mn. -/
abbrev without (n : Channel) (ms : List Member) : List Member := ms.filter fun m => m.channel != n

/-- The group `g` alone has moved among the groups, its holder has not, and where its open count has changed it is asked of
the engine (R111); nothing else is asked. -/
structure OnlySetMoved (s t : State) (g : Group) : Prop where
  elsewhere : ∀ h, h ≠ g → t.groups.get h = s.groups.get h
  holder : (t.groups.get g).holder = (s.groups.get g).holder
  asks : t.engine.queue =
    if (t.groups.get g).members.length = (s.groups.get g).members.length then s.engine.queue
    else mergeItem (.group g) s.engine.queue

/-- The set of `g` has the members `members` and the forced-wait list `waiting`. -/
abbrev SetIs (t : State) (g : Group) (members : List Member) (waiting : List Channel) : Prop :=
  (t.groups.get g).members = members ∧ (t.groups.get g).waiting = waiting

/-- The gates outside `moved` are as they were. -/
abbrev GatesOutside (moved : List Channel) (s t : State) : Prop := ∀ k, k ∉ moved → t.gates.get k = s.gates.get k

/-- The gate of Mn stands in a state with its hold counter at 0 (R86). -/
abbrev GateIn (t : State) (n : Channel) (st : GateState) : Prop :=
  (t.gates.get n).state = st ∧ (t.gates.get n).holdCounter = 0

/-- R114, R115, R116: what becomes of a forced ask of Mn, which is no member, in the set of `g`: it enters beside a yielding
LAST_ON member, or into room, or for the quietest AUTO member with no margin, or it joins the forced-wait list. -/
structure ForcedAsk (s t : State) (g : Group) (n : Channel) : Prop where
  moved : OnlySetMoved s t g
  beside : ∀ y, (s.groups.get g).members = [y] → (s.gates.get y.channel).state = .lastOn →
    SetIs t g [forcedRecord s n] (s.groups.get g).waiting ∧ GateIn t n .opened ∧ GateIn t y.channel .closed ∧
      GatesOutside [n, y.channel] s t
  room : (∀ y ∈ (s.groups.get g).members, (s.gates.get y.channel).state ≠ .lastOn) →
    (s.groups.get g).members.length < (s.settings.groupRecord g).maxOpen →
    SetIs t g ((s.groups.get g).members ++ [forcedRecord s n]) (s.groups.get g).waiting ∧ GateIn t n .opened ∧
      GatesOutside [n] s t
  bump : (∀ y ∈ (s.groups.get g).members, (s.gates.get y.channel).state ≠ .lastOn) →
    (s.settings.groupRecord g).maxOpen ≤ (s.groups.get g).members.length →
    ∀ v, Mix.quietest (s.groups.get g).members = some v →
      SetIs t g (without v.channel (s.groups.get g).members ++ [forcedRecord s n]) (s.groups.get g).waiting ∧
        GateIn t n .opened ∧ GateIn t v.channel .closed ∧ GatesOutside [n, v.channel] s t
  waits : (s.settings.groupRecord g).maxOpen ≤ (s.groups.get g).members.length →
    (∀ m ∈ (s.groups.get g).members, m.kind = .forced) →
      SetIs t g (s.groups.get g).members ((s.groups.get g).waiting ++ [n]) ∧ GateIn t n .closed ∧ GatesOutside [n] s t

/-- R94, R115: what the exit of the member Mn of the set of `g` leaves, its gate going to `st`: the set without it, or, where
channels wait, with the first of them in its place as FORCED. -/
structure MemberLeaves (s t : State) (g : Group) (n : Channel) (st : GateState) : Prop where
  moved : OnlySetMoved s t g
  own : GateIn t n st
  alone : (s.groups.get g).waiting = [] →
    SetIs t g (without n (s.groups.get g).members) [] ∧ GatesOutside [n] s t
  next : ∀ w rest, (s.groups.get g).waiting = w :: rest →
    SetIs t g (without n (s.groups.get g).members ++ [forcedRecord s w]) rest ∧ GateIn t w .opened ∧
      GatesOutside [n, w] s t

/-- R93, R112, R115: what a new effective mode of Mn, a channel of `g` that is not PARKED, makes of its gate and its set. -/
structure ModeReaction (s t : State) (g : Group) (n : Channel) (mode : GateMode) : Prop where
  stays : (s.gates.get n).state = .closed → mode ≠ .forceOpen → OnlySetMoved s t g ∧ GateIn t n .closed ∧
    SetIs t g (s.groups.get g).members ((s.groups.get g).waiting.filter fun w => w != n) ∧ GatesOutside [n] s t
  asks : (s.gates.get n).state = .closed → mode = .forceOpen → ForcedAsk s t g n
  forced : sounding (s.gates.get n).state = true → mode = .forceOpen → OnlySetMoved s t g ∧ GateIn t n .opened ∧
    SetIs t g ((s.groups.get g).members.map fun m => if m.channel = n then { m with kind := .forced } else m)
      (s.groups.get g).waiting ∧ GatesOutside [n] s t
  auto : sounding (s.gates.get n).state = true → mode = .auto → (s.groups.get g).waiting = [] →
    OnlySetMoved s t g ∧ (t.gates.get n).state = (s.gates.get n).state ∧
    SetIs t g ((s.groups.get g).members.map fun m => if m.channel = n then { m with kind := .auto } else m) [] ∧
    GatesOutside [n] s t
  yields : sounding (s.gates.get n).state = true → mode = .auto → (s.groups.get g).waiting ≠ [] →
    MemberLeaves s t g n .closed
  closes : sounding (s.gates.get n).state = true → mode = .forceClosed → MemberLeaves s t g n .closed

/-- R92, R93: the effective mode of Mn has become `mode`, which it was not: the mode, what a PARKED channel does (nothing),
and what any other does in its group's set; no other channel's mode moves. -/
structure ModeTaken (s t : State) (n : Channel) (mode : GateMode) : Prop where
  own : (t.gates.get n).mode = mode
  others : ∀ k, k ≠ n → (t.gates.get k).mode = (s.gates.get k).mode ∧ (t.gates.get k).portMode = (s.gates.get k).portMode
  parked : (s.gates.get n).state = .parked → t.groups = s.groups ∧ t.engine = s.engine ∧
    GateIn t n .parked ∧ GatesOutside [n] s t
  reacts : (s.gates.get n).state ≠ .parked → ∀ g, s.settings.channelGroup n = some g → ModeReaction s t g n mode

/-- The frame of a request, sync byte first (R173, R174). -/
abbrev requestFrame (kind : Byte) (body : List Byte) : List Byte :=
  0xA5 :: ((byteOf (body.length + 1) :: kind :: body) ++ wordOf (crc (byteOf (body.length + 1) :: kind :: body)).toNat)

/-- A run of bytes received one after the other on a port. -/
def receiveAll (p : Port) : List Byte → State → Host.Outcome State Fault Refusal
  | [], s => .next s
  | b :: rest, s =>
    match exec (.byteReceived p (.byte b)) s with
    | .next t => receiveAll p rest t
    | .fault r => .fault r
    | .refused r => .refused r

/-! ### Safe runs -/

/-- A state keeps every law of this file. -/
structure Safe (s : State) : Prop where
  delay : DelayLaw s
  queue : QueueLaw s
  temperature : TemperatureLaw s
  array : ArrayLaw s
  taps : TapLaw s
  groups : GroupLaw s
  contacts : ContactLaw s
  override : OverrideLaw s
  standby : StandbyLaw s
  settings : SettingsLaw s
  events : EventLaw s
  ports : PortLaw s

/-- A run of `k` steps from a state stays within safe states. -/
def SafeRun : Nat → State → Prop
  | 0, s => Safe s
  | k + 1, s => Safe s ∧ ∀ t, step s = .next t → SafeRun k t

end Sys2Proof.Safety
end

