-- ==== Sys2Proof/Certificates/Slice0/Obligations.lean ====
section
/-! DEFINITION. The statements for the provers. Each takes the manual's rules that its docstring names; a hypothesis that is a
law of `Sys2Proof/Safety.lean` has a statement of its own that every step keeps it. -/

open Sys2Proof Sys2Proof.Machine Sys2Proof.Safety

/-! ### The queue, the held part, the resets -/

/-- A step runs the command at the front of the queue with the queue's rest; on an empty queue the part idles (the model's
choice, log 9). Every command answers a next state and none touches the queue: the part has no fault and refuses nothing. -/
def Obligations.StepRunsTheFrontCommand : Prop :=
  ((∀ (s : State) (c : Instr) (rest : List Instr), s.pending = c :: rest → step s = exec c (s.setPending rest)) ∧
     ∀ s : State, s.pending = [] → step s = .next s) ∧
  (∀ (c : Instr) (s : State), ∃ t, exec c s = .next t ∧ t.pending = s.pending)

/-- R168, R187: while the part is held, only the resets and the raw pins reach it, phantom is off, the attention lines and
relays are released and no driver is enabled. -/
def Obligations.HeldPartHearsOnlyItsPins : Prop :=
  ∀ (c : Instr) (s : State), s.held = true →
    (exec c s = .next s ∨ c = .powerOnReset ∨ c = .heldInReset ∨ (∃ n b, c = .rawPresenceChange n b) ∨
      (∃ i, c = .rawLineChange i) ∨ ∃ k b, c = .rawContactChange k b) ∧
    (∀ n, s.phantom n = false ∧ s.phantomVolts n = 0) ∧ (∀ p, s.attentionLine p = false) ∧ (∀ q, s.relayClosed q = false) ∧
    ∀ p, s.driving p = false

/-- R168 with the reset values of R10, R17, R58, R76, R101, R127, R143, R158, R170, R187, R190: what POWER_ON_RESET leaves.
-/
def Obligations.PowerOnResetLeaves : Prop :=
  ∀ s : State, ∃ t, exec .powerOnReset s = .next t ∧
    t.held = false ∧ t.settings = s.settings ∧ t.frozen = false ∧ t.standby = false ∧
    t.delay = ⟨[], .ofFn fun _ => 0⟩ ∧
    t.engine = ⟨[.all], none, 150, 150, true, .ofFn fun _ => false⟩ ∧
    (∀ n j, (t.crosspoints.get n).get j = ⟨.silent, 0, 0, none, 0, false, false, false, none⟩) ∧
    (∀ n, (t.gates.get n).state = .parked ∧ (t.gates.get n).holdCounter = 0 ∧ (t.gates.get n).latest = 240 ∧
      (t.gates.get n).station = (s.settings.channels.get n).home ∧
      (t.gates.get n).portMode = (s.settings.channels.get n).defaultMode ∧
      (t.gates.get n).mode = t.modeFrom n (t.gates.get n).portMode) ∧
    (∀ g, t.groups.get g = ⟨none, [], []⟩) ∧
    (∀ n, (t.sockets.get n).phase = .empty ∧ (t.sockets.get n).wish = false ∧ (t.sockets.get n).suppressed = false ∧
      (t.sockets.get n).presence = false ∧ (t.sockets.get n).raw = (s.sockets.get n).raw ∧
      (t.sockets.get n).debounce = some Config.presenceDebounce) ∧
    (∀ j, t.zones.get j = ⟨false, false, false, false, false, false⟩) ∧
    t.override = ⟨.idle, s.override.raw, false, some Config.lineDebounce⟩ ∧
    t.clock.state = (if s.settings.system.external then .locking else .internal) ∧
    t.clock.run = none ∧ t.clock.reference = .nominal ∧
    (∀ p, t.ports.get p = .idle) ∧ (∀ p, (t.events.get p).sticky = EventKind.restarted.mask) ∧
    (∀ k, t.contactActive k = false ∧ (t.contacts.get k).raw = (s.contacts.get k).raw ∧
      (t.contacts.get k).debounce = some (s.settings.contactIn.get k).debounceSamples)

/-- R1, R4, R7, R72, R84, R102, R103, R154, R160, R193, R196, R201: the settings as delivered; and the state after reset
keeps every law of Sys2Proof/Safety.lean. -/
def Obligations.ResetStateIsAsDelivered : Prop :=
  ((∀ k, (State.reset.settings.stations.get k).position = ⟨0, 0, 0⟩ ∧
     ∀ i, (State.reset.settings.stations.get k).name.get i = 32) ∧
   (∀ j, State.reset.settings.zones.get j = ⟨⟨0, 0, 0⟩, ⟨0, 0, 0⟩, 480, 0, 0, 0, 1, false⟩) ∧
   (∀ n : Channel, State.reset.settings.channels.get n = ⟨n.val * 64, 64, none, 90, 50, .auto, true⟩) ∧
   (∀ (k : Arrangement) (g : Group),
     (State.reset.settings.groups.get k).get g = ⟨decide (g.val = 0), 0, 4, false⟩) ∧
   (∀ k j, (State.reset.settings.zoneGroups.get k).get j = some 0) ∧
   (∀ k n, (State.reset.settings.channelGroups.get k).get n = some 0) ∧
   State.reset.settings.profiles.cells = [480, 2400, 4800, 9600] ∧
   (∀ k, State.reset.settings.contactIn.get k = ⟨.none, false, 20⟩) ∧
   (∀ q, State.reset.settings.contactOut.get q = ⟨.none, false⟩) ∧
   (∀ p, State.reset.settings.routing.get p = ⟨0, .level⟩) ∧
   State.reset.settings.system = ⟨false, true, 0⟩ ∧ State.reset.settings.active = 0) ∧
  (Safe State.reset)

/-- R169 with R58, R76, R101, R127, R158, R187, R190, R200: the runtime reset, performed at the end of the response to
RESET_RUNTIME (that RESPONSE_END and RUNTIME_RESET are that one event is the model's choice, log 17; that a contact debounce
in progress restarts with the time of its binding as now written is too, log 32). -/
def Obligations.RuntimeResetLeaves : Prop :=
  ∀ (s : State) (p : Port) (r : Response), s.held = false → s.ports.get p = .responding r true →
    exec (.responseEnd p) s = exec (.runtimeReset p) s ∧
    ∃ t, exec (.runtimeReset p) s = .next t ∧
      t.engine.queue = [.all] ∧ t.engine.flight = none ∧ (∀ n, t.engine.aligned.get n = false) ∧
      t.engine.reported = s.engine.reported ∧ t.engine.inUse = s.engine.inUse ∧
      t.engine.tempUnset = s.engine.tempUnset ∧
      (∀ n j, (t.crosspoints.get n).get j = ⟨.silent, 0, 0, none, 0, false, false, false, none⟩) ∧
      (∀ n, (t.gates.get n).state = .parked ∧ (t.gates.get n).holdCounter = 0 ∧ (t.gates.get n).latest = 240 ∧
        (t.gates.get n).detector.count = 0 ∧
        (t.gates.get n).station = (s.settings.channels.get n).home ∧
        (t.gates.get n).portMode = (s.settings.channels.get n).defaultMode ∧
        (t.gates.get n).mode = t.modeFrom n (t.gates.get n).portMode) ∧
      (∀ g, t.groups.get g = ⟨none, [], []⟩) ∧
      t.ports.get p = .idle ∧
      (∀ q, q ≠ p → t.ports.get q = match s.ports.get q with
        | .receiving _ _ => .idle
        | h => h) ∧
      (∀ q, (t.events.get q).sticky = EventKind.restarted.mask) ∧
      (∀ j, t.zones.get j = { s.zones.get j with contactMute := t.anyActive (.zoneMuteWhile j) }) ∧
      (∀ k, (t.contacts.get k).debounced = (s.contacts.get k).debounced ∧
        (t.contacts.get k).raw = (s.contacts.get k).raw ∧
        ((s.contacts.get k).debounce.isSome →
          (t.contacts.get k).debounce = some (s.settings.contactIn.get k).debounceSamples)) ∧
      t.settings = s.settings ∧ t.frozen = s.frozen ∧ t.delay = s.delay ∧ t.sockets = s.sockets ∧
      t.override = s.override ∧ t.clock = s.clock ∧ t.standby = s.standby

/-- R179, R168, R129, R149, R197: the end of any other response, the part held, and the raw pins. A pin's raw level is
followed, and a change of it restarts the debounce. -/
def Obligations.PinsAndResponseEnds : Prop :=
  (∀ (s : State) (p : Port) (r : Response), s.held = false → s.ports.get p = .responding r false →
    exec (.responseEnd p) s = .next (s.setPort p .idle)) ∧
  (∀ s : State, exec .heldInReset s =
    .next { s with held := true, ports := ⟨.idle, .idle, .idle⟩, feeds := .ofFn fun _ => 0 }) ∧
  (∀ (s : State) (n : Channel) (closed : Bool), exec (.rawPresenceChange n closed) s =
    .next (s.onSocket n fun x => if closed = x.raw then x else { x with raw := closed, debounce := some 2400 })) ∧
  (∀ (s : State) (i : Nat), exec (.rawLineChange i) s = .next (s.onOverride fun o =>
    if decide (5000 ≤ i) = o.raw then o else { o with raw := decide (5000 ≤ i), debounce := some 2400 })) ∧
  (∀ (s : State) (k : ContactIn) (closed : Bool), exec (.rawContactChange k closed) s = .next (s.onContact k fun c =>
    if closed = c.raw then c
    else { c with raw := closed, debounce := some ((s.settings.contactIn.get k).debounceMs * 48) }))

/-! ### The ports -/

/-- R173, R174, R175, R177, R178: what each handler does with each character; and the bytes of a request's frame, received
one after the other by an IDLE handler, leave it SERVING that request with nothing else changed, or, with another check,
answering BAD_CHECK. The check of R174, byte by byte from 0xFFFF; the bytes of a request frame and of a response frame, and
the status codes of section 10.8. -/
def Obligations.FramesAreReceived : Prop :=
  ((let shift (v : BitVec 16) : BitVec 16 := if v.getLsbD 15 = true then (v <<< 1) ^^^ 0x1021#16 else v <<< 1
    crc [] = 0xFFFF#16 ∧ ∀ (bytes : List Byte) (b : Byte),
      crc (bytes ++ [b]) = shift^[8] (crc bytes ^^^ (b ++ 0#8 : BitVec 16))) ∧
   (let check (bytes : List Byte) : List Byte := [(crc bytes).extractLsb' 8 8, (crc bytes).extractLsb' 0 8]
    (∀ (kind : Byte) (body : List Byte),
      let counted : List Byte := BitVec.ofNat 8 (body.length + 1) :: kind :: body
      requestFrame kind body = 0xA5 :: (counted ++ check counted)) ∧
    ∀ x : Response,
      let counted : List Byte := BitVec.ofNat 8 (x.body.length + 2) :: x.kindEcho :: x.status.code :: x.body
      x.frame = 0x5A :: (counted ++ check counted)) ∧
   ([Status.ok, .okClamped, .badCheck, .badLength, .unknownRequest, .badTable, .badIndex, .badValue, .readOnly, .frozen,
      .heldElsewhere, .notHolder, .notHeld, .windowOverlap, .windowBusy, .overrideActive, .groupFull, .powerRefused,
      .notPresent, .clockNotReady, .inStandby].map Status.code = (List.range 21).map (BitVec.ofNat 8))) ∧
  (∀ (s : State) (p : Port), s.held = false →
     (s.ports.get p = .idle →
       exec (.byteReceived p (.byte 0xA5)) s = .next (s.setPort p (.receiving [] 960)) ∧
       (∀ b, b ≠ 0xA5 → exec (.byteReceived p (.byte b)) s = .next s) ∧
       exec (.byteReceived p .framingError) s = .next s) ∧
     (∀ timer, s.ports.get p = .receiving [] timer → ∀ b : Byte, exec (.byteReceived p (.byte b)) s =
       .next (if 1 ≤ b.toNat ∧ b.toNat ≤ 250 then s.setPort p (.receiving [b] 960)
         else (s.setPort p .idle).postTo p EventKind.portFault.mask)) ∧
     (∀ len rest timer, s.ports.get p = .receiving (len :: rest) timer → rest.length + 1 < len.toNat + 2 →
       ∀ b : Byte, exec (.byteReceived p (.byte b)) s = .next (s.setPort p (.receiving (len :: (rest ++ [b])) 960))) ∧
     (∀ frame timer, s.ports.get p = .receiving frame timer → exec (.byteReceived p .framingError) s =
       .next ((s.setPort p .idle).postTo p EventKind.portFault.mask)) ∧
     (∀ c, ((∃ k b, s.ports.get p = .serving k b) ∨ ∃ r b, s.ports.get p = .responding r b) →
       exec (.byteReceived p c) s = .next (s.postTo p EventKind.portFault.mask))) ∧
  (∀ (s : State) (p : Port) (kind : Byte) (body : List Byte), s.held = false → s.ports.get p = .idle →
     body.length ≤ 249 →
     receiveAll p (requestFrame kind body) s = .next (s.setPort p (.serving kind body)) ∧
     ∀ hi lo : Byte, [hi, lo] ≠ wordOf (crc (byteOf (body.length + 1) :: kind :: body)).toNat →
       receiveAll p (0xA5 :: ((byteOf (body.length + 1) :: kind :: body) ++ [hi, lo])) s =
         .next (s.setPort p (.responding ⟨0, .badCheck, []⟩ false)))

/-- R176, R177, R178, R181, R188: a whole bad frame is answered BAD_CHECK; an unknown kind is answered UNKNOWN_REQUEST; an
abandoned frame, a timeout, a byte during service and a second request (the model's reading, log 5) post PORT_FAULT to this
port's set alone, and the request in hand is not touched. -/
def Obligations.PortFaultsAndRefusedFrames : Prop :=
  ∀ (s : State) (p : Port), s.held = false →
    (∀ frame, badFrame frame = true → s.ports.get p = .idle →
      exec (.badCheck p frame) s = .next (s.setPort p (.responding ⟨0, .badCheck, []⟩ false))) ∧
    (∀ kind body, (kind.toNat = 0 ∨ 0x16 ≤ kind.toNat) → Ready s p kind body →
      exec (.unknownRequest p kind body) s = .next (answering s p kind .unknownRequest [])) ∧
    (∀ frame timer, s.ports.get p = .receiving frame timer → exec (.frameAbandoned p .framingError) s =
      .next ((s.setPort p .idle).postTo p EventKind.portFault.mask)) ∧
    (∀ timer, ∀ b : Byte, s.ports.get p = .receiving [] timer → (b.toNat = 0 ∨ 251 ≤ b.toNat) →
      exec (.frameAbandoned p (.byte b)) s = .next ((s.setPort p .idle).postTo p EventKind.portFault.mask)) ∧
    (∀ frame, s.ports.get p = .receiving frame 0 → exec (.interByteTimeout p) s =
      .next ((s.setPort p .idle).postTo p EventKind.portFault.mask)) ∧
    (((∃ k b, s.ports.get p = .serving k b) ∨ ∃ r b, s.ports.get p = .responding r b) →
      exec (.byteDuringService p) s = .next (s.postTo p EventKind.portFault.mask)) ∧
    ∀ body, (∃ r b, s.ports.get p = .responding r b) →
      exec (.moveSource p body) s = .next (s.postTo p EventKind.portFault.mask) ∧
      exec (.readEntry p body) s = .next (s.postTo p EventKind.portFault.mask)

/-! ### Events -/

/-- R191, R192: READ_EVENTS returns the port's own set and the summary and changes nothing; CLEAR_EVENTS and FORCE_EVENTS
change the port's own set alone; a mask with any of bits 19 to 23 is refused with BAD_VALUE. R190, R194, R195: a posting
adds the kind to all three sets; in LEVEL mode a port's line is asserted exactly while its set holds a kind of its mask; in
PULSE mode a posting pulses a line exactly where it makes a kind of the mask present, and PULSE_END releases it. R201: while
the part is not held, a contact output's relay is closed exactly where its condition is true and it is not inverted, or its
condition is false and it is inverted, condition by condition. -/
def Obligations.EventsAndAttentionLines : Prop :=
  (∀ (s : State) (p : Port),
     (Ready s p 0x0D [] → exec (.readEvents p []) s = .next (answering s p 0x0D .ok
       (maskOf (s.events.get p).sticky ++ [s.clock.state.code, s.override.state.code, flagOf s.standby,
         flagOf s.engine.flight.isSome, flagOf s.engine.tempUnset]))) ∧
     ∀ m : EventMask,
       (Ready s p 0x0E (maskOf m) → exec (.clearEvents p (maskOf m)) s = .next (
         if m &&& 0xF80000#24 = 0 then
           answering { s with events := s.events.set p ⟨(s.events.get p).sticky &&& ~~~m, (s.events.get p).pulse⟩ }
             p 0x0E .ok []
         else answering s p 0x0E .badValue [])) ∧
       (Ready s p 0x0F (maskOf m) → exec (.forceEvents p (maskOf m)) s = .next (
         if m &&& 0xF80000#24 = 0 then
           answering { s with events := s.events.set p ⟨(s.events.get p).sticky ||| m,
             if (s.settings.routing.get p).mode = .pulse ∧
                 m &&& ~~~(s.events.get p).sticky &&& (s.settings.routing.get p).mask ≠ 0 then some 48
             else (s.events.get p).pulse⟩ } p 0x0F .ok []
         else answering s p 0x0F .badValue []))) ∧
  (∀ (s : State) (p : Port), s.held = false → EventLaw s →
     (∀ k k' : EventKind, (((s.post k).events.get p).sticky.getLsbD k'.bit = true ↔
       k = k' ∨ (s.events.get p).sticky.getLsbD k'.bit = true)) ∧
     ((s.settings.routing.get p).mode = .level → (s.attentionLine p = true ↔ ∃ k : EventKind,
       (s.events.get p).sticky.getLsbD k.bit = true ∧ (s.settings.routing.get p).mask.getLsbD k.bit = true)) ∧
     ((s.settings.routing.get p).mode = .pulse →
       (s.attentionLine p = true ↔ (s.events.get p).pulse ≠ none) ∧ ∀ k : EventKind,
       ((s.post k).events.get p).pulse =
         if (s.events.get p).sticky.getLsbD k.bit = false ∧ (s.settings.routing.get p).mask.getLsbD k.bit = true then some 48
         else (s.events.get p).pulse) ∧
     ((s.events.get p).pulse = some 0 → exec (.pulseEnd p) s =
       .next { s with events := s.events.set p ⟨(s.events.get p).sticky, none⟩ })) ∧
  (∀ (s : State) (q : ContactOut), s.held = false →
     let b := s.settings.contactOut.get q
     let closedWhile (c : Prop) : Prop := s.relayClosed q = true ↔ (c ↔ b.inverted = false)
     (b.condition = .none → closedWhile False) ∧
     (∀ g, b.condition = .groupLive g → closedWhile ((s.groups.get g).members ≠ [])) ∧
     (∀ g, b.condition = .groupHeld g → closedWhile (∃ p, (s.groups.get g).holder = some p)) ∧
     (b.condition = .overrideActive → closedWhile (s.override.state = .active ∨ s.override.state = .latched)) ∧
     (b.condition = .clockHoldover → closedWhile (s.clock.state = .holdover)) ∧
     (b.condition = .socketFaultAny → closedWhile (∃ n, (s.sockets.get n).phase = .fault)))

/-! ### Tables -/

/-- R2, R3: a STATION write is refused while it would change a frozen record, or for a character outside 32 to 126; an
accepted one replaces the record, and where the position changes asks for CHANNEL(n) of each channel standing there. R5, R6:
a ZONE write in all its checks, on the record with its clamped fields at their limits; an accepted one asks for ALL where
one of the six alignment fields takes a new value. -/
def Obligations.StationAndZoneWrites : Prop :=
  (∀ (s : State) (p : Port) (k : Station) (r : StationRec), Ready s p 0x02 (writeBody 1 (indexWord k) r.entry) →
     exec (.writeEntryStation p (indexWord k) r.entry) s = .next (
       if s.frozen = true ∧ r ≠ s.settings.stations.get k then answering s p 0x02 .frozen []
       else if ∃ i, (r.name.get i).toNat < 32 ∨ 126 < (r.name.get i).toNat then answering s p 0x02 .badValue []
       else answering { s with
         settings := { s.settings with stations := s.settings.stations.set k r }
         engine := if r.position = (s.settings.stations.get k).position then s.engine else { s.engine with
           queue := ((List.finRange 16).filter fun n => (s.gates.get n).station == some k).foldl
             (fun q n => mergeItem (.channel n) q) s.engine.queue
           aligned := .ofFn fun n => s.engine.aligned.get n && (s.gates.get n).station != some k } } p 0x02 .ok [])) ∧
  (∀ (s : State) (p : Port) (j : Zone) (e : List Byte), e.length = 21 → Ready s p 0x02 (writeBody 2 (indexWord j) e) →
     exec (.writeEntryZone p (indexWord j) e) s = .next (
       let z := s.settings.zones.get j
       let same : Prop := pointAt e 0 = z.speaker ∧ pointAt e 6 = z.listening ∧ min 1440 (wordAt e 12) = z.precedence ∧
         min 10000 (wordAt e 14) = z.nearRadius ∧ min 5000 (wordAt e 16) = z.guardRadius
       if s.frozen = true ∧ ¬same then answering s p 0x02 .frozen []
       else if s.override.state ≠ .idle ∧ (byteAt e 20).getLsbD 0 ≠ z.member then answering s p 0x02 .overrideActive []
       else if h : 1 ≤ natAt e 19 ∧ natAt e 19 ≤ 4 then answering { s with
           settings := { s.settings with
             zones := s.settings.zones.set j
               ⟨pointAt e 0, pointAt e 6, min 1440 (wordAt e 12), min 10000 (wordAt e 14), min 5000 (wordAt e 16),
                 min 60 (natAt e 18), ⟨natAt e 19 - 1, by omega⟩, (byteAt e 20).getLsbD 0⟩ }
           engine := if same ∧ min 60 (natAt e 18) = z.trim then s.engine
             else { s.engine with queue := [.all], aligned := .ofFn fun _ => false } } p 0x02
         (if 1440 < wordAt e 12 ∨ 10000 < wordAt e 14 ∨ 5000 < wordAt e 16 ∨ 60 < natAt e 18 then .okClamped else .ok) []
       else answering s p 0x02 .badValue []))

/-- R12: the refusals of a window write in their order; a CHANNEL write that is not a window write meets none of them. R7,
R8, R13, R84, R139: what an accepted window write leaves, its gate parameters at their limits, the socket ramping where the
write turns auto power on; and a window write that another field of its entry refuses. That the cells of delay memory are
read through a list that names no silent cell is the model's (log 27). -/
def Obligations.WindowWrites : Prop :=
  (∀ (s : State) (p : Port) (n : Channel) (e : List Byte), e.length = 10 →
     Ready s p 0x02 (writeBody 3 (indexWord n) e) →
     ((wordAt e 0 ≠ (s.settings.channels.get n).start ∨ wordAt e 2 ≠ (s.settings.channels.get n).length) →
       (s.frozen = true → exec (.writeEntryChannel p (indexWord n) e) s = .next (answering s p 0x02 .frozen [])) ∧
       (s.frozen = false →
         ((∃ g, (s.groups.get g).holds n = true) ∨ ∃ j, ((s.crosspoints.get n).get j).phase ≠ .silent) →
           exec (.writeEntryChannel p (indexWord n) e) s = .next (answering s p 0x02 .windowBusy [])) ∧
       (s.frozen = false → (∀ g, (s.groups.get g).holds n = false) → (∀ j, ((s.crosspoints.get n).get j).phase = .silent) →
         ((∃ m, m ≠ n ∧ wordAt e 2 ≠ 0 ∧ (s.settings.channels.get m).length ≠ 0 ∧
             wordAt e 0 < (s.settings.channels.get m).start + (s.settings.channels.get m).length ∧
             (s.settings.channels.get m).start < wordAt e 0 + wordAt e 2) →
           exec (.writeEntryChannel p (indexWord n) e) s = .next (answering s p 0x02 .windowOverlap [])) ∧
         ((∀ m, m ≠ n → windowsOverlap (wordAt e 0) (wordAt e 2) (s.settings.channels.get m).start
             (s.settings.channels.get m).length = false) → 1023 < wordAt e 0 ∨ 256 < wordAt e 2 ∨ 1024 < wordAt e 0 + wordAt e 2 →
           exec (.writeEntryChannel p (indexWord n) e) s = .next (answering s p 0x02 .badValue [])))) ∧
     (wordAt e 0 = (s.settings.channels.get n).start → wordAt e 2 = (s.settings.channels.get n).length →
       ∀ c, channelOf e = some c → ∃ t, exec (.writeEntryChannel p (indexWord n) e) s = .next t ∧
         t.settings = { s.settings with channels := s.settings.channels.set n c } ∧
         ∃ st, Answered s t p 0x02 st ∧ (st = .ok ∨ st = .okClamped))) ∧
  (∀ (s : State) (p : Port) (n : Channel) (e : List Byte), e.length = 10 →
     Ready s p 0x02 (writeBody 3 (indexWord n) e) → s.frozen = false → DelayLaw s →
     (wordAt e 0 ≠ (s.settings.channels.get n).start ∨ wordAt e 2 ≠ (s.settings.channels.get n).length) →
     (∀ g, (s.groups.get g).holds n = false) → (∀ j, ((s.crosspoints.get n).get j).phase = .silent) →
     wordAt e 0 ≤ 1023 → wordAt e 2 ≤ 256 → wordAt e 0 + wordAt e 2 ≤ 1024 →
     (∀ m, m ≠ n → windowsOverlap (wordAt e 0) (wordAt e 2) (s.settings.channels.get m).start
       (s.settings.channels.get m).length = false) →
     match numberedOrNone 32 (natAt e 4), gateModeOf (natAt e 8), yesNo (natAt e 9) with
     | some home, some mode, some auto =>
       ∃ t, exec (.writeEntryChannel p (indexWord n) e) s = .next t ∧
         Answered s t p 0x02
           (if natAt e 5 < 20 ∨ 140 < natAt e 5 ∨ wordAt e 6 < 10 ∨ 500 < wordAt e 6 then .okClamped else .ok) ∧
         t.settings = { s.settings with
           channels := s.settings.channels.set n
             ⟨wordAt e 0, wordAt e 2, home, max 20 (min 140 (natAt e 5)), max 10 (min 500 (wordAt e 6)), mode, auto⟩ } ∧
         (∀ a, wordAt e 0 * 256 ≤ a → a < (wordAt e 0 + wordAt e 2) * 256 → readCell t.delay.cells a = 0) ∧
         (∀ a, a < wordAt e 0 * 256 ∨ (wordAt e 0 + wordAt e 2) * 256 ≤ a →
           readCell t.delay.cells a = readCell s.delay.cells a) ∧
         t.delay.position = s.delay.position.set n 0 ∧
         t.gates = s.gates.set n { s.gates.get n with state := .parked, holdCounter := 0 } ∧
         (∀ g, t.groups.get g = { s.groups.get g with
           waiting := (s.groups.get g).waiting.filter fun k => k != n }) ∧
         t.engine = { s.engine with
           queue := if Item.all ∈ s.engine.queue ∨ Item.channel n ∈ s.engine.queue then s.engine.queue
             else s.engine.queue ++ [.channel n]
           aligned := s.engine.aligned.set n false } ∧
         t.sockets = (if auto = true ∧ (s.settings.channels.get n).autoPower = false ∧ s.standby = false ∧
             (s.sockets.get n).suppressed = false ∧ (s.sockets.get n).phase = .present .condenser then
           s.sockets.set n { s.sockets.get n with phase := .ramping 9600 } else s.sockets) ∧
         t.crosspoints = s.crosspoints ∧ t.zones = s.zones ∧ t.override = s.override ∧ t.clock = s.clock ∧
         t.standby = s.standby ∧ t.frozen = s.frozen ∧ t.contacts = s.contacts ∧ t.events = s.events ∧
         t.held = s.held ∧ t.announcement = s.announcement ∧ t.feeds = s.feeds ∧ t.pending = s.pending
     | _, _, _ => exec (.writeEntryChannel p (indexWord n) e) s = .next (answering s p 0x02 .badValue []))

/-- R7, R8, R84, R139: a CHANNEL write that leaves the window stores the whole entry, its two gate parameters at their
limits, and ramps an awake condenser socket whose auto power it turns on; it moves nothing else. A value outside the ranges
that refuse leaves all as it was. -/
def Obligations.OtherChannelWrites : Prop :=
  ∀ (s : State) (p : Port) (n : Channel) (e : List Byte), e.length = 10 →
    Ready s p 0x02 (writeBody 3 (indexWord n) e) →
    wordAt e 0 = (s.settings.channels.get n).start → wordAt e 2 = (s.settings.channels.get n).length →
    exec (.writeEntryChannel p (indexWord n) e) s = .next (
      match numberedOrNone 32 (natAt e 4), gateModeOf (natAt e 8), yesNo (natAt e 9) with
      | some home, some mode, some auto => answering { s with
          settings := { s.settings with
            channels := s.settings.channels.set n
              ⟨wordAt e 0, wordAt e 2, home, max 20 (min 140 (natAt e 5)), max 10 (min 500 (wordAt e 6)), mode, auto⟩ }
          sockets := if auto = true ∧ (s.settings.channels.get n).autoPower = false ∧ s.standby = false ∧
              (s.sockets.get n).suppressed = false ∧ (s.sockets.get n).phase = .present .condenser then
            s.sockets.set n { s.sockets.get n with phase := .ramping 9600 } else s.sockets } p 0x02
        (if natAt e 5 < 20 ∨ 140 < natAt e 5 ∨ wordAt e 6 < 10 ∨ 500 < wordAt e 6 then .okClamped else .ok) []
      | _, _, _ => answering s p 0x02 .badValue [])

/-- R104: the refusals of a GROUP write in their order, in the active arrangement and outside it; a master above 60 is stored
as 60 and answered OK_CLAMPED, all else as with 60; and a write to a record of an arrangement that is not active. R105,
R106: writes to a record of the active arrangement: a new master asks for GROUP(g) and moves nothing; a max open lowered to
the set's size or above moves nothing, and one lowered below it removes AUTO members, the quietest and of equals the
earliest entered first, and no FORCED one; a raised one takes in the first waiting channels that it has room for; enabled
cleared parks every channel of the group and empties its lists, with GATE_CLOSED and GROUP(g) where the set had a member;
enabled set lets exactly the eligible ALIGNED channels of the group leave PARKED, those in FORCE_OPEN asking for entry in
ascending number; last-channel hold cleared closes a member in LAST_ON and moves nothing else. -/
def Obligations.GroupWrites : Prop :=
  (∀ (s : State) (p : Port) (k : Arrangement) (g : Group) (e : List Byte), e.length = 4 →
     let index : BitVec 16 := BitVec.ofNat 16 (k.val * 6 + g.val)
     Ready s p 0x02 (writeBody 4 index e) →
     (k = s.settings.active → (∃ q, q ≠ p ∧ (s.groups.get g).holder = some q) →
       exec (.writeEntryGroup p index e) s = .next (answering s p 0x02 .heldElsewhere [])) ∧
     (k = s.settings.active → ((s.groups.get g).holder = none ∨ (s.groups.get g).holder = some p) →
       natAt e 2 < ((s.groups.get g).members.filter fun m => m.kind == .forced).length →
       exec (.writeEntryGroup p index e) s = .next (answering s p 0x02 .badValue [])) ∧
     (k = s.settings.active → ((s.groups.get g).holder = none ∨ (s.groups.get g).holder = some p) →
       ((s.groups.get g).members.filter fun m => m.kind == .forced).length ≤ natAt e 2 →
       (natAt e 2 < 1 ∨ 8 < natAt e 2 ∨ yesNo (natAt e 0) = none ∨ yesNo (natAt e 3) = none →
         exec (.writeEntryGroup p index e) s = .next (answering s p 0x02 .badValue [])) ∧
       ∀ enabled hold, yesNo (natAt e 0) = some enabled → yesNo (natAt e 3) = some hold →
         1 ≤ natAt e 2 → natAt e 2 ≤ 8 → 60 < natAt e 1 →
         let r : GroupRec := ⟨enabled, 60, natAt e 2, hold⟩
         ∃ t, exec (.writeEntryGroup p index e) s = .next t ∧ Answered s t p 0x02 .okClamped ∧
           t.settings = { s.settings with groups := s.settings.groups.set k ((s.settings.groups.get k).set g r) } ∧
           exec (.writeEntryGroup p index r.entry) (s.setPort p .idle) =
             .next (t.setPort p (.responding ⟨0x02, .ok, []⟩ false))) ∧
     (k ≠ s.settings.active → exec (.writeEntryGroup p index e) s = .next (
       match yesNo (natAt e 0), yesNo (natAt e 3) with
       | some enabled, some hold =>
         if 1 ≤ natAt e 2 ∧ natAt e 2 ≤ 8 then answering { s with
             settings := { s.settings with
               groups := s.settings.groups.set k ((s.settings.groups.get k).set g
                 ⟨enabled, min 60 (natAt e 1), natAt e 2, hold⟩) } } p 0x02
           (if 60 < natAt e 1 then .okClamped else .ok) []
         else answering s p 0x02 .badValue []
       | _, _ => answering s p 0x02 .badValue []))) ∧
  (∀ (s : State) (p : Port) (g : Group) (r : GroupRec),
     let index : BitVec 16 := BitVec.ofNat 16 (s.settings.active.val * 6 + g.val)
     Ready s p 0x02 (writeBody 4 index r.entry) → GroupLaw s → TargetLaw s → GroupInRange r →
     ((s.groups.get g).holder = none ∨ (s.groups.get g).holder = some p) →
     ((s.groups.get g).members.filter fun m => m.kind == .forced).length ≤ r.maxOpen →
     let stored := s.settings.groupRecord g
     let written : Settings := { s.settings with
       groups := s.settings.groups.set s.settings.active ((s.settings.groups.get s.settings.active).set g r) }
     (r.enabled = stored.enabled → r.maxOpen = stored.maxOpen → r.lastHold = stored.lastHold →
       exec (.writeEntryGroup p index r.entry) s = .next (answering { s with
         settings := written
         engine := if r.master = stored.master then s.engine else { s.engine with
           queue := mergeItem (.group g) s.engine.queue } } p 0x02 .ok [])) ∧
     (r = { stored with maxOpen := r.maxOpen } → r.maxOpen < stored.maxOpen →
       (s.groups.get g).members.length ≤ r.maxOpen →
       exec (.writeEntryGroup p index r.entry) s = .next (answering { s with settings := written } p 0x02 .ok [])) ∧
     (r = { stored with maxOpen := r.maxOpen } → r.maxOpen < (s.groups.get g).members.length →
       ∃ t, exec (.writeEntryGroup p index r.entry) s = .next t ∧
         Answered s t p 0x02 .ok ∧ t.settings = written ∧
         (t.groups.get g).members.length = r.maxOpen ∧ ((t.groups.get g).members.Sublist (s.groups.get g).members) ∧
         (t.groups.get g).holder = (s.groups.get g).holder ∧ (t.groups.get g).waiting = (s.groups.get g).waiting ∧
         (∀ m ∈ (s.groups.get g).members, m.kind = .forced → m ∈ (t.groups.get g).members) ∧
         (∀ m ∈ (s.groups.get g).members, m ∉ (t.groups.get g).members →
           t.gates.get m.channel = { s.gates.get m.channel with state := .closed, holdCounter := 0 } ∧
           ∀ k ∈ (t.groups.get g).members, k.kind = .auto → QuieterThan (s.groups.get g).members m k) ∧
         (∀ n, (∀ m ∈ (s.groups.get g).members, m ∉ (t.groups.get g).members → m.channel ≠ n) →
           t.gates.get n = s.gates.get n) ∧
         (∀ h, h ≠ g → t.groups.get h = s.groups.get h) ∧ t.events = (s.post .gateClosed).events ∧
         t.engine = { s.engine with queue := mergeItem (.group g) s.engine.queue } ∧ TargetLaw t ∧ SameBuilding s t ∧
         t.delay = s.delay) ∧
     (r = { stored with enabled := false } → stored.enabled = true →
       ∃ t, exec (.writeEntryGroup p index r.entry) s = .next t ∧ Answered s t p 0x02 .ok ∧ t.settings = written ∧
         t.groups.get g = ⟨(s.groups.get g).holder, [], []⟩ ∧ (∀ h, h ≠ g → t.groups.get h = s.groups.get h) ∧
         (∀ n, t.gates.get n = if s.settings.channelGroup n = some g
           then { s.gates.get n with state := .parked, holdCounter := 0 } else s.gates.get n) ∧
         t.engine = { s.engine with
           queue := if (s.groups.get g).members = [] then s.engine.queue else mergeItem (.group g) s.engine.queue } ∧
         t.events = (if (s.groups.get g).members = [] then s else s.post .gateClosed).events ∧ TargetLaw t ∧
         SameBuilding s t ∧ t.delay = s.delay) ∧
     (r = { stored with enabled := true } → stored.enabled = false →
       ∃ t, exec (.writeEntryGroup p index r.entry) s = .next t ∧ Answered s t p 0x02 .ok ∧ t.settings = written ∧
         (∀ h, h ≠ g → t.groups.get h = s.groups.get h) ∧ (t.groups.get g).holder = (s.groups.get g).holder ∧
         (∀ n, s.settings.channelGroup n ≠ some g → t.gates.get n = s.gates.get n) ∧
         (∀ n, s.settings.channelGroup n = some g →
           ((t.gates.get n).state = .parked ↔ ¬(t.eligible n = true ∧ s.engine.aligned.get n = true)) ∧
           (t.gates.get n).mode = (s.gates.get n).mode ∧
           ((t.gates.get n).state ≠ .parked → (s.gates.get n).mode ≠ .forceOpen → (t.gates.get n).state = .closed)) ∧
         (t.groups.get g).members.map Member.channel ++ (t.groups.get g).waiting =
           (List.finRange 16).filter (fun n => decide (s.settings.channelGroup n = some g ∧ t.eligible n = true ∧
             s.engine.aligned.get n = true ∧ (s.gates.get n).mode = .forceOpen)) ∧
         (∀ m ∈ (t.groups.get g).members, m = forcedRecord s m.channel ∧ (t.gates.get m.channel).state = .opened) ∧
         (t.groups.get g).members.length ≤ r.maxOpen ∧
         ((t.groups.get g).waiting ≠ [] → (t.groups.get g).members.length = r.maxOpen) ∧ TargetLaw t ∧
         ((t.groups.get g).members ≠ [] → PostedToAll .gateOpened t ∧
           (Item.group g ∈ t.engine.queue ∨ Item.all ∈ t.engine.queue)) ∧
         PostedWithin EventKind.gateOpened.mask s t ∧ SameBuilding s t ∧ t.delay = s.delay) ∧
     (r = { stored with maxOpen := r.maxOpen } → stored.maxOpen < r.maxOpen →
       let room := r.maxOpen - (s.groups.get g).members.length
       let entering := (s.groups.get g).waiting.take room
       ∃ t, exec (.writeEntryGroup p index r.entry) s = .next t ∧ Answered s t p 0x02 .ok ∧ t.settings = written ∧
         t.groups.get g = ⟨(s.groups.get g).holder, (s.groups.get g).members ++ entering.map (forcedRecord s),
           (s.groups.get g).waiting.drop room⟩ ∧
         (∀ h, h ≠ g → t.groups.get h = s.groups.get h) ∧
         (∀ n ∈ entering, t.gates.get n = { s.gates.get n with state := .opened, holdCounter := 0 }) ∧
         (∀ n, n ∉ entering → t.gates.get n = s.gates.get n) ∧
         t.engine = { s.engine with
           queue := if entering = [] then s.engine.queue else mergeItem (.group g) s.engine.queue } ∧
         t.events = (if entering = [] then s else s.post .gateOpened).events ∧ TargetLaw t ∧ SameBuilding s t ∧
         t.delay = s.delay) ∧
     (r = { stored with lastHold := r.lastHold } →
       (r.lastHold = true ∨ ∀ m ∈ (s.groups.get g).members, (s.gates.get m.channel).state ≠ .lastOn) →
       exec (.writeEntryGroup p index r.entry) s = .next (answering { s with settings := written } p 0x02 .ok [])) ∧
     (r = { stored with lastHold := false } → stored.lastHold = true →
       ∀ y ∈ (s.groups.get g).members, (s.gates.get y.channel).state = .lastOn →
       ∃ t, exec (.writeEntryGroup p index r.entry) s = .next t ∧ Answered s t p 0x02 .ok ∧ t.settings = written ∧
         t.groups = s.groups.set g ⟨(s.groups.get g).holder, [], []⟩ ∧
         t.gates = s.gates.set y.channel { s.gates.get y.channel with state := .closed, holdCounter := 0 } ∧
         t.engine = { s.engine with queue := mergeItem (.group g) s.engine.queue } ∧
         t.events = (s.post .gateClosed).events ∧ TargetLaw t ∧ SameBuilding s t ∧ t.delay = s.delay))

/-- R107, R108: the refusals of a MEMBERSHIP write, a write with no further effect, and a zone that changes its group: only
its own crosspoints can move, to the targets of R63. R109: a channel whose group changes in the active arrangement leaves
its old set, with GATE_CLOSED and that group's GROUP item, or its old list, is retuned, and is PARKED where its new group
does not make it eligible, CLOSED where it does and its mode is not FORCE_OPEN. Where a channel waits for the old set it
takes the place, and the open count and the GROUP item stay as R111 says (log 14). -/
def Obligations.MembershipWrites : Prop :=
  (∀ (s : State) (p : Port) (k : Arrangement),
     (∀ (j : Zone) (v : Byte), let index : BitVec 16 := BitVec.ofNat 16 (k.val * 40 + j.val)
       Ready s p 0x02 (writeBody 5 index [v]) →
       (k = s.settings.active → (∃ g q, q ≠ p ∧ (s.groups.get g).holder = some q ∧
           ((s.settings.zoneGroups.get k).get j = some g ∨ v.toNat = g.val + 1)) →
         exec (.writeEntryMembership p index [v]) s = .next (answering s p 0x02 .heldElsewhere [])) ∧
       ((k ≠ s.settings.active ∨ heldElsewhere s.groups p ((s.settings.zoneGroups.get k).get j) = false) → 6 < v.toNat →
         exec (.writeEntryMembership p index [v]) s = .next (answering s p 0x02 .badValue []))) ∧
     (∀ (n : Channel) (v : Byte), let index : BitVec 16 := BitVec.ofNat 16 (k.val * 40 + 24 + n.val)
       Ready s p 0x02 (writeBody 5 index [v]) →
       (k = s.settings.active → (∃ g q, q ≠ p ∧ (s.groups.get g).holder = some q ∧
           ((s.settings.channelGroups.get k).get n = some g ∨ v.toNat = g.val + 1)) →
         exec (.writeEntryMembership p index [v]) s = .next (answering s p 0x02 .heldElsewhere [])) ∧
       ((k ≠ s.settings.active ∨ heldElsewhere s.groups p ((s.settings.channelGroups.get k).get n) = false) →
         6 < v.toNat →
         exec (.writeEntryMembership p index [v]) s = .next (answering s p 0x02 .badValue []))) ∧
     (∀ (j : Zone) (x : Option Group), let index : BitVec 16 := BitVec.ofNat 16 (k.val * 40 + j.val)
       let written : Settings := { s.settings with
         zoneGroups := s.settings.zoneGroups.set k ((s.settings.zoneGroups.get k).set j x) }
       Ready s p 0x02 (writeBody 5 index [numberOf x]) →
       (∀ g, (s.groups.get g).holder ≠ none → (s.groups.get g).holder = some p) →
       ((k ≠ s.settings.active ∨ x = (s.settings.zoneGroups.get k).get j) →
         exec (.writeEntryMembership p index [numberOf x]) s = .next (answering { s with settings := written } p 0x02 .ok [])) ∧
       (k = s.settings.active → TargetLaw s → ∃ t, exec (.writeEntryMembership p index [numberOf x]) s = .next t ∧
         t.settings = written ∧ Answered s t p 0x02 .ok ∧ TargetLaw t ∧
         (∀ n i, i ≠ j → (t.crosspoints.get n).get i = (s.crosspoints.get n).get i) ∧
         t.gates = s.gates ∧ t.groups = s.groups ∧ t.engine = s.engine ∧ t.events = s.events ∧ t.delay = s.delay ∧
         SameBuilding s t)) ∧
     (∀ (n : Channel) (x : Option Group), let index : BitVec 16 := BitVec.ofNat 16 (k.val * 40 + 24 + n.val)
       Ready s p 0x02 (writeBody 5 index [numberOf x]) →
       (∀ g, (s.groups.get g).holder ≠ none → (s.groups.get g).holder = some p) →
       (k ≠ s.settings.active ∨ x = (s.settings.channelGroups.get k).get n) →
       exec (.writeEntryMembership p index [numberOf x]) s = .next (answering { s with
         settings := { s.settings with
           channelGroups := s.settings.channelGroups.set k ((s.settings.channelGroups.get k).set n x) } } p 0x02 .ok []))) ∧
  (∀ (s : State) (p : Port) (n : Channel) (x : Option Group),
     let index : BitVec 16 := BitVec.ofNat 16 (s.settings.active.val * 40 + 24 + n.val)
     Ready s p 0x02 (writeBody 5 index [numberOf x]) → GroupLaw s →
     (∀ g, (s.groups.get g).holder ≠ none → (s.groups.get g).holder = some p) → x ≠ s.settings.channelGroup n →
     ∃ t, exec (.writeEntryMembership p index [numberOf x]) s = .next t ∧ Answered s t p 0x02 .ok ∧
       t.settings = { s.settings with
         channelGroups := s.settings.channelGroups.set s.settings.active
           ((s.settings.channelGroups.get s.settings.active).set n x) } ∧
       t.engine.aligned = s.engine.aligned.set n false ∧
       (Item.channel n ∈ t.engine.queue ∨ Item.all ∈ t.engine.queue) ∧ t.engine.flight = s.engine.flight ∧
       (∀ g, s.settings.channelGroup n = some g →
         let old := s.groups.get g
         (t.groups.get g).holds n = false ∧ n ∉ (t.groups.get g).waiting ∧
         (old.holds n = false → SetIs t g old.members (old.waiting.filter fun w => w != n)) ∧
         (old.holds n = true → PostedToAll .gateClosed t ∧
           (old.waiting = [] → SetIs t g (without n old.members) [] ∧
             (Item.group g ∈ t.engine.queue ∨ Item.all ∈ t.engine.queue)) ∧
           ∀ w rest, old.waiting = w :: rest → SetIs t g (without n old.members ++ [forcedRecord s w]) rest ∧
             GateIn t w .opened ∧ PostedToAll .gateOpened t)) ∧
       (∀ g, (t.groups.get g).holder = (s.groups.get g).holder) ∧
       (∀ g, s.settings.channelGroup n ≠ some g → x ≠ some g → t.groups.get g = s.groups.get g) ∧
       (t.eligible n = false → (t.gates.get n).state = .parked) ∧
       ((s.gates.get n).state = .parked → (t.gates.get n).state = .parked) ∧
       ((s.gates.get n).state ≠ .parked → t.eligible n = true → (s.gates.get n).mode ≠ .forceOpen →
         (t.gates.get n).state = .closed) ∧
       ((s.gates.get n).state ≠ .parked → t.eligible n = true → (s.gates.get n).mode = .forceOpen → ∀ g, x = some g →
         ((t.groups.get g).holds n = true ∧ PostedToAll .gateOpened t) ∨ n ∈ (t.groups.get g).waiting) ∧
       ((s.gates.get n).mode ≠ .forceOpen → ∀ g, x = some g → t.groups.get g = s.groups.get g) ∧
       (t.gates.get n).mode = (s.gates.get n).mode ∧ TargetLaw t ∧
       PostedWithin gateKinds s t ∧ SameBuilding s t ∧ t.delay = s.delay)

/-- R72, R154, R160, R193, R201: writes to the PROFILE, CONTACT_OUT, PORT_ROUTING and SYSTEM tables. R181, R184: a
WRITE_ENTRY to a table that is not writable is refused; a writable table's entry of another size and an index beyond the
table refuse too, the ZONE table standing for the ten. -/
def Obligations.SmallTableAndReadOnlyWrites : Prop :=
  (∀ (s : State) (p : Port),
     (∀ (k : Profile) (hi lo : Byte), Ready s p 0x02 (writeBody 6 (indexWord k) [hi, lo]) →
       exec (.writeEntryProfile p (indexWord k) [hi, lo]) s = .next (
         let v := hi.toNat * 256 + lo.toNat
         answering { s with settings := { s.settings with profiles := s.settings.profiles.set k (max 240 (min 9600 v)) } }
           p 0x02 (if v < 240 ∨ 9600 < v then .okClamped else .ok) [])) ∧
     (∀ (q : ContactOut) (b : OutBinding), Ready s p 0x02 (writeBody 8 (indexWord q) b.entry) →
       exec (.writeEntryContactOut p (indexWord q) b.entry) s = .next (answering { s with
         settings := { s.settings with contactOut := s.settings.contactOut.set q b } } p 0x02 .ok [])) ∧
     (∀ (q : ContactOut) (c g i : Byte), Ready s p 0x02 (writeBody 8 (indexWord q) [c, g, i]) →
       5 < c.toNat ∨ ((c.toNat = 1 ∨ c.toNat = 2) ∧ (g.toNat = 0 ∨ 6 < g.toNat)) ∨ 1 < i.toNat →
       exec (.writeEntryContactOut p (indexWord q) [c, g, i]) s = .next (answering s p 0x02 .badValue [])) ∧
     (∀ (i : Fin 3) (m : EventMask) (v : Byte), Ready s p 0x02 (writeBody 9 (indexWord i) (maskOf m ++ [v])) →
       exec (.writeEntryPortRouting p (indexWord i) (maskOf m ++ [v])) s = .next (
         if m &&& 0xF80000#24 ≠ 0 ∨ 1 < v.toNat then answering s p 0x02 .badValue []
         else
           let mode : LineMode := if v = 0 then .level else .pulse
           let q := portAt i
           answering { s with
             settings := { s.settings with routing := s.settings.routing.set q ⟨m, mode⟩ }
             events := if mode = (s.settings.routing.get q).mode then s.events
               else s.events.set q ⟨(s.events.get q).sticky, none⟩ } p 0x02 .ok [])) ∧
     ∀ e : List Byte, e.length = 5 → Ready s p 0x02 (writeBody 10 0#16 e) →
       exec (.writeEntrySystem p 0#16 e) s = .next (
         match yesNo (natAt e 0), yesNo (natAt e 1) with
         | some external, some silence => answering { s with
             settings := { s.settings with system := ⟨external, silence, min 60 (natAt e 2)⟩ }
             clock := if external = s.settings.system.external then s.clock
               else ⟨if external then .locking else .internal, false, [], none, none, .nominal⟩ } p 0x02
           (if 60 < natAt e 2 then .okClamped else .ok) []
         | _, _ => answering s p 0x02 .badValue [])) ∧
  (∀ (s : State) (p : Port),
     (∀ body, body.length < 3 → Ready s p 0x02 body →
       exec (.writeEntryReadOnly p body) s = .next (answering s p 0x02 .badLength [])) ∧
     (∀ (table : Byte) (index : BitVec 16) (rest : List Byte), Ready s p 0x02 (writeBody table index rest) →
       (table.toNat = 0 ∨ 17 < table.toNat → exec (.writeEntryReadOnly p (writeBody table index rest)) s =
         .next (answering s p 0x02 .badTable [])) ∧
       (∀ size, 11 ≤ table.toNat → tableEntries table.toNat = some size →
         exec (.writeEntryReadOnly p (writeBody table index rest)) s =
           .next (answering s p 0x02 (if size ≤ index.toNat then .badIndex else .readOnly) []))) ∧
     ∀ (index : BitVec 16) (e : List Byte), Ready s p 0x02 (writeBody 2 index e) →
       (e.length ≠ 21 → exec (.writeEntryZone p index e) s = .next (answering s p 0x02 .badLength [])) ∧
       (e.length = 21 → 24 ≤ index.toNat → exec (.writeEntryZone p index e) s = .next (answering s p 0x02 .badIndex [])))

/-- R196, R198: a CONTACT_IN write stores the binding, its debounce at the nearer limit with OK_CLAMPED, and posts no
CONTACT_CHANGE; a MOVE or ARRANGE does not act. The while-effects of the old and of the new binding are re-evaluated at once:
one that both hold does not move, and one that ends or begins changes the effective mode by R93 with no hold check, or the
zone's CONTACT_MUTE. A code, target or station outside what the action takes is refused. -/
def Obligations.ContactBindingWrites : Prop :=
  (∀ (s : State) (p : Port) (k : ContactIn) (a : ContactAction) (pol : Bool) (hi lo : Byte),
     let e : List Byte := a.bytes ++ [flagOf pol, hi, lo]
     let v := hi.toNat * 256 + lo.toNat
     let status : Status := if v < 10 ∨ 500 < v then .okClamped else .ok
     let old := (s.settings.contactIn.get k).action
     let w : State := { s with settings := { s.settings with
       contactIn := s.settings.contactIn.set k ⟨a, pol, max 10 (min 500 v)⟩ } }
     let run := exec (.writeEntryContactIn p (indexWord k) e) s
     let binds (n : Channel) : Prop := old = .forceOpenWhile n ∨ old = .forceClosedWhile n ∨
       a = .forceOpenWhile n ∨ a = .forceClosedWhile n
     let mutes (j : Zone) : Prop := old = .zoneMuteWhile j ∨ a = .zoneMuteWhile j
     let mode (n : Channel) : GateMode := w.modeFrom n (s.gates.get n).portMode
     Ready s p 0x02 (writeBody 7 (indexWord k) e) → TargetLaw s →
     ((∀ n, binds n → mode n = (s.gates.get n).mode) →
       (∀ j, mutes j → w.anyActive (.zoneMuteWhile j) = (s.zones.get j).contactMute) →
       run = .next (answering w p 0x02 status [])) ∧
     (a = old → w.contactActive k = s.contactActive k → ContactLaw s → run = .next (answering w p 0x02 status [])) ∧
     (GroupLaw s → ∃ t, run = .next t ∧ Answered s t p 0x02 status ∧ t.settings = w.settings ∧ TargetLaw t ∧
       (∀ n, (t.gates.get n).portMode = (s.gates.get n).portMode ∧ (binds n → (t.gates.get n).mode = mode n) ∧
         (¬binds n → (t.gates.get n).mode = (s.gates.get n).mode)) ∧
       (∀ n, binds n → (∀ m, binds m → m = n) → mode n ≠ (s.gates.get n).mode → ModeTaken s t n (mode n)) ∧
       (∀ j, (mutes j → t.zones.get j = { s.zones.get j with contactMute := w.anyActive (.zoneMuteWhile j) }) ∧
         (¬mutes j → t.zones.get j = s.zones.get j)) ∧
       ((∀ n, ¬binds n) → t.gates = s.gates ∧ t.groups = s.groups ∧ t.engine = s.engine ∧ t.events = s.events) ∧
       PostedWithin gateKinds s t ∧ t.engine.aligned = s.engine.aligned ∧ t.engine.flight = s.engine.flight ∧
       t.contacts = s.contacts ∧ t.delay = s.delay ∧ t.frozen = s.frozen ∧ t.sockets = s.sockets ∧
       t.override = s.override ∧ t.clock = s.clock ∧ t.standby = s.standby)) ∧
  (∀ (s : State) (p : Port) (k : ContactIn) (a tgt st pol hi lo : Byte),
     Ready s p 0x02 (writeBody 7 (indexWord k) [a, tgt, st, pol, hi, lo]) →
     5 < a.toNat ∨ 1 < pol.toNat ∨ (1 ≤ a.toNat ∧ a.toNat ≤ 5 ∧ tgt.toNat = 0) ∨ (a.toNat = 4 ∧ 32 < st.toNat) ∨
       (a.toNat = 3 ∧ 24 < tgt.toNat) ∨ (a.toNat = 5 ∧ 4 < tgt.toNat) ∨
       ((a.toNat = 1 ∨ a.toNat = 2 ∨ a.toNat = 4) ∧ 16 < tgt.toNat) →
     exec (.writeEntryContactIn p (indexWord k) [a, tgt, st, pol, hi, lo]) s = .next (answering s p 0x02 .badValue []))

/-- R183: READ_ENTRY changes nothing and answers the first entries asked for, as many as the table holds and 244 bytes take.
R184: the number of entries of each of the seventeen tables, no other number naming one. R1, R4, R7, R59, R80, R85, R101 to
R103, R126, R143, R144, R184, R189, R193, R196, R201: the bytes of every table's entries as section 10.8 lays them out, the
ineligibility causes of CHANNEL_STATE cause by cause (that a channel with no group shows NO_GROUP without GROUP_DISABLED is
the model's reading, log 30). -/
def Obligations.ReadEntryReturns : Prop :=
  (∀ (s : State) (p : Port) (table : Byte) (first count : BitVec 16),
     let body := table :: (wordOf first.toNat ++ wordOf count.toNat)
     Ready s p 0x01 body →
     (tableEntries table.toNat = none → exec (.readEntry p body) s = .next (answering s p 0x01 .badTable [])) ∧
     ∀ size, tableEntries table.toNat = some size →
       (size ≤ first.toNat → exec (.readEntry p body) s = .next (answering s p 0x01 .badIndex [])) ∧
       (first.toNat < size → count.toNat = 0 → exec (.readEntry p body) s = .next (answering s p 0x01 .badValue [])) ∧
       (first.toNat < size → count.toNat ≠ 0 → ∃ number,
         let shown := (List.range number).map fun i => s.tableEntry table.toNat (first.toNat + i)
         exec (.readEntry p body) s = .next (answering s p 0x01 .ok
           (table :: (wordOf first.toNat ++ byteOf number :: shown.flatten))) ∧
         number ≤ count.toNat ∧ first.toNat + number ≤ size ∧ shown.flatten.length ≤ 244 ∧
         (number < count.toNat → first.toNat + number < size →
           244 < shown.flatten.length + (s.tableEntry table.toNat (first.toNat + number)).length))) ∧
  ((List.range 18).map tableEntries = [none, some 32, some 24, some 16, some 24, some 160, some 4, some 8, some 4, some 3,
      some 1, some 72, some 384, some 16, some 24, some 6, some 16, some 1] ∧ ∀ k, 17 < k → tableEntries k = none) ∧
  (∀ (s : State),
     let two (n : Nat) : List Byte := [BitVec.ofNat 8 (n / 256), BitVec.ofNat 8 n]
     let one (n : Nat) : Byte := BitVec.ofNat 8 n
     let bit (b : Bool) (k : Nat) : Nat := if b then 2 ^ k else 0
     let point (q : Point) : List Byte := two q.x.toNat ++ two q.y.toNat ++ two q.z.toNat
     let mode (m : GateMode) : Byte := match m with
       | .auto => 0
       | .forceOpen => 1
       | .forceClosed => 2
     (∀ k : Station, let r := s.settings.stations.get k
       s.tableEntry 1 k.val = point r.position ++ r.name.cells) ∧
     (∀ j : Zone, let z := s.settings.zones.get j
       s.tableEntry 2 j.val = point z.speaker ++ point z.listening ++ two z.precedence ++ two z.nearRadius ++
         two z.guardRadius ++ [one z.trim, one (z.profile.val + 1), one (bit z.member 0)]) ∧
     (∀ n : Channel, let c := s.settings.channels.get n
       s.tableEntry 3 n.val = two c.start ++ two c.length ++ [one ((c.home.map fun k => k.val + 1).getD 0),
         one c.threshold] ++ two c.holdTime ++ [mode c.defaultMode, one (bit c.autoPower 0)]) ∧
     (∀ (k : Arrangement) (g : Group), let r := (s.settings.groups.get k).get g
       s.tableEntry 4 (k.val * 6 + g.val) =
         [one (bit r.enabled 0), one r.master, one r.maxOpen, one (bit r.lastHold 0)]) ∧
     (∀ (k : Arrangement),
       (∀ j : Zone, s.tableEntry 5 (k.val * 40 + j.val) =
         [one ((((s.settings.zoneGroups.get k).get j).map fun g => g.val + 1).getD 0)]) ∧
       ∀ n : Channel, s.tableEntry 5 (k.val * 40 + 24 + n.val) =
         [one ((((s.settings.channelGroups.get k).get n).map fun g => g.val + 1).getD 0)]) ∧
     (∀ k : Profile, s.tableEntry 6 k.val = two (s.settings.profiles.get k)) ∧
     (∀ k : ContactIn, let b := s.settings.contactIn.get k
       s.tableEntry 7 k.val = (match b.action with
         | .none => [0, 0, 0]
         | .forceOpenWhile n => [1, one (n.val + 1), 0]
         | .forceClosedWhile n => [2, one (n.val + 1), 0]
         | .zoneMuteWhile j => [3, one (j.val + 1), 0]
         | .move n st => [4, one (n.val + 1), one ((st.map fun k => k.val + 1).getD 0)]
         | .arrange a => [5, one (a.val + 1), 0]) ++ [one (bit b.activeOpen 0)] ++ two b.debounceMs) ∧
     (∀ q : ContactOut, let b := s.settings.contactOut.get q
       s.tableEntry 8 q.val = (match b.condition with
         | .none => [0, 0]
         | .groupLive g => [1, one (g.val + 1)]
         | .groupHeld g => [2, one (g.val + 1)]
         | .overrideActive => [3, 0]
         | .clockHoldover => [4, 0]
         | .socketFaultAny => [5, 0]) ++ [one (bit b.inverted 0)]) ∧
     (∀ i : Fin 3, let r := s.settings.routing.get (portAt i)
       s.tableEntry 9 i.val = one (r.mask.toNat / 65536) :: two r.mask.toNat ++ [if r.mode = .pulse then 1 else 0]) ∧
     s.tableEntry 10 0 = [one (bit s.settings.system.external 0), one (bit s.settings.system.autoSilence 0),
       one s.settings.system.overrideAttenuation, one (bit s.frozen 0), one (s.settings.active.val + 1)] ∧
     (∀ i : Fin 64, s.tableEntry 11 i.val = [one (proximityTable.getD i.val 0)]) ∧
     (∀ i : Fin 8, s.tableEntry 11 (64 + i.val) = [one (nom (i.val + 1))]) ∧
     (∀ (n : Channel) (j : Zone),
       let x := (s.crosspoints.get n).get j
       let level (l : Option Nat) : Byte := one (l.getD 255)
       let whole (l : Rat) : Byte := one ⌊l + 1 / 2⌋.toNat
       let entry (state active : Byte) (present : Nat) (tail : List Byte) : List Byte :=
         [state] ++ two x.activeDelay ++ [active] ++ two x.computedDelay ++ [level x.computedLevel, one x.proximity,
           one (bit x.clampedLow 0 + bit x.clampedHigh 1 + bit x.guarded 2 + present), level x.target] ++ tail
       s.tableEntry 12 (n.val * 24 + j.val) = match x.phase with
         | .silent => entry 0 255 0 [0, 0, 0, 0, 0, 0, 0, 0, 0]
         | .steady l => entry 1 (one l) 0 [0, 0, 0, 0, 0, 0, 0, 0, 0]
         | .ramping l len rem => entry 2 (whole l) 32 ([0, 0, 0, 0, 0] ++ two len ++ two rem)
         | .crossfading l d ol none len rem => entry 3 (whole l) 40 (two d ++ [whole ol, 0, 0] ++ two len ++ two rem)
         | .crossfading l d ol (some q) len rem =>
           entry 3 (whole l) 56 (two d ++ [whole ol] ++ two q ++ two len ++ two rem)) ∧
     (∀ n : Channel, let g := s.gates.get n
       let group := (s.settings.channelGroups.get s.settings.active).get n
       ∃ last, s.tableEntry 13 n.val = [match g.state with
           | .parked => 0
           | .closed => 1
           | .opened => 2
           | .holding => 3
           | .lastOn => 4, mode g.mode, mode g.portMode, one ((g.station.map fun k => k.val + 1).getD 0), one g.latest] ++
         two g.holdCounter ++ [one (bit (decide (group = none)) 0 +
           bit (decide (∃ h, group = some h ∧ ((s.settings.groups.get s.settings.active).get h).enabled = false)) 1 +
           bit (decide (g.station = none)) 2 + bit (decide ((s.settings.channels.get n).length = 0)) 3 +
           bit (decide (¬SocketReady (s.sockets.get n).phase)) 4 + bit s.standby 5), one (bit (s.engine.aligned.get n) 0), last] ∧
         ((∀ h, (s.groups.get h).holds n = false) → last = 0) ∧
         (OpenSetsApart s → ∀ h, (s.groups.get h).holds n = true → last = one (h.val + 1))) ∧
     (∀ j : Zone, let z := s.zones.get j
       s.tableEntry 14 j.val = [one (bit z.requestMute 0 + bit z.contactMute 1 + bit z.clock 2 + bit z.standby 3 +
         bit z.overrideLatch 4), one (bit z.taken 0), if z.requestMute = false ∧ z.contactMute = false ∧ z.clock = false ∧
           z.standby = false ∧ z.overrideLatch = false ∧ z.taken = false then 1 else 0]) ∧
     (∀ g : Group, let x := s.groups.get g
       s.tableEntry 15 g.val = [match x.holder with
           | none => 0
           | some .A => 1
           | some .B => 2
           | some .C => 3, one x.members.length] ++
         (x.members.map fun m => [one (m.channel.val + 1), if m.kind = .forced then 1 else 0, one m.latest]).flatten ++
         [one x.waiting.length] ++ x.waiting.map fun n => one (n.val + 1)) ∧
     (∀ n : Channel, let x := s.sockets.get n
       s.tableEntry 16 n.val = (match x.phase with
         | .empty => [0, 0, 0]
         | .sensing _ => [1, 0, 0]
         | .present .condenser => [2, 1, 0]
         | .present .dynamic => [2, 2, 1]
         | .present .lineReceiver => [2, 3, 1]
         | .present .unknown => [2, 4, 0]
         | .ramping _ => [3, 1, 0]
         | .powered => [4, 1, 1]
         | .fault => [5, 1, 0]) ++ [one (bit x.wish 0), one (bit x.suppressed 0), one (bit x.presence 0)]) ∧
     let item (i : Item) : List Byte := match i with
       | .channel n => [1, one (n.val + 1)]
       | .group g => [2, one (g.val + 1)]
       | .all => [3, 0]
     s.tableEntry 17 0 = (match s.engine.flight with
         | none => [0, 0, 0]
         | some (.channel n _ _ _) => 1 :: item (.channel n)
         | some (.group g _ _ _ _) => 1 :: item (.group g)
         | some (.all _ _ _) => 1 :: item .all) ++
       [one s.engine.queue.length] ++ (s.engine.queue.map item).flatten ++
       two (BitVec.ofInt 16 s.engine.reported).toNat ++ two (BitVec.ofInt 16 s.engine.inUse).toNat ++
       [one (bit s.engine.tempUnset 0)] ++
       two ((List.finRange 16).map fun n : Channel => bit (s.engine.aligned.get n) n.val).sum)

/-! ### Requests -/

/-- R98: an accepted MOVE_SOURCE sets the current station, asks for CHANNEL(n) and re-evaluates eligibility: a move to no
station parks the channel and takes it out of its set, a move of an eligible channel moves no gate and no set. A channel
outside 1 to 16 and a station above 32 are refused. -/
def Obligations.MoveSourceMoves : Prop :=
  (∀ (s : State) (p : Port) (n : Channel) (st : Option Station), Ready s p 0x03 [numberByte n, numberOf st] → GroupLaw s →
     heldElsewhere s.groups p (s.settings.channelGroup n) = false →
     ∃ t, exec (.moveSource p [numberByte n, numberOf st]) s = .next t ∧ Answered s t p 0x03 .ok ∧
       (t.gates.get n).station = st ∧ (t.gates.get n).portMode = (s.gates.get n).portMode ∧
       (t.gates.get n).mode = (s.gates.get n).mode ∧ (t.gates.get n).latest = (s.gates.get n).latest ∧
       (∀ k, k ≠ n → (t.gates.get k).station = (s.gates.get k).station ∧ (t.gates.get k).mode = (s.gates.get k).mode ∧
         (t.gates.get k).portMode = (s.gates.get k).portMode ∧ (t.gates.get k).latest = (s.gates.get k).latest) ∧
       t.engine.aligned = s.engine.aligned.set n false ∧ t.engine.flight = s.engine.flight ∧
       (Item.channel n ∈ t.engine.queue ∨ Item.all ∈ t.engine.queue) ∧ (∀ i ∈ s.engine.queue, i ∈ t.engine.queue) ∧
       ((s.gates.get n).state = .parked → (t.gates.get n).state = .parked) ∧
       (st = none → (t.gates.get n).state = .parked ∧ (t.gates.get n).holdCounter = 0 ∧ memberGroup t.groups n = none) ∧
       (st ≠ none → (s.gates.get n).state ≠ .parked → (t.gates.get n).state = (s.gates.get n).state ∧
         t.groups = s.groups ∧ t.events = s.events ∧ ∀ k, k ≠ n → t.gates.get k = s.gates.get k) ∧
       t.settings = s.settings ∧ t.delay = s.delay ∧ PostedWithin gateKinds s t ∧ SameBuilding s t) ∧
  (∀ (s : State) (p : Port) (v w : Byte), Ready s p 0x03 [v, w] →
     (v.toNat = 0 ∨ 16 < v.toNat → exec (.moveSource p [v, w]) s = .next (answering s p 0x03 .badIndex [])) ∧
     ∀ n : Channel, v = numberByte n → heldElsewhere s.groups p (s.settings.channelGroup n) = false → 32 < w.toNat →
       exec (.moveSource p [v, w]) s = .next (answering s p 0x03 .badValue []))

/-- R92, R93, R97, R112, R114 to R116: SET_GATE_MODE stores the port-set mode; where the effective mode stays, nothing else
moves; a new effective mode acts on the gate and the set: a forced ask enters beside a yielding LAST_ON member, into room,
or for the quietest AUTO member with no margin and no OPEN_DENIED, a member turned to AUTO gives way to a waiting channel,
and one turned to FORCE_CLOSED leaves. A forced ask that is not granted is refused with GROUP_FULL, a value that names no
mode with BAD_VALUE. That every request that leaves a waiting channel at FORCE_OPEN is refused so too is the model's reading,
whether it names the stored mode (log 33) or another mode under an active contact FORCE_OPEN_WHILE (log 35). -/
def Obligations.SetGateModeDecides : Prop :=
  ∀ (s : State) (p : Port) (n : Channel), heldElsewhere s.groups p (s.settings.channelGroup n) = false → TargetLaw s →
    (∀ v : Byte, 2 < v.toNat → Ready s p 0x04 [numberByte n, v] → (s.gates.get n).state ≠ .closed →
      exec (.setGateMode p [numberByte n, v]) s = .next (answering s p 0x04 .badValue [])) ∧
    ∀ m : GateMode, Ready s p 0x04 [numberByte n, m.code] →
      let mode := s.modeFrom n m
      let run := exec (.setGateMode p [numberByte n, m.code]) s
      ((s.gates.get n).state = .parked → run = .next (answering { s with
        gates := s.gates.set n { s.gates.get n with portMode := m, mode := mode } } p 0x04 .ok [])) ∧
      (mode = (s.gates.get n).mode → ¬((s.gates.get n).state = .closed ∧ mode = .forceOpen) →
        run = .next (answering { s with gates := s.gates.set n { s.gates.get n with portMode := m } } p 0x04 .ok [])) ∧
      ((s.gates.get n).state = .closed → mode = .forceOpen → ∀ g, s.settings.channelGroup n = some g →
        (∀ y ∈ (s.groups.get g).members, (s.gates.get y.channel).state ≠ .lastOn) →
        ((s.settings.groupRecord g).maxOpen ≤ (s.groups.get g).members.length →
          (∀ y ∈ (s.groups.get g).members, y.kind = .forced) → run = .next (answering s p 0x04 .groupFull [])) ∧
        ((s.groups.get g).members.length < (s.settings.groupRecord g).maxOpen →
          ∃ t, run = .next t ∧ Answered s t p 0x04 .ok ∧
            t.gates = s.gates.set n { s.gates.get n with
              state := .opened, holdCounter := 0, portMode := m, mode := .forceOpen } ∧
            (t.groups.get g).members = (s.groups.get g).members ++ [forcedRecord s n] ∧
            n ∉ (t.groups.get g).waiting ∧ (∀ h, h ≠ g → (t.groups.get h).members = (s.groups.get h).members) ∧
            (∀ h, (t.groups.get h).holder = (s.groups.get h).holder) ∧ t.events = (s.post .gateOpened).events ∧
            t.engine = { s.engine with queue := mergeItem (.group g) s.engine.queue } ∧ TargetLaw t ∧
            t.settings = s.settings ∧ t.delay = s.delay ∧ SameBuilding s t)) ∧
      (mode ≠ (s.gates.get n).mode → GroupLaw s →
        ((s.gates.get n).state = .closed → mode = .forceOpen → ∀ g, s.settings.channelGroup n = some g →
          (s.groups.get g).members.length < (s.settings.groupRecord g).maxOpen ∨
            ∃ y ∈ (s.groups.get g).members, y.kind = .auto) →
        ∃ t, run = .next t ∧ Answered s t p 0x04 .ok ∧ (t.gates.get n).portMode = m ∧ ModeTaken s t n mode ∧
          ((s.gates.get n).state = .closed → mode = .forceOpen → ∀ g, s.settings.channelGroup n = some g →
            t.events = (if (t.groups.get g).members.length = (s.groups.get g).members.length then s.postMask gateKinds
              else s.post .gateOpened).events) ∧
          (sounding (s.gates.get n).state = true → mode = .forceClosed → PostedToAll .gateClosed t) ∧ TargetLaw t ∧
          PostedWithin gateKinds s t ∧ t.settings = s.settings ∧ t.delay = s.delay ∧ SameBuilding s t)

/-- R124: while a port holds a group, the other ports' moves, gate modes, mutes and arrangement selections are refused with
HELD_ELSEWHERE, and the holder's own are not. -/
def Obligations.HeldGroupsRefuseOthers : Prop :=
  ∀ (s : State) (p q : Port) (g : Group), (s.groups.get g).holder = some q →
    (∀ n v, s.settings.channelGroup n = some g →
      (Ready s p 0x03 [numberByte n, v] → (p ≠ q → exec (.moveSource p [numberByte n, v]) s =
          .next (answering s p 0x03 .heldElsewhere [])) ∧
        (p = q → exec (.moveSource p [numberByte n, v]) s ≠ .next (answering s p 0x03 .heldElsewhere []))) ∧
      (Ready s p 0x04 [numberByte n, v] → p ≠ q → exec (.setGateMode p [numberByte n, v]) s =
        .next (answering s p 0x04 .heldElsewhere []))) ∧
    (∀ j v, s.settings.zoneGroup j = some g → Ready s p 0x0A [numberByte j, v] →
      (p ≠ q → exec (.zoneMute p [numberByte j, v]) s = .next (answering s p 0x0A .heldElsewhere [])) ∧
      (p = q → exec (.zoneMute p [numberByte j, v]) s ≠ .next (answering s p 0x0A .heldElsewhere []))) ∧
    ∀ v, Ready s p 0x06 [v] → p ≠ q → exec (.selectArrangement p [v]) s = .next (answering s p 0x06 .heldElsewhere [])

/-- R38, R56: SET_TEMPERATURE stores the report limited to −100 to 400 tenths, clears TEMP_UNSET, asks for ALL where the
report is five tenths or more from the temperature in use, and is answered OK_CLAMPED with CLAMPED where it was limited. -/
def Obligations.TemperatureReports : Prop :=
  ∀ (s : State) (p : Port) (hi lo : Byte), Ready s p 0x05 [hi, lo] →
    exec (.setTemperature p [hi, lo]) s = .next (
      let raw : Int := (hi ++ lo : BitVec 16).toInt
      let value : Int := max (-100) (min 400 raw)
      let told : State := { s with
        engine := if 5 ≤ |value - s.engine.inUse| then
            { s.engine with reported := value, tempUnset := false, queue := [.all], aligned := .ofFn fun _ => false }
          else { s.engine with reported := value, tempUnset := false } }
      if -100 ≤ raw ∧ raw ≤ 400 then answering told p 0x05 .ok []
      else answering (told.post .clamped) p 0x05 .okClamped [])

/-- R119, R120, R121: selecting the active arrangement changes nothing; a switch changes the number, leaves ALL alone in the
queue with every ALIGNED flag clear, keeps holders and PARKED channels, parks what is not eligible, fits every set, and
posts ARRANGEMENT_CHANGED and no OPEN_DENIED. A member that keeps its group and its eligibility keeps its record and its gate
unless the fitting takes it out: AUTO members the quietest first and of equals the earliest, FORCED ones the latest entered
first, each to the tail of the forced-wait list. -/
def Obligations.ArrangementSwitches : Prop :=
  ∀ (s : State) (p : Port), (∀ g, (s.groups.get g).holder = none ∨ (s.groups.get g).holder = some p) →
    (∀ v : Byte, Ready s p 0x06 [v] → (v.toNat = 0 ∨ 4 < v.toNat) →
      exec (.selectArrangement p [v]) s = .next (answering s p 0x06 .badValue [])) ∧
    (Ready s p 0x06 [numberByte s.settings.active] →
      exec (.selectArrangement p [numberByte s.settings.active]) s = .next (answering s p 0x06 .ok [])) ∧
    ∀ k, k ≠ s.settings.active → Ready s p 0x06 [numberByte k] → GroupLaw s →
      ∃ t, exec (.selectArrangement p [numberByte k]) s = .next t ∧ Answered s t p 0x06 .ok ∧
        t.settings = { s.settings with active := k } ∧
        t.engine = { s.engine with queue := [.all], aligned := .ofFn fun _ => false } ∧
        (∀ g, (t.groups.get g).holder = (s.groups.get g).holder) ∧
        (∀ g, (t.groups.get g).members.length ≤ (t.settings.groupRecord g).maxOpen) ∧
        (∀ g n, (t.groups.get g).holds n = true → (t.settings.channelGroups.get k).get n = some g) ∧
        (∀ n, t.eligible n = false ∨ (s.gates.get n).state = .parked → (t.gates.get n).state = .parked) ∧
        (∀ n, (t.gates.get n).mode = (s.gates.get n).mode ∧ (t.gates.get n).station = (s.gates.get n).station) ∧
        (∀ g,
          let record := (s.settings.groups.get k).get g
          let stays (n : Channel) : Prop := (s.settings.channelGroups.get k).get n = some g ∧ t.eligible n = true
          let kept := (s.groups.get g).members.filter fun m => decide (stays m.channel)
          let forced := kept.filter fun m => m.kind == .forced
          let waits := (s.groups.get g).waiting.filter fun n => decide (stays n)
          let asking := (List.finRange 16).filter fun n => decide (stays n ∧ s.settings.channelGroup n ≠ some g ∧
            (s.gates.get n).state ≠ .parked ∧ (s.gates.get n).mode = .forceOpen)
          (∀ m ∈ kept, (t.groups.get g).holds m.channel = true →
            m ∈ (t.groups.get g).members ∧ t.gates.get m.channel = s.gates.get m.channel) ∧
          ((t.groups.get g).members.filter fun m => kept.contains m).Sublist kept ∧
          (∀ m ∈ kept, m ∉ (t.groups.get g).members → (t.gates.get m.channel).state = .closed ∧
            (m.kind = .auto → ∀ x ∈ kept, x ∈ (t.groups.get g).members → x.kind = .auto → QuieterThan kept m x) ∧
            (m.kind = .forced → m.channel ∈ (t.groups.get g).waiting)) ∧
          (record.maxOpen ≤ forced.length → SetIs t g (forced.take record.maxOpen)
            (waits ++ ((forced.drop record.maxOpen).map Member.channel).reverse ++ asking)) ∧
          (kept.length ≤ record.maxOpen → asking = [] →
            (record.lastHold = true ∨ ∀ m ∈ kept, (s.gates.get m.channel).state ≠ .lastOn) →
            let room := record.maxOpen - kept.length
            SetIs t g (kept ++ (waits.take room).map (forcedRecord s)) (waits.drop room))) ∧
        PostedToAll .arrangementChanged t ∧
        PostedWithin (gateKinds ||| EventKind.arrangementChanged.mask) s t ∧ TargetLaw t ∧ t.delay = s.delay ∧
        SameBuilding s t

/-- R122, R123: HOLD_GROUP, RELEASE_GROUP and BREAK_HOLD in every case. -/
def Obligations.HoldsAreTakenReleasedAndBroken : Prop :=
  ∀ (s : State) (p : Port),
    (∀ g : Group, let given (h : Option Port) : State :=
        { s with groups := s.groups.set g { s.groups.get g with holder := h } }
      (Ready s p 0x07 [numberByte g] → exec (.holdGroup p [numberByte g]) s = .next (
        match (s.groups.get g).holder with
        | none => answering (given (some p)) p 0x07 .ok []
        | some q => if q = p then answering s p 0x07 .ok [] else answering s p 0x07 .heldElsewhere [])) ∧
      (Ready s p 0x08 [numberByte g] → exec (.releaseGroup p [numberByte g]) s = .next (
        if (s.groups.get g).holder = some p then answering (given none) p 0x08 .ok []
        else answering s p 0x08 .notHolder [])) ∧
      (Ready s p 0x09 [numberByte g] → exec (.breakHold p [numberByte g]) s = .next (
        match (s.groups.get g).holder with
        | none => answering s p 0x09 .notHeld []
        | some q => answering ((given none).postTo q EventKind.holdBroken.mask) p 0x09 .ok []))) ∧
    ∀ v : Byte, v.toNat = 0 ∨ 6 < v.toNat →
      (Ready s p 0x07 [v] → exec (.holdGroup p [v]) s = .next (answering s p 0x07 .badIndex [])) ∧
      (Ready s p 0x08 [v] → exec (.releaseGroup p [v]) s = .next (answering s p 0x08 .badIndex [])) ∧
      (Ready s p 0x09 [v] → exec (.breakHold p [v]) s = .next (answering s p 0x09 .badIndex []))

/-- R145, R148: ZONE_MUTE sets or clears REQUEST_MUTE of its zone alone; only that zone's crosspoints can move, and a STEADY
one that is muted fades from its level over the zone's profile. -/
def Obligations.ZoneMuteActs : Prop :=
  ∀ (s : State) (p : Port) (j : Zone),
    (heldElsewhere s.groups p (s.settings.zoneGroup j) = false → ArrayLaw s →
      (∀ mute : Bool, Ready s p 0x0A [numberByte j, flagOf mute] →
        ∃ t, exec (.zoneMute p [numberByte j, flagOf mute]) s = .next t ∧ Answered s t p 0x0A .ok ∧
          t.zones = s.zones.set j { s.zones.get j with requestMute := mute } ∧ TargetLaw t ∧
          (∀ n i, i ≠ j → (t.crosspoints.get n).get i = (s.crosspoints.get n).get i) ∧
          (mute = true → ∀ n, ((t.crosspoints.get n).get j).target = none ∧
            ∀ l, ((s.crosspoints.get n).get j).phase = .steady l → ((t.crosspoints.get n).get j).phase =
              .ramping l (s.settings.fadeLength j) (s.settings.fadeLength j)) ∧
          ZoneFrame s t ∧ t.override = s.override ∧ t.clock = s.clock ∧ t.events = s.events) ∧
      ∀ v : Byte, 1 < v.toNat → Ready s p 0x0A [numberByte j, v] →
        exec (.zoneMute p [numberByte j, v]) s = .next (answering s p 0x0A .badValue [])) ∧
    ∀ v w : Byte, v.toNat = 0 ∨ 24 < v.toNat → Ready s p 0x0A [v, w] →
      exec (.zoneMute p [v, w]) s = .next (answering s p 0x0A .badIndex [])

/-- R136: SET_SOCKET_POWER for on, refusals in their order and the effect by the socket's state; a value other than off or
on is refused with BAD_VALUE. R134, R137, R138: SET_SOCKET_POWER for off, and RESENSE_SOCKET with its refusals: the
socket's new record, and the channel parked and out of its set where the socket ceases to be ready. A socket number outside
1 to 16 is refused with BAD_INDEX by all three. -/
def Obligations.SocketRequests : Prop :=
  (∀ (s : State) (p : Port) (n : Channel), Ready s p 0x0B [numberByte n, 1] →
     let phase := (s.sockets.get n).phase
     let run := exec (.setSocketPowerOn p [numberByte n, 1]) s
     ((phase = .empty ∨ ∃ k, phase = .sensing k) → run = .next (answering s p 0x0B .notPresent [])) ∧
     (∀ c, phase = .present c → c ≠ .condenser →
       run = .next (answering (s.post .powerRefused) p 0x0B .powerRefused [])) ∧
     ((phase = .present .condenser ∨ (∃ k, phase = .ramping k) ∨ phase = .powered ∨ phase = .fault) →
       (s.standby = true → run = .next (answering s p 0x0B .inStandby [])) ∧
       (s.standby = false → GroupLaw s → TargetLaw s → run = .next (answering { s with
           sockets := s.sockets.set n { s.sockets.get n with
             wish := true
             phase := match phase with
               | .present _ => .ramping 9600
               | .fault => .ramping 9600
               | ph => ph } } p 0x0B .ok [])))) ∧
  (∀ (s : State) (p : Port) (n : Channel) (v : Byte), 1 < v.toNat → Ready s p 0x0B [numberByte n, v] →
     exec (.setSocketPowerOn p [numberByte n, v]) s = .next (answering s p 0x0B .badValue [])) ∧
  (∀ (s : State) (p : Port) (v : Byte), v.toNat = 0 ∨ 16 < v.toNat →
     (∀ w : Byte, Ready s p 0x0B [v, w] → (w.toNat ≠ 0 →
         exec (.setSocketPowerOn p [v, w]) s = .next (answering s p 0x0B .badIndex [])) ∧
       (w.toNat = 0 → exec (.setSocketPowerOff p [v, w]) s = .next (answering s p 0x0B .badIndex []))) ∧
     (Ready s p 0x0C [v] → exec (.resenseSocket p [v]) s = .next (answering s p 0x0C .badIndex []))) ∧
  (∀ (s : State) (p : Port) (n : Channel),
     (Ready s p 0x0B [numberByte n, 0] → GroupLaw s →
       ∃ t, exec (.setSocketPowerOff p [numberByte n, 0]) s = .next t ∧ Answered s t p 0x0B .ok ∧
         t.sockets = s.sockets.set n { s.sockets.get n with
           wish := false
           suppressed := true
           phase := match (s.sockets.get n).phase with
             | .ramping _ => .present .condenser
             | .powered => .present .condenser
             | .fault => .present .condenser
             | ph => ph } ∧
         ((s.sockets.get n).phase = .powered → (t.gates.get n).state = .parked ∧ (t.gates.get n).holdCounter = 0 ∧
           memberGroup t.groups n = none) ∧
         t.engine.aligned = s.engine.aligned ∧ PostedWithin gateKinds s t ∧ SocketFrame s t) ∧
     (Ready s p 0x0C [numberByte n] →
       ((s.sockets.get n).phase = .empty → exec (.resenseSocket p [numberByte n]) s =
         .next (answering s p 0x0C .notPresent [])) ∧
       ((s.sockets.get n).phase ≠ .empty →
         (s.standby = true → exec (.resenseSocket p [numberByte n]) s = .next (answering s p 0x0C .inStandby [])) ∧
         (s.standby = false → GroupLaw s → ∃ t, exec (.resenseSocket p [numberByte n]) s = .next t ∧
           Answered s t p 0x0C .ok ∧ t.sockets = s.sockets.set n { s.sockets.get n with
             phase := .sensing 4800, wish := false, suppressed := false } ∧
           (t.gates.get n).state = .parked ∧ (t.gates.get n).holdCounter = 0 ∧ memberGroup t.groups n = none ∧
           t.engine.aligned = s.engine.aligned ∧ PostedWithin gateKinds s t ∧ SocketFrame s t))))

/-- R74, R153: RESUME_AFTER_OVERRIDE by the override state; from LATCHED every latch is lifted, and a SILENT crosspoint that
is now live ramps in from 160 over its zone's profile. R74, R164: REARM_OUTPUTS is accepted in LOCKED and INTERNAL, where
every zone loses CLOCK, and a SILENT crosspoint that is now live ramps in over 240 samples; it is refused in LOCKING and
HOLDOVER. -/
def Obligations.ResumeAndRearm : Prop :=
  (∀ (s : State) (p : Port), Ready s p 0x10 [] →
     (s.override.state = .idle → exec (.resumeAfterOverride p []) s = .next (answering s p 0x10 .ok [])) ∧
     (s.override.state = .active →
       exec (.resumeAfterOverride p []) s = .next (answering s p 0x10 .overrideActive [])) ∧
     (s.override.state = .latched → ArrayLaw s → ∃ t, exec (.resumeAfterOverride p []) s = .next t ∧
       Answered s t p 0x10 .ok ∧ t.override = { s.override with state := .idle } ∧
       (∀ j, t.zones.get j = { s.zones.get j with overrideLatch := false }) ∧ TargetLaw t ∧
       (∀ n j, (s.zones.get j).overrideLatch = false →
         (t.crosspoints.get n).get j = (s.crosspoints.get n).get j) ∧
       (∀ n j, ((s.crosspoints.get n).get j).phase = .silent → ((t.crosspoints.get n).get j).target ≠ none →
         ((t.crosspoints.get n).get j).phase = .ramping 160 (s.settings.fadeLength j) (s.settings.fadeLength j)) ∧
       ZoneFrame s t ∧ t.clock = s.clock ∧ t.events = (s.post .overrideChange).events)) ∧
  (∀ (s : State) (p : Port), Ready s p 0x11 [] →
     (s.clock.state = .locking ∨ s.clock.state = .holdover →
       exec (.rearmOutputs p []) s = .next (answering s p 0x11 .clockNotReady [])) ∧
     (s.clock.state = .locked ∨ s.clock.state = .internal → ArrayLaw s → ∃ t, exec (.rearmOutputs p []) s = .next t ∧
       Answered s t p 0x11 .ok ∧ (∀ j, t.zones.get j = { s.zones.get j with clock := false }) ∧ TargetLaw t ∧
       (∀ n j, (s.zones.get j).clock = false → (t.crosspoints.get n).get j = (s.crosspoints.get n).get j) ∧
       (∀ n j, ((s.crosspoints.get n).get j).phase = .silent → ((t.crosspoints.get n).get j).target ≠ none →
         ((t.crosspoints.get n).get j).phase = .ramping 160 240 240) ∧
       ZoneFrame s t ∧ t.override = s.override ∧ t.clock = s.clock ∧ t.events = s.events))

/-- R15, R169: FREEZE_GEOMETRY sets the freeze alone; RESET_RUNTIME is answered OK, its reset waiting for the response's
end; a body that is not empty is refused with BAD_LENGTH, as for every request that carries none. -/
def Obligations.FreezeAndResetRequests : Prop :=
  ∀ (s : State) (p : Port),
    (Ready s p 0x12 [] → exec (.freezeGeometry p []) s = .next (answering { s with frozen := true } p 0x12 .ok [])) ∧
    (Ready s p 0x15 [] → exec (.resetRuntime p []) s = .next (s.setPort p (.responding ⟨0x15, .ok, []⟩ true))) ∧
    ∀ body, body ≠ [] →
      (Ready s p 0x12 body → exec (.freezeGeometry p body) s = .next (answering s p 0x12 .badLength [])) ∧
      (Ready s p 0x15 body → exec (.resetRuntime p body) s = .next (answering s p 0x15 .badLength [])) ∧
      (Ready s p 0x13 body → exec (.standby p body) s = .next (answering s p 0x13 .badLength [])) ∧
      (Ready s p 0x14 body → exec (.wake p body) s = .next (answering s p 0x14 .badLength [])) ∧
      (Ready s p 0x10 body → exec (.resumeAfterOverride p body) s = .next (answering s p 0x10 .badLength [])) ∧
      (Ready s p 0x11 body → exec (.rearmOutputs p body) s = .next (answering s p 0x11 .badLength [])) ∧
      (Ready s p 0x0D body → exec (.readEvents p body) s = .next (answering s p 0x0D .badLength []))

/-- R83, R140, R165: entry to standby, block by block; a part already in standby is left as it is. R10, R83, R87, R140,
R167: the wake, block by block; an awake part is left as it is. -/
def Obligations.StandbyAndWake : Prop :=
  (∀ (s : State) (p : Port), Ready s p 0x13 [] →
     (s.standby = true → exec (.standby p []) s = .next (answering s p 0x13 .ok [])) ∧
     (s.standby = false → GroupLaw s → ArrayLaw s → StandbyLaw s → ∃ t, exec (.standby p []) s = .next t ∧
       Answered s t p 0x13 .ok ∧ t.standby = true ∧ (∀ j, t.zones.get j = { s.zones.get j with standby := true }) ∧
       (∀ n, t.gates.get n = { s.gates.get n with
         state := .parked, holdCounter := 0, latest := 240, detector := ⟨0, 0, none⟩ }) ∧
       (∀ g, t.groups.get g = ⟨(s.groups.get g).holder, [], []⟩) ∧
       (∀ n, t.sockets.get n = { s.sockets.get n with phase := match (s.sockets.get n).phase with
         | .ramping _ => .present .condenser
         | .powered => .present .condenser
         | ph => ph }) ∧
       TargetLaw t ∧
       (∀ n j, match ((s.crosspoints.get n).get j).phase with
         | .silent => ((t.crosspoints.get n).get j).phase = .silent
         | .steady l => ((t.crosspoints.get n).get j).phase = .ramping l 240 240
         | .ramping l len rem => ((t.crosspoints.get n).get j).phase =
             if ((s.crosspoints.get n).get j).target = none then .ramping l len (min 240 rem) else .ramping l 240 240
         | .crossfading l d ol q len rem =>
           ((t.crosspoints.get n).get j).phase = .crossfading l d ol q len (min 240 rem)) ∧
       (∀ g, (s.groups.get g).members ≠ [] → PostedToAll .gateClosed t ∧
         (Item.group g ∈ t.engine.queue ∨ Item.all ∈ t.engine.queue)) ∧
       PostedWithin EventKind.gateClosed.mask s t ∧ t.engine.aligned = s.engine.aligned ∧
       t.engine.flight = s.engine.flight ∧ t.settings = s.settings ∧ t.frozen = s.frozen ∧ t.delay = s.delay ∧
       t.override = s.override ∧ t.clock = s.clock ∧ t.contacts = s.contacts)) ∧
  (∀ (s : State) (p : Port), Ready s p 0x14 [] →
     (s.standby = false → exec (.wake p []) s = .next (answering s p 0x14 .ok [])) ∧
     (s.standby = true → GroupLaw s → StandbyLaw s → ∃ t, exec (.wake p []) s = .next t ∧
       Answered s t p 0x14 .ok ∧ t.standby = false ∧ (∀ j, t.zones.get j = { s.zones.get j with standby := false }) ∧
       t.delay = ⟨[], .ofFn fun _ => 0⟩ ∧
       (∀ n, (t.sockets.get n).phase = if (s.sockets.get n).phase = .present .condenser ∧
           ((s.sockets.get n).wish = true ∨
             ((s.settings.channels.get n).autoPower = true ∧ (s.sockets.get n).suppressed = false))
         then .ramping 9600 else (s.sockets.get n).phase) ∧
       (∀ n, (t.gates.get n).latest = 240 ∧ (t.gates.get n).detector = ⟨0, 0, none⟩ ∧
         (t.gates.get n).station = (s.gates.get n).station ∧ (t.gates.get n).mode = (s.gates.get n).mode) ∧
       (∀ n, (t.gates.get n).state = .parked ↔ ¬(t.eligible n = true ∧ s.engine.aligned.get n = true)) ∧
       (∀ n, (t.gates.get n).state ≠ .parked → (s.gates.get n).mode ≠ .forceOpen → (t.gates.get n).state = .closed) ∧
       t.engine.aligned = s.engine.aligned ∧ t.engine.flight = s.engine.flight ∧ PostedWithin gateKinds s t ∧
       t.settings = s.settings ∧ t.frozen = s.frozen ∧ t.override = s.override ∧ t.clock = s.clock ∧
       t.contacts = s.contacts))

/-! ### The alignment engine -/

/-- R42, R43, R55: an ask for CHANNEL(n) or GROUP(g) merges or is appended, an ask for ALL leaves ALL alone; CHANNEL clears
the channel's ALIGNED flag, ALL every one, GROUP none; the item in flight is not touched. -/
def Obligations.AsksMergeInTheQueue : Prop :=
  ∀ (e : Engine),
    (∀ n, (e.askChannel n).queue = (if Item.all ∈ e.queue ∨ Item.channel n ∈ e.queue then e.queue
        else e.queue ++ [.channel n]) ∧ (e.askChannel n).aligned.get n = false ∧
      (∀ k, k ≠ n → (e.askChannel n).aligned.get k = e.aligned.get k) ∧ (e.askChannel n).flight = e.flight) ∧
    (∀ g, (e.askGroup g).queue = (if Item.all ∈ e.queue ∨ Item.group g ∈ e.queue then e.queue
        else e.queue ++ [.group g]) ∧ (e.askGroup g).aligned = e.aligned ∧ (e.askGroup g).flight = e.flight) ∧
    e.askAll.queue = [.all] ∧ (∀ k, e.askAll.aligned.get k = false) ∧ e.askAll.flight = e.flight

/-- R46, R47: ITEM_START removes the head of the queue and takes its inputs as they stand; an ALL item copies the reported
temperature first. R46, R50, R51: an item that has been overtaken is dropped: it writes nothing, sets no ALIGNED flag and
posts nothing; after any completion the engine starts the new head, or becomes IDLE with QUEUE_IDLE. -/
def Obligations.ItemsStartAndAreOvertaken : Prop :=
  (∀ (s : State) (i : Item) (rest : List Item), s.held = false → s.engine.flight = none → s.engine.queue = i :: rest →
     exec .itemStart s = .next { s with engine := { s.engine with
       queue := rest
       inUse := if i = .all then s.engine.reported else s.engine.inUse
       flight := some (match i with
         | .channel n => .channel n (s.channelInputs n) s.settings.zones s.engine.inUse
         | .group g => .group g (s.memberInputs g) (.ofFn fun j => (s.settings.zones.get j).trim)
           (s.settings.groupRecord g).master (s.groups.get g).members.length
         | .all => .all (.ofFn s.channelInputs) s.settings.zones s.engine.reported) } } ∧
     (∀ n, s.channelInputs n = ⟨(s.gates.get n).station.map fun k => (s.settings.stations.get k).position,
       (s.settings.channels.get n).length * 256,
       ((s.settings.channelGroup n).map fun g => (s.settings.groupRecord g).master).getD 0,
       ((s.settings.channelGroup n).map fun g => (s.groups.get g).members.length).getD 0⟩) ∧
     ∀ g m, m ∈ s.memberInputs g ↔ s.settings.channelGroup m.channel = some g ∧
       m.hasStation = (s.gates.get m.channel).station.isSome ∧
       ∀ j, m.stored.get j = (((s.crosspoints.get m.channel).get j).proximity, ((s.crosspoints.get m.channel).get j).guarded)) ∧
  (∀ (s : State), s.held = false →
     (s.engine.queue = [] → s.nextItem = ({ s with engine := { s.engine with flight := none } }).post .queueIdle) ∧
     (s.engine.queue ≠ [] → exec .itemStart { s with engine := { s.engine with flight := none } } = .next s.nextItem) ∧
     (∀ n inputs zones t, s.engine.flight = some (.channel n inputs zones t) →
       Item.channel n ∈ s.engine.queue ∨ Item.all ∈ s.engine.queue →
       exec (.channelItemComplete n) s = .next s.nextItem) ∧
     (∀ inputs zones t, s.engine.flight = some (.all inputs zones t) → Item.all ∈ s.engine.queue →
       exec .allItemComplete s = .next s.nextItem))

/-- R50, R53, R54, R55: a CHANNEL item that has not been overtaken delivers to its channel's 24 crosspoints and no others,
sets its ALIGNED flag, and posts one CLAMPED where a delay was clamped. R87: a PARKED channel that is eligible leaves PARKED,
and in FORCE_OPEN asks for forced entry at once, which R114 decides. -/
def Obligations.ChannelItemDelivers : Prop :=
  ∀ (s : State) (n : Channel) (inputs : ChannelInputs) (zones : Table 24 ZoneRec) (t : Int), s.held = false →
    s.engine.flight = some (.channel n inputs zones t) → Item.channel n ∉ s.engine.queue → Item.all ∉ s.engine.queue →
    GroupLaw s → TargetLaw s →
    let result (j : Zone) : Result := fullResult inputs (zones.get j) t
    let told : State := if ∃ j, (result j).clampedLow = true ∨ (result j).clampedHigh = true then s.post .clamped else s
    (((s.gates.get n).mode ≠ .forceOpen ∨ (s.gates.get n).state ≠ .parked ∨ s.eligible n = false) →
     exec (.channelItemComplete n) s = .next (State.nextItem { s with
       crosspoints := s.crosspoints.set n (.ofFn fun j =>
         ((s.crosspoints.get n).get j).deliver (s.live n j) (s.settings.fadeLength j) (result j))
       engine := { s.engine with aligned := s.engine.aligned.set n true }
       gates := if (s.gates.get n).state = .parked ∧ s.eligible n = true then
           s.gates.set n { s.gates.get n with state := .closed, holdCounter := 0 }
         else s.gates
       events := told.events })) ∧
    ((s.gates.get n).mode = .forceOpen → (s.gates.get n).state = .parked → s.eligible n = true →
      ∃ u, exec (.channelItemComplete n) s = .next u.nextItem ∧
        (∀ g, s.settings.channelGroup n = some g → ForcedAsk s u g n) ∧ (u.gates.get n).mode = .forceOpen ∧
        (∀ j, (u.crosspoints.get n).get j = (((s.crosspoints.get n).get j).deliver false (s.settings.fadeLength j)
          (result j)).retarget (s.settings.fadeLength j) (if u.live n j then (result j).level else none)) ∧
        (∀ m j, m ≠ n → (u.crosspoints.get m).get j = ((s.crosspoints.get m).get j).retarget (s.settings.fadeLength j)
          (u.targetOf m j ((s.crosspoints.get m).get j))) ∧ TargetLaw u ∧
        u.engine.aligned = s.engine.aligned.set n true ∧ PostedWithin gateKinds told u ∧
        ((∃ j, (result j).clampedLow = true ∨ (result j).clampedHigh = true) → PostedToAll .clamped u) ∧
        u.settings = s.settings ∧ u.delay = s.delay ∧ SameBuilding s u)

/-- R51, R53, R54, R55, R87: an ALL item delivers to every channel whose CHANNEL item is not queued, in one event, and
leaves the crosspoints of the others but for what their effective targets do; afterwards no channel that is eligible and
ALIGNED is PARKED, and one that left PARKED is CLOSED, or in FORCE_OPEN a member or waiting. -/
def Obligations.AllItemDelivers : Prop :=
  ∀ (s : State) (inputs : Table 16 ChannelInputs) (zones : Table 24 ZoneRec) (t : Int), s.held = false →
    s.engine.flight = some (.all inputs zones t) → Item.all ∉ s.engine.queue → GroupLaw s → TargetLaw s →
    let chosen (n : Channel) : Prop := Item.channel n ∉ s.engine.queue
    let result (n : Channel) (j : Zone) : Result := fullResult (inputs.get n) (zones.get j) t
    let told : State := if ∃ n j, chosen n ∧ ((result n j).clampedLow = true ∨ (result n j).clampedHigh = true)
      then s.post .clamped else s
    ((∀ n, (s.gates.get n).state ≠ .parked ∨ s.eligible n = false) →
      exec .allItemComplete s = .next (State.nextItem { s with
        crosspoints := .ofFn fun n => if chosen n then .ofFn fun j =>
            ((s.crosspoints.get n).get j).deliver (s.live n j) (s.settings.fadeLength j) (result n j)
          else s.crosspoints.get n
        engine := { s.engine with aligned := .ofFn fun n => s.engine.aligned.get n || decide (chosen n) }
        events := told.events })) ∧
    ∃ u, exec .allItemComplete s = .next u.nextItem ∧
      (∀ n j, chosen n → (u.crosspoints.get n).get j = (((s.crosspoints.get n).get j).deliver (s.live n j)
        (s.settings.fadeLength j) (result n j)).retarget (s.settings.fadeLength j)
          (if u.live n j then (result n j).level else none)) ∧
      (∀ n j, ¬chosen n → (u.crosspoints.get n).get j = ((s.crosspoints.get n).get j).retarget (s.settings.fadeLength j)
        (u.targetOf n j ((s.crosspoints.get n).get j))) ∧ TargetLaw u ∧
      (∀ n, u.engine.aligned.get n = (s.engine.aligned.get n || decide (chosen n))) ∧
      (∀ n, s.eligible n = true → u.engine.aligned.get n = true → (u.gates.get n).state ≠ .parked) ∧
      (∀ n, (s.gates.get n).state = .parked → s.eligible n = false ∨ u.engine.aligned.get n = false →
        (u.gates.get n).state = .parked) ∧
      (∀ n, (s.gates.get n).state = .parked → (u.gates.get n).state ≠ .parked →
        ((s.gates.get n).mode ≠ .forceOpen → (u.gates.get n).state = .closed) ∧
        ((s.gates.get n).mode = .forceOpen → ∃ g, s.settings.channelGroup n = some g ∧
          ((u.groups.get g).holds n = true ∨ n ∈ (u.groups.get g).waiting))) ∧
      (∀ n, (u.gates.get n).mode = (s.gates.get n).mode ∧ (u.gates.get n).station = (s.gates.get n).station) ∧
      PostedWithin gateKinds told u ∧
      ((∃ n j, chosen n ∧ ((result n j).clampedLow = true ∨ (result n j).clampedHigh = true)) → PostedToAll .clamped u) ∧
      u.engine.inUse = s.engine.inUse ∧ u.settings = s.settings ∧ u.delay = s.delay ∧ SameBuilding s u

/-- R35, R52: a GROUP item delivers a level to each crosspoint of the channels that were in the group at its start, and
writes nothing else: no delay, no flag, no ALIGNED, no CLAMPED. -/
def Obligations.GroupItemDelivers : Prop :=
  ∀ (s : State) (g : Group) (members : List MemberInputs) (trims : Table 24 Nat) (master count : Nat), s.held = false →
    s.engine.flight = some (.group g members trims master count) → (members.map MemberInputs.channel).Nodup →
    ∃ u, exec (.groupItemComplete g) s = .next (State.nextItem { s with crosspoints := u }) ∧
      (∀ n, n ∉ members.map MemberInputs.channel → u.get n = s.crosspoints.get n) ∧
      ∀ m ∈ members, ∀ j, ((u.get m.channel).get j) =
        (let x := (s.crosspoints.get m.channel).get j
        let level : Option Nat := if m.hasStation = false ∨ (m.stored.get j).2 = true then none
          else some (min 160 (trims.get j + master + (m.stored.get j).1 + nom count))
        Crosspoint.retarget (s.settings.fadeLength j) (if s.live m.channel j then level else none)
          { x with computedLevel := level })

/-! ### Crosspoints -/

/-- R64, R69, R74, R75: what a crosspoint does when its effective target takes a new value, in each of its states; at a
CLOCK or STANDBY event; and at a takeover of its zone. R20, R53, R66, R67: what the delivery of a full result writes, and
how its delay is handled in each state; a station-less result carries no delay. R62, R63, R73: the live test, condition by
condition, the effective target and the fade length that a zone's selected profile gives. -/
def Obligations.CrosspointsReact : Prop :=
  (∀ (s : State) (n : Channel) (j : Zone),
     (s.live n j = true ↔ ∃ g, (∃ m ∈ (s.groups.get g).members, m.channel = n) ∧
       (s.settings.zoneGroups.get s.settings.active).get j = some g ∧ (s.zones.get j).requestMute = false ∧
       (s.zones.get j).contactMute = false ∧ (s.zones.get j).clock = false ∧ (s.zones.get j).standby = false ∧
       (s.zones.get j).overrideLatch = false ∧ (s.zones.get j).taken = false ∧ s.standby = false) ∧
     (∀ x : Crosspoint, (s.live n j = true → s.targetOf n j x = x.computedLevel) ∧
       (s.live n j = false → s.targetOf n j x = none)) ∧
     s.settings.fadeLength j = s.settings.profiles.get (s.settings.zones.get j).profile) ∧
  (∀ (x : Crosspoint) (len : Nat) (t : Option Nat), PhaseLaw x.target x.phase →
     (t = x.target → x.retarget len t = x) ∧
     (t ≠ x.target → x.retarget len t = { x with
       target := t
       phase := match x.phase with
         | .silent => .ramping 160 len len
         | .steady l => .ramping l len len
         | .ramping l _ _ => .ramping l len len
         | .crossfading l d ol q fl rem => .crossfading l d ol q fl rem }) ∧
     (x.retargetClock t).target = t ∧
     (∀ l fl rem, (x.retargetClock t).phase = .ramping l fl rem → rem ≤ 240 ∧ (t ≠ x.target → fl = 240)) ∧
     (∀ l d ol q fl rem, x.phase = .crossfading l d ol q fl rem →
       (x.retargetClock t).phase = .crossfading l d ol q fl (min 240 rem)) ∧
     x.seize = { x with phase := .silent, target := none, activeDelay := match x.phase with
       | .crossfading _ _ _ (some d) _ _ => d
       | _ => x.activeDelay }) ∧
  (∀ (x : Crosspoint) (live : Bool) (len : Nat) (r : Result), PhaseLaw x.target x.phase →
     let y := x.deliver live len r
     y.computedLevel = r.level ∧ y.proximity = r.proximity ∧ y.clampedLow = r.clampedLow ∧
     y.clampedHigh = r.clampedHigh ∧ y.guarded = r.guarded ∧ y.target = (if live then r.level else none) ∧
     (r.delay = none → y.computedDelay = x.computedDelay ∧ y.activeDelay = x.activeDelay) ∧
     ∀ d, r.delay = some d → y.computedDelay = d ∧ (match x.phase with
       | .silent => y.activeDelay = d ∧ y.phase = if y.target = none then .silent else .ramping 160 len len
       | .steady l =>
         if d = x.activeDelay then y.activeDelay = d ∧ y.phase = (if y.target = some l then .steady l else .ramping l len len)
         else y.activeDelay = d ∧ y.phase = .crossfading 160 x.activeDelay l none len len
       | .ramping l fl rem =>
         if d = x.activeDelay then
           y.activeDelay = d ∧ y.phase = (if y.target = x.target then .ramping l fl rem else .ramping l len len)
         else y.activeDelay = d ∧ y.phase = .crossfading 160 x.activeDelay l none len len
       | .crossfading l od ol _ fl rem =>
         y.activeDelay = x.activeDelay ∧ y.phase = .crossfading l od ol (some d) fl rem))

/-- R65, R67: a fade moves in a straight line and arrives: after k of the samples that remain, the level has gone k/rem of
the way, the outgoing tap of a crossfade towards 160. R65, R68: RAMP_END and CROSSFADE_END at a fade that has run out, in
every row of their tables; the other crosspoints are left as they are. -/
def Obligations.FadesRunStraightAndEnd : Prop :=
  (∀ (goal l ol : Rat) (od fl rem k : Nat) (q : Option Nat), k ≤ rem → 0 < rem →
     (Phase.advance goal)^[k] (.ramping l fl rem) = .ramping (l + k * ((goal - l) / rem)) fl (rem - k) ∧
     (Phase.advance goal)^[k] (.crossfading l od ol q fl rem) =
       .crossfading (l + k * ((goal - l) / rem)) od (ol + k * ((160 - ol) / rem)) q fl (rem - k) ∧
     (Phase.advance goal)^[rem] (.ramping l fl rem) = .ramping goal fl 0) ∧
  (∀ (s : State) (n : Channel) (j : Zone), s.held = false →
     let x := (s.crosspoints.get n).get j
     let withOne (y : Crosspoint) : State := { s with crosspoints := s.crosspoints.set n ((s.crosspoints.get n).set j y) }
     (∀ l fl, x.phase = .ramping l fl 0 → exec (.rampEnd n j) s = .next (withOne { x with
       phase := match x.target with
         | none => .silent
         | some a => .steady a })) ∧
     ∀ l d ol q fl, x.phase = .crossfading l d ol q fl 0 → exec (.crossfadeEnd n j) s = .next (withOne (
       match x.target, q with
       | none, none => { x with phase := .silent }
       | none, some e => { x with phase := .silent, activeDelay := e }
       | some a, none => { x with phase := .steady a }
       | some a, some e =>
         if e = x.activeDelay then { x with phase := .steady a }
         else { x with
           phase := .crossfading 160 x.activeDelay (a : Nat) none (s.settings.fadeLength j) (s.settings.fadeLength j)
           activeDelay := e })))

/-! ### Gating -/

/-- R83, R87 to R91, R112: a completed measurement is recorded in the gate and in its member record, and moves the gate by
its state: the moves that ask nothing of the arbiter. -/
def Obligations.MeasurementsMoveTheGate : Prop :=
  ∀ (s : State) (n : Channel) (sum : Nat), s.held = false → (s.gates.get n).detector.done = some sum → TargetLaw s →
    let l := measurementOf sum
    let c := s.settings.channels.get n
    let g := s.gates.get n
    let after (state : GateState) (counter : Nat) : State := { s with
      gates := s.gates.set n { g with
        state := state, holdCounter := counter, latest := l, detector := { g.detector with done := none } }
      groups := .ofFn fun h => { s.groups.get h with
        members := (s.groups.get h).members.map fun m => if m.channel = n then { m with latest := l } else m } }
    (g.state = .parked → exec (.measurementComplete n) s = .next (after .parked g.holdCounter)) ∧
    (g.state = .closed → ¬(g.mode = .auto ∧ l ≤ c.threshold) →
      exec (.measurementComplete n) s = .next (after .closed g.holdCounter)) ∧
    (g.state = .opened → exec (.measurementComplete n) s = .next (
      if g.mode = .auto ∧ c.threshold + 12 < l then after .holding c.holdTime else after .opened g.holdCounter)) ∧
    (g.state = .holding → l ≤ c.threshold + 12 → exec (.measurementComplete n) s = .next (after .opened 0)) ∧
    (g.state = .holding → c.threshold + 12 < l → 1 < g.holdCounter →
      exec (.measurementComplete n) s = .next (after .holding (g.holdCounter - 1))) ∧
    (g.state = .lastOn → exec (.measurementComplete n) s = .next (
      if l ≤ c.threshold + 12 then after .opened 0 else after .lastOn g.holdCounter))

/-- R90: the measurement that takes the hold counter to 0 makes the only member of a set with last-channel hold LAST_ON, and
otherwise closes the channel and takes it out of its set with GATE_CLOSED; HOLD_COUNTDOWN_END is that measurement (the
model's reading, log 8). -/
def Obligations.HoldCountdownEnds : Prop :=
  ∀ (s : State) (n : Channel) (g : Group) (sum : Nat), s.held = false → (s.gates.get n).detector.done = some sum →
    GroupLaw s → TargetLaw s → (s.gates.get n).state = .holding → (s.groups.get g).holds n = true →
    (s.settings.channels.get n).threshold + 12 < measurementOf sum → (s.gates.get n).holdCounter = 1 →
    exec (.holdCountdownEnd n) s = exec (.measurementComplete n) s ∧
    ∃ t, exec (.holdCountdownEnd n) s = .next t ∧ (t.gates.get n).holdCounter = 0 ∧
      (t.gates.get n).latest = measurementOf sum ∧ (∀ k, k ≠ n → (t.gates.get k).latest = (s.gates.get k).latest) ∧
      ((s.settings.groupRecord g).lastHold = true → (s.groups.get g).members.length = 1 →
        (t.gates.get n).state = .lastOn ∧ (t.groups.get g).holds n = true ∧ t.engine = s.engine ∧ t.events = s.events) ∧
      (((s.settings.groupRecord g).lastHold = false ∨ (s.groups.get g).members.length ≠ 1) →
        (t.gates.get n).state = .closed ∧ memberGroup t.groups n = none ∧ PostedToAll .gateClosed t ∧
        ((s.groups.get g).waiting = [] → (t.groups.get g).members.length + 1 = (s.groups.get g).members.length ∧
          t.engine = { s.engine with queue := mergeItem (.group g) s.engine.queue })) ∧
      PostedWithin gateKinds s t ∧ t.settings = s.settings ∧ t.delay = s.delay ∧ SameBuilding s t

/-- R113, R116: the decision on an AUTO candidate: into room, beside a yielding LAST_ON member, a bump of the quietest AUTO
member with a margin of 12 steps, or a denial. R106, R113: the quietest AUTO member is the AUTO member with the highest
latest measurement, and of several equally high the earliest entered; there is none exactly where every member is FORCED. -/
def Obligations.AutoCandidatesAreDecided : Prop :=
  (∀ (s : State) (n : Channel) (g : Group) (sum : Nat), s.held = false → (s.gates.get n).detector.done = some sum →
     GroupLaw s → TargetLaw s → (s.gates.get n).state = .closed → (s.gates.get n).mode = .auto →
     s.settings.channelGroup n = some g → measurementOf sum ≤ (s.settings.channels.get n).threshold →
     let l := measurementOf sum
     let set := s.groups.get g
     let full : Prop := (s.settings.groupRecord g).maxOpen ≤ set.members.length
     let quiet : Prop := ∀ m ∈ set.members, (s.gates.get m.channel).state ≠ .lastOn
     let own (st : GateState) : Gate := { s.gates.get n with
       state := st, holdCounter := 0, latest := l, detector := { (s.gates.get n).detector with done := none } }
     let closed (k : Channel) : Gate := { s.gates.get k with state := .closed, holdCounter := 0 }
     ∃ t, exec (.measurementComplete n) s = .next t ∧
       (∀ y, set.members = [y] → (s.gates.get y.channel).state = .lastOn →
         (t.groups.get g).members = [⟨n, .auto, l⟩] ∧ t.gates.get n = own .opened ∧
         t.gates.get y.channel = closed y.channel ∧ GatesOutside [n, y.channel] s t ∧ t.engine = s.engine ∧
         t.events = (s.postMask gateKinds).events) ∧
       (quiet → ¬full → (t.groups.get g).members = set.members ++ [⟨n, .auto, l⟩] ∧ t.gates.get n = own .opened ∧
         GatesOutside [n] s t ∧ t.engine = { s.engine with queue := mergeItem (.group g) s.engine.queue } ∧
         t.events = (s.post .gateOpened).events) ∧
       (quiet → full → ∀ v, Mix.quietest set.members = some v → l + 12 ≤ v.latest →
         (t.groups.get g).members = without v.channel set.members ++ [⟨n, .auto, l⟩] ∧ t.gates.get n = own .opened ∧
         t.gates.get v.channel = closed v.channel ∧ GatesOutside [n, v.channel] s t ∧ t.engine = s.engine ∧
         t.events = (s.postMask (gateKinds ||| EventKind.openDenied.mask)).events) ∧
       (quiet → full → (∀ v, Mix.quietest set.members = some v → v.latest < l + 12) →
         t.groups = s.groups ∧ t.gates.get n = own .closed ∧ GatesOutside [n] s t ∧ t.engine = s.engine ∧
         t.events = (s.post .openDenied).events) ∧
       (t.groups.get g).waiting = set.waiting ∧ (t.groups.get g).holder = set.holder ∧
       (∀ h, h ≠ g → t.groups.get h = s.groups.get h) ∧
       (∀ k j, (t.crosspoints.get k).get j = ((s.crosspoints.get k).get j).retarget
         (s.settings.profiles.get (s.settings.zones.get j).profile) (t.targetOf k j ((s.crosspoints.get k).get j))) ∧
       TargetLaw t ∧ t.settings = s.settings ∧ t.ports = s.ports ∧ t.delay = s.delay ∧ SameBuilding s t) ∧
  (∀ (ms : List Member),
     (∀ v, Mix.quietest ms = some v ↔ ∃ before after, ms = before ++ v :: after ∧ v.kind = .auto ∧
       (∀ w ∈ before, w.kind = .auto → w.latest < v.latest) ∧ ∀ w ∈ after, w.kind = .auto → w.latest ≤ v.latest) ∧
     (Mix.quietest ms = none ↔ ∀ w ∈ ms, w.kind = .forced))

/-! ### Sockets, the life-safety line, the clock, contacts -/

/-- R129, R130, R131: an insertion starts a sensing; the end of the sensing latches the class by its readings, posts
SOCKET_CHANGE, and ramps an awake condenser socket that calls for power. That a change of more than 10 % is measured
against the earlier of two readings of the common-mode path, and that the last reading gives the class, is the model's
reading (log 34). R130, R132: a SENSING socket carries 100 µA and no other does; the supply of a RAMPING one stands on the
straight line from 0 V to 48 V, that of a POWERED one at 48 V, and every other at 0 V. R132 to R135: the end of a ramp, an
overcurrent and a removal: the socket, the events, and the channel; a current of at most 12 mA, or of less than 5 ms, is no
overcurrent (the 5 ms as 240 samples, no more than the ramp's own, is the model's choice, logs 7 and 21; that the ramp's time
is counted in samples is log 7's). -/
def Obligations.SocketEvents : Prop :=
  (∀ (s : State) (n : Channel), s.held = false →
     let ph := (s.sockets.get n).phase
     (∀ k, ph = .sensing k → s.sensingMicroamps n = 100) ∧ ((∀ k, ph ≠ .sensing k) → s.sensingMicroamps n = 0) ∧
     (∀ k, ph = .ramping k → s.phantom n = true ∧ (k ≤ 9600 → s.phantomVolts n * 200 = 9600 - k)) ∧
     (ph = .powered → s.phantom n = true ∧ s.phantomVolts n = 48) ∧
     (ph ≠ .powered → (∀ k, ph ≠ .ramping k) → s.phantom n = false ∧ s.phantomVolts n = 0)) ∧
  (∀ (s : State) (n : Channel), s.held = false →
     let x := s.sockets.get n
     (x.debounce = some 0 → x.raw = true → x.presence = false → x.phase = .empty →
       exec (.insertion n) s = .next { s with
         sockets := s.sockets.set n
           { x with presence := true, debounce := none, suppressed := false, phase := .sensing 4800 } }) ∧
     (∀ r : SenseReading,
       (¬(r.earlier.map Resistances.commonMode ++ [r.last.commonMode]).Pairwise (fun a b => WithinATenth a b) →
         latchedClass r = .unknown) ∧
       ((r.earlier.map Resistances.commonMode ++ [r.last.commonMode]).Pairwise (fun a b => WithinATenth a b) →
         latchedClass r = (if ∃ o, r.last.commonMode = some o ∧ o ≤ 100000 then .condenser
           else if ∃ o, r.last.legs = some o ∧ o ≤ 1000 then .dynamic
           else if r.last.legs = none ∨ ∃ o, r.last.legs = some o ∧ 5000 ≤ o then .lineReceiver else .unknown)) ∧
       (x.phase = .sensing 0 → GroupLaw s → ∃ t, exec (.sensingEnd n r) s = .next t ∧
         t.sockets = s.sockets.set n { x with
           phase := if s.standby = false ∧ latchedClass r = .condenser ∧
               (x.wish = true ∨ ((s.settings.channels.get n).autoPower = true ∧ x.suppressed = false)) then
             .ramping 9600 else .present (latchedClass r) } ∧
         ((latchedClass r = .dynamic ∨ latchedClass r = .lineReceiver) → t.eligible n = true →
           s.engine.aligned.get n = true → (t.gates.get n).state ≠ .parked) ∧
         (t.eligible n = false → t.gates = s.gates ∧ t.groups = s.groups) ∧ t.engine.aligned = s.engine.aligned ∧
         PostedToAll .socketChange t ∧ PostedWithin (EventKind.socketChange.mask ||| gateKinds) s t ∧ SocketFrame s t))) ∧
  (∀ (s : State) (n : Channel), s.held = false → GroupLaw s →
     let x := s.sockets.get n
     (x.phase = .ramping 0 → ∃ t, exec (.phantomRampEnd n) s = .next t ∧
       t.sockets = s.sockets.set n { x with phase := .powered } ∧
       (t.eligible n = true → s.engine.aligned.get n = true → (t.gates.get n).state ≠ .parked) ∧
       (t.eligible n = false → t.gates = s.gates ∧ t.groups = s.groups) ∧ t.engine.aligned = s.engine.aligned ∧
       PostedToAll .powerReady t ∧ PostedWithin (EventKind.powerReady.mask ||| gateKinds) s t ∧ SocketFrame s t) ∧
     (∀ current lasted,
       let overcurrent : Prop := 12000 < current ∧ 240 ≤ lasted ∧
         (x.phase = .powered ∨ ∃ k, x.phase = .ramping k ∧ k + 240 ≤ 9600)
       (overcurrent → ∃ t, exec (.overcurrent ⟨n, current, lasted⟩) s = .next t ∧
         t.sockets = s.sockets.set n { x with phase := .fault } ∧ (t.gates.get n).state = .parked ∧
         (t.gates.get n).holdCounter = 0 ∧ memberGroup t.groups n = none ∧ t.engine.aligned = s.engine.aligned ∧
         PostedToAll .powerFault t ∧ PostedWithin (EventKind.powerFault.mask ||| gateKinds) s t ∧ SocketFrame s t) ∧
       (¬overcurrent → exec (.overcurrent ⟨n, current, lasted⟩) s = .next s)) ∧
     (x.debounce = some 0 → x.raw = false → x.presence = true → ∃ t, exec (.removal n) s = .next t ∧
       t.sockets = s.sockets.set n ⟨.empty, false, false, false, x.raw, none⟩ ∧ (t.gates.get n).state = .parked ∧
       (t.gates.get n).holdCounter = 0 ∧ memberGroup t.groups n = none ∧ t.engine.aligned = s.engine.aligned ∧
       PostedToAll .socketChange t ∧ ((∃ g, (s.groups.get g).holds n = true) →
         PostedToAll .liveRemoval t ∧ PostedToAll .gateClosed t) ∧
       ((∀ g, (s.groups.get g).holds n = false) → t.events = (s.post .socketChange).events) ∧
       PostedWithin (EventKind.socketChange.mask ||| EventKind.liveRemoval.mask ||| gateKinds) s t ∧ SocketFrame s t))

/-- R75, R150, R151, R152: an assertion takes over every member zone at once with its crosspoints SILENT and its causes
kept; a deassertion releases every zone taken over, each gaining OVERRIDE_LATCH, and no crosspoint moves. -/
def Obligations.TheLineTakesOverAndLatches : Prop :=
  ∀ (s : State), s.held = false → s.override.debounce = some 0 → ArrayLaw s →
    (s.override.raw = true → s.override.debounced = false → s.override.state ≠ .active →
      ∃ t, exec .overrideAssertion s = .next t ∧ t.override = ⟨.active, true, true, none⟩ ∧
        (∀ j, t.zones.get j = if (s.settings.zones.get j).member = true then { s.zones.get j with taken := true }
          else s.zones.get j) ∧
        (∀ n j, (t.crosspoints.get n).get j = if (s.settings.zones.get j).member = true
          then ((s.crosspoints.get n).get j).seize else (s.crosspoints.get n).get j) ∧
        ZoneFrame s t ∧ t.clock = s.clock ∧ t.ports = s.ports ∧ t.events = (s.post .overrideChange).events) ∧
    (s.override.raw = false → s.override.debounced = true → s.override.state = .active →
      exec .overrideDeassertion s = .next { s with
        override := ⟨.latched, false, false, none⟩
        zones := .ofFn fun j => if (s.zones.get j).taken = true
          then { s.zones.get j with taken := false, overrideLatch := true } else s.zones.get j
        events := (s.post .overrideChange).events })

/-- R159, R161, R162, R163: an edge in each state of the clock monitor. R74, R161, R162, R163: the end of a qualification
run locks with CLOCK_LOCKED and removes no cause; a gap in LOCKED goes to HOLDOVER with CLOCK_LOST and, with auto-silence,
adds CLOCK to every zone; a gap in LOCKING ends the run, and one in HOLDOVER moves nothing. That the valid edges of the last
10 ms are those of 480 samples back from the newest of them, and that their mean is kept as their number and the sum of their
periods, is the model's (log 12); that a gap is due 48 samples after a valid edge is too (log 7). -/
def Obligations.ClockEvents : Prop :=
  (∀ (s : State) (period : Nat), s.held = false →
     let valid : Prop := s.clock.edgeSeen = true ∧ 19800 ≤ period ∧ period ≤ 21900
     ∃ c, exec (.wordClockEdge period) s = .next { s with clock := c } ∧
       (s.clock.state = .internal → c = s.clock) ∧
       (s.clock.state ≠ .internal → c.edgeSeen = true ∧ c.gap = (if valid then some 48 else s.clock.gap) ∧
         c.edges = if valid then ⟨period, 0⟩ :: s.clock.edges.filter (fun e => decide (e.age < 480))
           else s.clock.edges) ∧
       (s.clock.state = .locking → c.state = .locking ∧ c.reference = s.clock.reference ∧
         c.run = if valid then some (s.clock.run.getD 4800) else none) ∧
       (s.clock.state = .locked → c.state = .locked ∧ c.run = s.clock.run ∧
         c.reference = if valid then .wordClock else s.clock.reference) ∧
       (s.clock.state = .holdover → c.reference = s.clock.reference ∧ c.state = (if valid then .locking else .holdover) ∧
         c.run = if valid then some 4800 else s.clock.run)) ∧
  (∀ (s : State), s.held = false →
     (s.clock.state = .locking → s.clock.run = some 0 → exec .qualificationComplete s =
       .next (({ s with clock := { s.clock with state := .locked, run := none } } : State).post .clockLocked)) ∧
     (s.clock.gap = some 0 →
       (s.clock.state = .locking → exec .clockGap s = .next { s with clock := { s.clock with gap := none, run := none } }) ∧
       (s.clock.state = .holdover → exec .clockGap s = .next { s with clock := { s.clock with gap := none } }) ∧
       (s.clock.state = .locked → ∃ t, exec .clockGap s = .next t ∧ t.clock.state = .holdover ∧ t.clock.gap = none ∧
         t.clock.run = none ∧
         t.clock.reference = .mean s.clock.edges.length (s.clock.edges.map fun e => e.period).sum ∧
         t.events = (s.post .clockLost).events ∧ ZoneFrame s t ∧ t.override = s.override ∧ t.ports = s.ports ∧
         (s.settings.system.autoSilence = false → t.zones = s.zones ∧ t.crosspoints = s.crosspoints) ∧
         (s.settings.system.autoSilence = true → ArrayLaw s →
           (∀ j, t.zones.get j = { s.zones.get j with clock := true }) ∧ TargetLaw t ∧
           ∀ n j l, ((s.crosspoints.get n).get j).phase = .steady l →
             ((t.crosspoints.get n).get j).phase = .ramping l 240 240))))

/-- R197, R198, R199: a debounced change takes the raw level, posts CONTACT_CHANGE and applies the input's action: NONE
nothing, ZONE_MUTE_WHILE its zone's CONTACT_MUTE, MOVE the three steps of a move where the input becomes active, ARRANGE
nothing while a group is held. R92, R93, R114, R115: an input with FORCE_OPEN_WHILE or FORCE_CLOSED_WHILE that becomes active
or inactive re-evaluates the channel's effective mode, with no hold check; a forced ask that is not granted waits. -/
def Obligations.ContactsAct : Prop :=
  ∀ (s : State) (k : ContactIn), s.held = false → (s.contacts.get k).debounce = some 0 →
    (s.contacts.get k).raw ≠ (s.contacts.get k).debounced → TargetLaw s →
    let heard : State := ({ s with
      contacts := s.contacts.set k ⟨(s.contacts.get k).raw, (s.contacts.get k).raw, none⟩ } : State).post .contactChange
    let active : Prop := (s.contacts.get k).raw ≠ (s.settings.contactIn.get k).activeOpen
    let action := (s.settings.contactIn.get k).action
    (action = .none → exec (.contactChange k) s = .next heard) ∧
    (∀ a, action = .arrange a → (¬active ∨ (∃ g, (s.groups.get g).holder ≠ none) ∨ a = s.settings.active) →
      exec (.contactChange k) s = .next heard) ∧
    (∀ a, action = .arrange a → active → (∀ g, (s.groups.get g).holder = none) → a ≠ s.settings.active →
      ∃ t, exec (.contactChange k) s = .next t ∧ t.settings = { s.settings with active := a } ∧
        PostedToAll .arrangementChanged t ∧ PostedToAll .contactChange t ∧
        t.engine = { s.engine with queue := [.all], aligned := .ofFn fun _ => false } ∧ t.ports = s.ports) ∧
    (∀ n st, action = .move n st →
      (¬active → exec (.contactChange k) s = .next heard) ∧
      (active → ∃ t, exec (.contactChange k) s = .next t ∧ (t.gates.get n).station = st ∧
        (∀ m, m ≠ n → (t.gates.get m).station = (s.gates.get m).station) ∧ t.contacts = heard.contacts ∧
        t.engine.aligned = s.engine.aligned.set n false ∧
        (Item.channel n ∈ t.engine.queue ∨ Item.all ∈ t.engine.queue) ∧ t.settings = s.settings ∧ t.ports = s.ports)) ∧
    (∀ j, action = .zoneMuteWhile j → ∃ t, exec (.contactChange k) s = .next t ∧ t.contacts = heard.contacts ∧
      t.zones = s.zones.set j { s.zones.get j with contactMute := t.anyActive (.zoneMuteWhile j) } ∧
      (active → (t.zones.get j).contactMute = true) ∧ TargetLaw t ∧ t.gates = s.gates ∧ t.groups = s.groups ∧
      t.engine = s.engine ∧ t.events = heard.events ∧ t.settings = s.settings ∧ t.delay = s.delay ∧ t.ports = s.ports) ∧
    ∀ n, action = .forceOpenWhile n ∨ action = .forceClosedWhile n → GroupLaw s →
      let mode := heard.modeFrom n (s.gates.get n).portMode
      (active → action = .forceClosedWhile n → mode = .forceClosed) ∧
      (active → action = .forceOpenWhile n → mode = if heard.anyActive (.forceClosedWhile n) then .forceClosed
        else .forceOpen) ∧
      (¬active → heard.anyActive (.forceOpenWhile n) = false → heard.anyActive (.forceClosedWhile n) = false →
        mode = (s.gates.get n).portMode) ∧
      (mode = (s.gates.get n).mode → exec (.contactChange k) s = .next heard) ∧
      (mode ≠ (s.gates.get n).mode → ∃ t, exec (.contactChange k) s = .next t ∧ ModeTaken s t n mode ∧
        (t.gates.get n).portMode = (s.gates.get n).portMode ∧ PostedToAll .contactChange t ∧
        PostedWithin (EventKind.contactChange.mask ||| gateKinds) s t ∧ TargetLaw t ∧ t.contacts = heard.contacts ∧
        t.settings = s.settings ∧ t.ports = s.ports ∧ t.zones = s.zones ∧ t.delay = s.delay ∧
        t.engine.aligned = s.engine.aligned)

/-! ### The audio links -/

/-- R9, R82, R83: an input sample is written into every channel's window: a tap at delay 0 then reads it, and a tap at delay
d + 1 reads what a tap at delay d read; the detectors take it, but not in standby, a block of 480 completing. That the sum
of a completed block waits in `detector.done` for its MEASUREMENT_COMPLETE, and that a later completed block takes its
place, is the model's choice (log 10). -/
def Obligations.InputSamplesAreStored : Prop :=
  ∀ (s : State) (slots : Table 17 Sample), s.held = false → DelayLaw s →
    ∃ t, exec (.inputSample slots) s = .next t ∧
      (∀ n, 0 < s.settings.window n →
        t.delay.tap (s.settings.channels.get n) n 0 = slots.get (slotOf n) ∧
        ∀ d, d + 1 < s.settings.window n →
          t.delay.tap (s.settings.channels.get n) n (d + 1) = s.delay.tap (s.settings.channels.get n) n d) ∧
      (∀ n, s.settings.window n = 0 → t.delay.position.get n = s.delay.position.get n) ∧
      (∀ a, (∀ n, a < (s.settings.channels.get n).firstCell ∨
          (s.settings.channels.get n).firstCell + s.settings.window n ≤ a) →
        readCell t.delay.cells a = readCell s.delay.cells a) ∧
      (s.standby = true → t.gates = s.gates) ∧
      (s.standby = false → ∀ n,
        let d := (s.gates.get n).detector
        let square : Nat := (slots.get (slotOf n)).toInt.natAbs ^ 2
        t.gates.get n = { s.gates.get n with detector := if d.count < 479 then ⟨d.sum + square, d.count + 1, d.done⟩
          else ⟨0, 0, some (d.sum + square)⟩ }) ∧
      t.announcement = slots.get 16 ∧ t = { s with
        delay := t.delay, gates := t.gates, announcement := t.announcement }

/-- R65, R67, R77, R78, R147: an output sample. Each crosspoint ends a fade that has run out and moves a fade by one sample;
the feed of a zone that is not taken over is its exact sum rounded and limited, that of a zone taken over the announcement
at the override attenuation; ZONE_CLIPPED is posted exactly where a sum is limited. That an output sample ends the fades
that have run out, then moves the fades, then forms the sums, in this order, is the model's reading (log 6). R129, R130,
R132, R149, R159, R161, R176, R195, R197: one output sample takes one sample off every time that runs, a time that has run
out staying at 0 until its event is taken, and a debounce that runs out at the debounced level ending with no effect; the
edges that the clock monitor keeps grow older by one sample (counting time in samples is the model's choice, log 7, and the
ages of the edges are log 12's). -/
def Obligations.OutputSamplesAreFormed : Prop :=
  (∀ (s : State), s.held = false → ∃ t, exec .outputSample s = .next t ∧
     (∀ n j, (t.crosspoints.get n).get j =
       (((s.crosspoints.get n).get j).endFade (s.settings.fadeLength j)).advance) ∧
     (∀ n j, ((s.crosspoints.get n).get j).phase = .silent ∨ (∃ l, ((s.crosspoints.get n).get j).phase = .steady l) →
       (t.crosspoints.get n).get j = (s.crosspoints.get n).get j) ∧
     (let exact (j : Zone) : Int :=
         ((List.finRange 16).map fun n => (((t.crosspoints.get n).get j).taps.map fun tap =>
           (s.delay.tap (s.settings.channels.get n) n tap.1).toInt * (gainUnits tap.2 : Int)).sum).sum
       let rounded (j : Zone) : Int := if 0 ≤ exact j then (2 * exact j + 16777216) / 33554432
         else -((-2 * exact j + 16777216) / 33554432)
       let limited (j : Zone) : Prop := rounded j < -8388608 ∨ 8388607 < rounded j
       (∀ j, (s.zones.get j).taken = false → (t.feeds.get j).toInt = max (-8388608) (min 8388607 (rounded j))) ∧
       ((∃ j, limited j) →
         ∀ q, (t.events.get q).sticky = (s.events.get q).sticky ||| EventKind.zoneClipped.mask) ∧
       ((∀ j, ¬limited j) → ∀ q, (t.events.get q).sticky = (s.events.get q).sticky)) ∧
     (∀ j, (s.zones.get j).taken = true → (t.feeds.get j).toInt =
       roundAway (s.announcement.toInt * (gainUnits (s.settings.system.overrideAttenuation : Nat) : Int)) 16777216) ∧
     t.gates = s.gates ∧ t.groups = s.groups ∧ t.engine = s.engine ∧ t.zones = s.zones ∧ t.settings = s.settings ∧
     t.delay = s.delay ∧ t.frozen = s.frozen ∧ t.standby = s.standby ∧ t.announcement = s.announcement) ∧
  (∀ (s : State), s.held = false → ∃ t, exec .outputSample s = .next t ∧
     (∀ n k, (s.sockets.get n).phase = .sensing k → (t.sockets.get n).phase = .sensing (k - 1)) ∧
     (∀ n k, (s.sockets.get n).phase = .ramping k → (t.sockets.get n).phase = .ramping (k - 1)) ∧
     (∀ n k, (s.sockets.get n).debounce = some (k + 2) → (t.sockets.get n).debounce = some (k + 1)) ∧
     (∀ n, (s.sockets.get n).debounce = some 1 → (t.sockets.get n).debounce =
       if (s.sockets.get n).raw = (s.sockets.get n).presence then none else some 0) ∧
     (∀ n, (t.sockets.get n).presence = (s.sockets.get n).presence ∧ (t.sockets.get n).raw = (s.sockets.get n).raw ∧
       (t.sockets.get n).wish = (s.sockets.get n).wish) ∧
     (∀ k, s.override.debounce = some (k + 2) → t.override.debounce = some (k + 1)) ∧
     t.override.state = s.override.state ∧ t.override.debounced = s.override.debounced ∧
     (∀ i k, (s.contacts.get i).debounce = some (k + 2) → (t.contacts.get i).debounce = some (k + 1)) ∧
     (∀ i, (t.contacts.get i).debounced = (s.contacts.get i).debounced) ∧
     t.clock = { s.clock with
       gap := s.clock.gap.map (· - 1)
       run := s.clock.run.map (· - 1)
       edges := s.clock.edges.map fun e => ⟨e.period, e.age + 1⟩ } ∧
     ∀ p, (∀ frame k, s.ports.get p = .receiving frame k → t.ports.get p = .receiving frame (k - 1)) ∧
       ((∀ frame k, s.ports.get p ≠ .receiving frame k) → t.ports.get p = s.ports.get p) ∧
       ∀ k, (s.events.get p).pulse = some (k + 1) →
         (t.events.get p).pulse = some k ∨ (t.events.get p).pulse = some 47)

/-! ### Arithmetic -/

/-- R21, R23, R25, R27, R28, R33: the integer square root, the distance as that of the sum of the squared differences, the
largest distance, the speed of sound, rounding halves away from zero, the clamping of a delay, the guard and the limit of a
level. R19, R20, R23, R25, R27, R28, R29, R31: the result of a full computation, with and without a current station, and
guarded. -/
def Obligations.ComputationOfAResult : Prop :=
  ((∀ m, m < 2 ^ 34 → isqrt m ^ 2 ≤ m ∧ m < (isqrt m + 1) ^ 2) ∧
   (∀ p q : Point,
     let gap (a b : BitVec 16) : Nat := ((a.toNat : Int) - b.toNat).natAbs
     let sum := gap p.x q.x ^ 2 + gap p.y q.y ^ 2 + gap p.z q.z ^ 2
     distance p q = isqrt sum ∧ distance p q ^ 2 ≤ sum ∧ sum < (distance p q + 1) ^ 2 ∧ sum ≤ 12884508675 ∧
     distance p q = distance q p ∧ distance p p = 0 ∧ distance p q ≤ 113509) ∧
   distance ⟨0, 0, 0⟩ ⟨65535, 65535, 65535⟩ = 113509 ∧
   (∀ t : Int, -100 ≤ t → t ≤ 400 → 325240 ≤ speedOfSound t ∧ speedOfSound t ≤ 355540 ∧
     10 * (speedOfSound t - 331300) ≤ 606 * t ∧ 606 * t < 10 * (speedOfSound t - 331300) + 10) ∧
   (∀ (num : Int) (den : Nat), 0 < den → 2 * |num - roundAway num den * den| ≤ den ∧
     (2 * |num - roundAway num den * den| = den → |num| ≤ |roundAway num den * den|)) ∧
   (∀ (d : Int) (w : Nat), (clampDelay d w).delay = (max 0 (min d ((w : Int) - 1))).toNat ∧
     ((clampDelay d w).low = true ↔ d < 0) ∧
     ((clampDelay d w).high = true ↔ 0 ≤ d ∧ ((w : Int) ≤ d ∧ (0 < w ∨ 0 < d)))) ∧
   (∀ (z : ZoneRec) (d : Nat), guardedAt z d = true ↔ z.guardRadius ≠ 0 ∧ d < z.guardRadius) ∧
   ∀ trim master proximity count, composeLevel trim master proximity count ≤ 160) ∧
  (∀ (c : ChannelInputs) (z : ZoneRec) (t : Int),
     (c.station = none → fullResult c z t = ⟨none, none, 0, false, false, false⟩) ∧
     ∀ p, c.station = some p →
       let dsl := distance p z.listening
       let d : Int := roundAway (((dsl : Int) - distance z.speaker z.listening) * 480000)
         (606 * t / 10 + 331300).toNat + z.precedence
       let clamped := clampDelay d c.window
       (z.guardRadius ≠ 0 ∧ distance z.speaker p < z.guardRadius →
         fullResult c z t = ⟨some clamped.delay, none, 0, clamped.low, clamped.high, true⟩) ∧
       (z.guardRadius = 0 ∨ z.guardRadius ≤ distance z.speaker p →
         let near := if z.nearRadius ≠ 0 ∧ dsl < z.nearRadius then proximityTable.getD (64 * dsl / z.nearRadius) 0 else 0
         fullResult c z t = ⟨some clamped.delay, some (min 160 (z.trim + c.master + near + nom c.openCount)), near,
           clamped.low, clamped.high, false⟩))

/-- R30, R32: the two fixed tables are the logarithms they are said to be, rounded to the nearest step with halves up, the
proximity table limited to 48. -/
def Obligations.FixedTables : Prop :=
  proximityTable.length = 64 ∧
  (∀ i : Fin 64, (proximityTable.getD i.val 0 : Int) =
    min 48 ⌊40 * Real.logb 10 (64 / ((i.val : ℝ) + 1)) + 1 / 2⌋) ∧
  (∀ i j, i ≤ j → j < 64 → proximityTable.getD j 0 ≤ proximityTable.getD i 0) ∧
  nom 0 = 0 ∧ ∀ n : Nat, 1 ≤ n → n ≤ 8 → (nom n : Int) = ⌊20 * Real.logb 10 (n : ℝ) + 1 / 2⌋

/-- R34: the gain of an attenuation of 0 to 160 steps, whole or fractional, is 10 to the power −a/40 to the nearest multiple
of 1/16,777,216, halves up. -/
def Obligations.GainsAreNearest : Prop :=
  ∀ a : Rat, 0 ≤ a → a ≤ 160 →
    (gainUnits a : ℝ) - 1 / 2 ≤ 16777216 * (10 : ℝ) ^ (-((a : Rat) : ℝ) / 40) ∧
    16777216 * (10 : ℝ) ^ (-((a : Rat) : ℝ) / 40) < (gainUnits a : ℝ) + 1 / 2

/-- R82: the measurement of a block is −20·log10 of its mean square, to the nearest step with halves to the larger number,
limited to 240; a silent block measures 240 and a block of constant full scale 0. -/
def Obligations.MeasurementsAreNearest : Prop :=
  measurementOf 0 = 240 ∧ measurementOf (480 * 8388608 ^ 2) = 0 ∧
  ∀ sum, 0 < sum → sum ≤ 480 * 8388608 ^ 2 →
    (measurementOf sum : Int) =
      min 240 ⌊-20 * Real.logb 10 ((sum : ℝ) / (480 * 8388608 ^ 2)) + 1 / 2⌋

/-! ### Laws that every step keeps -/

/-- R11 with R9, R10, R12: the windows stay apart and within the array, and every write position within its window. That
delay memory keeps its canonical form, a list that names no silent cell, is the model's (log 27). -/
def Obligations.EveryStepKeepsTheWindowsApart : Prop :=
  ∀ s t : State, DelayLaw s → step s = .next t → DelayLaw t

/-- R44: the retune queue never holds an item twice, holds nothing beside ALL, and never more than 22 items. -/
def Obligations.EveryStepKeepsTheQueueLaw : Prop :=
  (∀ s t : State, QueueLaw s → step s = .next t → QueueLaw t) ∧ ∀ s : State, QueueLaw s → s.engine.queue.length ≤ 22

/-- R57 with R38: both temperatures lie within −100 to 400 tenths, and while no ALL is queued they differ by less than 5; the
temperature in use takes a new value only at the start of an ALL item, by copying the reported temperature, and at a power-on
reset, which leaves both at 150; a runtime reset keeps both. A queued ALL stays queued until it starts, and an ALL in flight
completes or is ended by a reset, which queues ALL. -/
def Obligations.EveryStepKeepsTheTemperaturesTogether : Prop :=
  (∀ s t : State, TemperatureLaw s → step s = .next t → TemperatureLaw t) ∧
  (∀ s t : State, step s = .next t → t.engine.inUse = s.engine.inUse ∨
    (t.engine.inUse = s.engine.reported ∧ ∃ inputs zones, t.engine.flight = some (.all inputs zones t.engine.inUse)) ∨
    ((∃ rest, s.pending = .powerOnReset :: rest) ∧ t.engine.inUse = 150 ∧ t.engine.reported = 150)) ∧
  (∀ s t : State, exec .powerOnReset s = .next t → t.engine.inUse = 150 ∧ t.engine.reported = 150) ∧
  (∀ (s t : State) (p : Port), exec (.runtimeReset p) s = .next t →
    t.engine.inUse = s.engine.inUse ∧ t.engine.reported = s.engine.reported) ∧
  ∀ s t : State, step s = .next t →
    (Item.all ∈ s.engine.queue →
      Item.all ∈ t.engine.queue ∨ ∃ inputs zones temp, t.engine.flight = some (.all inputs zones temp)) ∧
    ∀ inputs zones temp, s.engine.flight = some (.all inputs zones temp) →
      t.engine.flight = s.engine.flight ∨ Item.all ∈ t.engine.queue ∨ ∃ rest, s.pending = .allItemComplete :: rest

/-- R61, R63, R71, R75: every level lies within 0 to 160 or is off, every crosspoint's state agrees with its target, every
target is the computed level of a live crosspoint and off otherwise, and every crosspoint of a zone taken over is SILENT. -/
def Obligations.EveryStepKeepsTheCrosspointLaws : Prop :=
  ∀ s t : State, ArrayLaw s → step s = .next t → ArrayLaw t

/-- R70: no sounding crosspoint reads at or beyond its channel's window. -/
def Obligations.EveryStepKeepsTapsWithinWindows : Prop :=
  ∀ s t : State, TapLaw s → GroupLaw s → ArrayLaw s → SettingsLaw s → step s = .next t → TapLaw t

/-- R86 to R90, R93, R95, R110, R112, R115, R116: what the gates and the open sets keep together, the laws of R115 (a
forced-wait list holds exactly the CLOSED channels in FORCE_OPEN, and is empty unless the set is full of FORCED members), of
R116 (a LAST_ON member is alone) and of R87 (no eligible ALIGNED channel is PARKED) among it. R85, R134: a channel is
eligible exactly where its six conditions hold. -/
def Obligations.EveryStepKeepsTheOpenSetLaws : Prop :=
  (∀ s t : State, GroupLaw s → SettingsLaw s → step s = .next t → GroupLaw t) ∧
  ∀ (s : State) (n : Channel), s.eligible n = true ↔
    (∃ g, (s.settings.channelGroups.get s.settings.active).get n = some g ∧
      ((s.settings.groups.get s.settings.active).get g).enabled = true) ∧
    (∃ k, (s.gates.get n).station = some k) ∧ (s.settings.channels.get n).length ≠ 0 ∧
    SocketReady (s.sockets.get n).phase ∧ s.standby = false

/-- R149 to R153: the debounced line is asserted exactly while the monitor is ACTIVE, zones are taken over only then, and
OVERRIDE_LATCH stands only outside IDLE. R92, R146, R198: every effective mode is the one that the active contacts and the
port-set mode give, and a zone holds CONTACT_MUTE exactly while an active contact binds it. -/
def Obligations.EveryStepKeepsTheOverrideLaw : Prop :=
  (∀ s t : State, OverrideLaw s → step s = .next t → OverrideLaw t) ∧
  (∀ s t : State, ContactLaw s → step s = .next t → ContactLaw t)

/-- R140, R146, R165: in standby every zone holds STANDBY, every channel is PARKED, every set is empty and no socket carries
phantom. -/
def Obligations.EveryStepKeepsTheStandbyLaw : Prop :=
  ∀ s t : State, StandbyLaw s → GroupLaw s → SettingsLaw s → step s = .next t → StandbyLaw t

/-- R4, R72, R84, R102, R154, R189, R193, R196: every retained field stays in its range, and no sticky set or routing mask
holds a bit that stands for no kind. R173, R175: a partial frame is never whole, and a response's body fits and is empty but
with OK. -/
def Obligations.EveryStepKeepsFieldsInRange : Prop :=
  (∀ s t : State, step s = .next t → (SettingsLaw s → SettingsLaw t) ∧ (EventLaw s → EventLaw t)) ∧
  (∀ s t : State, PortLaw s → step s = .next t → PortLaw t)

/-- R16: once set, the geometry freeze stays set and the surveyed fields keep their values until a power-on reset, which
clears it. -/
def Obligations.FrozenGeometryStays : Prop :=
  (∀ (s t : State) (c : Instr) (rest : List Instr), s.pending = c :: rest → c ≠ .powerOnReset → s.frozen = true →
    step s = .next t → t.frozen = true ∧ t.settings.stations = s.settings.stations ∧
      (∀ j, (t.settings.zones.get j).speaker = (s.settings.zones.get j).speaker ∧
        (t.settings.zones.get j).listening = (s.settings.zones.get j).listening ∧
        (t.settings.zones.get j).precedence = (s.settings.zones.get j).precedence ∧
        (t.settings.zones.get j).nearRadius = (s.settings.zones.get j).nearRadius ∧
        (t.settings.zones.get j).guardRadius = (s.settings.zones.get j).guardRadius) ∧
      ∀ n, (t.settings.channels.get n).start = (s.settings.channels.get n).start ∧
        (t.settings.channels.get n).length = (s.settings.channels.get n).length) ∧
  (∀ s t : State, exec .powerOnReset s = .next t → t.frozen = false)

/-- R185: the retained settings change by accepted WRITE_ENTRY requests and by arrangement switches, through a request or a
contact, and by nothing else; neither reset changes them. -/
def Obligations.SettingsAreRetained : Prop :=
  ∀ (c : Instr) (s t : State), exec c s = .next t → t.settings = s.settings ∨
    (∃ k, t.settings = { s.settings with active := k } ∧
      ((∃ p body, c = .selectArrangement p body) ∨ ∃ k, c = .contactChange k)) ∨
    (t.settings.active = s.settings.active ∧ ∃ p index entry,
      c = .writeEntryStation p index entry ∨ c = .writeEntryZone p index entry ∨ c = .writeEntryChannel p index entry ∨
      c = .writeEntryGroup p index entry ∨ c = .writeEntryMembership p index entry ∨
      c = .writeEntryProfile p index entry ∨ c = .writeEntryContactIn p index entry ∨
      c = .writeEntryContactOut p index entry ∨ c = .writeEntryPortRouting p index entry ∨
      c = .writeEntrySystem p index entry)

/-- R122, R123, R125: a group's holder changes by HOLD_GROUP, RELEASE_GROUP and BREAK_HOLD and by the resets, and by nothing
else; from none it becomes the requesting port. -/
def Obligations.HoldersChangeByHoldsAlone : Prop :=
  ∀ (c : Instr) (s t : State) (g : Group), exec c s = .next t → (t.groups.get g).holder = (s.groups.get g).holder ∨
    (∃ p body, c = .holdGroup p body ∧ (s.groups.get g).holder = none ∧ (t.groups.get g).holder = some p) ∨
    (∃ p body, c = .releaseGroup p body ∧ (s.groups.get g).holder = some p ∧ (t.groups.get g).holder = none) ∨
    (∃ p body, c = .breakHold p body ∧ (t.groups.get g).holder = none) ∨
    ((t.groups.get g).holder = none ∧ (c = .powerOnReset ∨ (∃ p, c = .runtimeReset p) ∨ ∃ p, c = .responseEnd p))
end

