-- ==== Sys2Proof/Laws/State.lean ====
section
/-! SUPPORT. One lemma per field of State per named update, each true by `rfl`: no later proof unfolds a record update. -/

namespace Sys2Proof.Machine

variable (s : State)


@[simp] theorem State.setPending_pending (q : List Instr) : (s.setPending q).pending = q := rfl
@[simp] theorem State.setPending_held (q : List Instr) : (s.setPending q).held = s.held := rfl
@[simp] theorem State.setPending_settings (q : List Instr) : (s.setPending q).settings = s.settings := rfl
@[simp] theorem State.setPending_frozen (q : List Instr) : (s.setPending q).frozen = s.frozen := rfl
@[simp] theorem State.setPending_delay (q : List Instr) : (s.setPending q).delay = s.delay := rfl
@[simp] theorem State.setPending_engine (q : List Instr) : (s.setPending q).engine = s.engine := rfl
@[simp] theorem State.setPending_crosspoints (q : List Instr) : (s.setPending q).crosspoints = s.crosspoints := rfl
@[simp] theorem State.setPending_gates (q : List Instr) : (s.setPending q).gates = s.gates := rfl
@[simp] theorem State.setPending_groups (q : List Instr) : (s.setPending q).groups = s.groups := rfl
@[simp] theorem State.setPending_sockets (q : List Instr) : (s.setPending q).sockets = s.sockets := rfl
@[simp] theorem State.setPending_zones (q : List Instr) : (s.setPending q).zones = s.zones := rfl
@[simp] theorem State.setPending_override (q : List Instr) : (s.setPending q).override = s.override := rfl
@[simp] theorem State.setPending_clock (q : List Instr) : (s.setPending q).clock = s.clock := rfl
@[simp] theorem State.setPending_standby (q : List Instr) : (s.setPending q).standby = s.standby := rfl
@[simp] theorem State.setPending_ports (q : List Instr) : (s.setPending q).ports = s.ports := rfl
@[simp] theorem State.setPending_events (q : List Instr) : (s.setPending q).events = s.events := rfl
@[simp] theorem State.setPending_contacts (q : List Instr) : (s.setPending q).contacts = s.contacts := rfl
@[simp] theorem State.setPending_announcement (q : List Instr) : (s.setPending q).announcement = s.announcement := rfl
@[simp] theorem State.setPending_feeds (q : List Instr) : (s.setPending q).feeds = s.feeds := rfl

@[simp] theorem State.setPort_pending (p : Port) (h : Handler) : (s.setPort p h).pending = s.pending := rfl
@[simp] theorem State.setPort_held (p : Port) (h : Handler) : (s.setPort p h).held = s.held := rfl
@[simp] theorem State.setPort_settings (p : Port) (h : Handler) : (s.setPort p h).settings = s.settings := rfl
@[simp] theorem State.setPort_frozen (p : Port) (h : Handler) : (s.setPort p h).frozen = s.frozen := rfl
@[simp] theorem State.setPort_delay (p : Port) (h : Handler) : (s.setPort p h).delay = s.delay := rfl
@[simp] theorem State.setPort_engine (p : Port) (h : Handler) : (s.setPort p h).engine = s.engine := rfl
@[simp] theorem State.setPort_crosspoints (p : Port) (h : Handler) : (s.setPort p h).crosspoints = s.crosspoints := rfl
@[simp] theorem State.setPort_gates (p : Port) (h : Handler) : (s.setPort p h).gates = s.gates := rfl
@[simp] theorem State.setPort_groups (p : Port) (h : Handler) : (s.setPort p h).groups = s.groups := rfl
@[simp] theorem State.setPort_sockets (p : Port) (h : Handler) : (s.setPort p h).sockets = s.sockets := rfl
@[simp] theorem State.setPort_zones (p : Port) (h : Handler) : (s.setPort p h).zones = s.zones := rfl
@[simp] theorem State.setPort_override (p : Port) (h : Handler) : (s.setPort p h).override = s.override := rfl
@[simp] theorem State.setPort_clock (p : Port) (h : Handler) : (s.setPort p h).clock = s.clock := rfl
@[simp] theorem State.setPort_standby (p : Port) (h : Handler) : (s.setPort p h).standby = s.standby := rfl
@[simp] theorem State.setPort_ports (p : Port) (h : Handler) : (s.setPort p h).ports = s.ports.set p h := rfl
@[simp] theorem State.setPort_events (p : Port) (h : Handler) : (s.setPort p h).events = s.events := rfl
@[simp] theorem State.setPort_contacts (p : Port) (h : Handler) : (s.setPort p h).contacts = s.contacts := rfl
@[simp] theorem State.setPort_announcement (p : Port) (h : Handler) :
    (s.setPort p h).announcement =
      s.announcement := rfl
@[simp] theorem State.setPort_feeds (p : Port) (h : Handler) : (s.setPort p h).feeds = s.feeds := rfl

@[simp] theorem State.onSettings_pending (f : Settings → Settings) : (s.onSettings f).pending = s.pending := rfl
@[simp] theorem State.onSettings_held (f : Settings → Settings) : (s.onSettings f).held = s.held := rfl
@[simp] theorem State.onSettings_settings (f : Settings → Settings) : (s.onSettings f).settings = f s.settings := rfl
@[simp] theorem State.onSettings_frozen (f : Settings → Settings) : (s.onSettings f).frozen = s.frozen := rfl
@[simp] theorem State.onSettings_delay (f : Settings → Settings) : (s.onSettings f).delay = s.delay := rfl
@[simp] theorem State.onSettings_engine (f : Settings → Settings) : (s.onSettings f).engine = s.engine := rfl
@[simp] theorem State.onSettings_crosspoints (f : Settings → Settings) :
    (s.onSettings f).crosspoints =
      s.crosspoints := rfl
@[simp] theorem State.onSettings_gates (f : Settings → Settings) : (s.onSettings f).gates = s.gates := rfl
@[simp] theorem State.onSettings_groups (f : Settings → Settings) : (s.onSettings f).groups = s.groups := rfl
@[simp] theorem State.onSettings_sockets (f : Settings → Settings) : (s.onSettings f).sockets = s.sockets := rfl
@[simp] theorem State.onSettings_zones (f : Settings → Settings) : (s.onSettings f).zones = s.zones := rfl
@[simp] theorem State.onSettings_override (f : Settings → Settings) : (s.onSettings f).override = s.override := rfl
@[simp] theorem State.onSettings_clock (f : Settings → Settings) : (s.onSettings f).clock = s.clock := rfl
@[simp] theorem State.onSettings_standby (f : Settings → Settings) : (s.onSettings f).standby = s.standby := rfl
@[simp] theorem State.onSettings_ports (f : Settings → Settings) : (s.onSettings f).ports = s.ports := rfl
@[simp] theorem State.onSettings_events (f : Settings → Settings) : (s.onSettings f).events = s.events := rfl
@[simp] theorem State.onSettings_contacts (f : Settings → Settings) : (s.onSettings f).contacts = s.contacts := rfl
@[simp] theorem State.onSettings_announcement (f : Settings → Settings) :
    (s.onSettings f).announcement =
      s.announcement := rfl
@[simp] theorem State.onSettings_feeds (f : Settings → Settings) : (s.onSettings f).feeds = s.feeds := rfl

@[simp] theorem State.onZones_pending (f : Zone → ZoneState → ZoneState) : (s.onZones f).pending = s.pending := rfl
@[simp] theorem State.onZones_held (f : Zone → ZoneState → ZoneState) : (s.onZones f).held = s.held := rfl
@[simp] theorem State.onZones_settings (f : Zone → ZoneState → ZoneState) : (s.onZones f).settings = s.settings := rfl
@[simp] theorem State.onZones_frozen (f : Zone → ZoneState → ZoneState) : (s.onZones f).frozen = s.frozen := rfl
@[simp] theorem State.onZones_delay (f : Zone → ZoneState → ZoneState) : (s.onZones f).delay = s.delay := rfl
@[simp] theorem State.onZones_engine (f : Zone → ZoneState → ZoneState) : (s.onZones f).engine = s.engine := rfl
@[simp] theorem State.onZones_crosspoints (f : Zone → ZoneState → ZoneState) :
    (s.onZones f).crosspoints =
      s.crosspoints := rfl
@[simp] theorem State.onZones_gates (f : Zone → ZoneState → ZoneState) : (s.onZones f).gates = s.gates := rfl
@[simp] theorem State.onZones_groups (f : Zone → ZoneState → ZoneState) : (s.onZones f).groups = s.groups := rfl
@[simp] theorem State.onZones_sockets (f : Zone → ZoneState → ZoneState) : (s.onZones f).sockets = s.sockets := rfl
@[simp] theorem State.onZones_zones (f : Zone → ZoneState → ZoneState) : (s.onZones f).zones = s.zones.map f := rfl
@[simp] theorem State.onZones_override (f : Zone → ZoneState → ZoneState) : (s.onZones f).override = s.override := rfl
@[simp] theorem State.onZones_clock (f : Zone → ZoneState → ZoneState) : (s.onZones f).clock = s.clock := rfl
@[simp] theorem State.onZones_standby (f : Zone → ZoneState → ZoneState) : (s.onZones f).standby = s.standby := rfl
@[simp] theorem State.onZones_ports (f : Zone → ZoneState → ZoneState) : (s.onZones f).ports = s.ports := rfl
@[simp] theorem State.onZones_events (f : Zone → ZoneState → ZoneState) : (s.onZones f).events = s.events := rfl
@[simp] theorem State.onZones_contacts (f : Zone → ZoneState → ZoneState) : (s.onZones f).contacts = s.contacts := rfl
@[simp] theorem State.onZones_announcement (f : Zone → ZoneState → ZoneState) :
    (s.onZones f).announcement =
      s.announcement := rfl
@[simp] theorem State.onZones_feeds (f : Zone → ZoneState → ZoneState) : (s.onZones f).feeds = s.feeds := rfl

@[simp] theorem State.onZone_pending (j : Zone) (f : ZoneState → ZoneState) : (s.onZone j f).pending = s.pending := rfl
@[simp] theorem State.onZone_held (j : Zone) (f : ZoneState → ZoneState) : (s.onZone j f).held = s.held := rfl
@[simp] theorem State.onZone_settings (j : Zone) (f : ZoneState → ZoneState) :
    (s.onZone j f).settings =
      s.settings := rfl
@[simp] theorem State.onZone_frozen (j : Zone) (f : ZoneState → ZoneState) : (s.onZone j f).frozen = s.frozen := rfl
@[simp] theorem State.onZone_delay (j : Zone) (f : ZoneState → ZoneState) : (s.onZone j f).delay = s.delay := rfl
@[simp] theorem State.onZone_engine (j : Zone) (f : ZoneState → ZoneState) : (s.onZone j f).engine = s.engine := rfl
@[simp] theorem State.onZone_crosspoints (j : Zone) (f : ZoneState → ZoneState) :
    (s.onZone j f).crosspoints =
      s.crosspoints := rfl
@[simp] theorem State.onZone_gates (j : Zone) (f : ZoneState → ZoneState) : (s.onZone j f).gates = s.gates := rfl
@[simp] theorem State.onZone_groups (j : Zone) (f : ZoneState → ZoneState) : (s.onZone j f).groups = s.groups := rfl
@[simp] theorem State.onZone_sockets (j : Zone) (f : ZoneState → ZoneState) : (s.onZone j f).sockets = s.sockets := rfl
@[simp] theorem State.onZone_zones (j : Zone) (f : ZoneState → ZoneState) :
    (s.onZone j f).zones =
      s.zones.modify j f := rfl
@[simp] theorem State.onZone_override (j : Zone) (f : ZoneState → ZoneState) :
    (s.onZone j f).override =
      s.override := rfl
@[simp] theorem State.onZone_clock (j : Zone) (f : ZoneState → ZoneState) : (s.onZone j f).clock = s.clock := rfl
@[simp] theorem State.onZone_standby (j : Zone) (f : ZoneState → ZoneState) : (s.onZone j f).standby = s.standby := rfl
@[simp] theorem State.onZone_ports (j : Zone) (f : ZoneState → ZoneState) : (s.onZone j f).ports = s.ports := rfl
@[simp] theorem State.onZone_events (j : Zone) (f : ZoneState → ZoneState) : (s.onZone j f).events = s.events := rfl
@[simp] theorem State.onZone_contacts (j : Zone) (f : ZoneState → ZoneState) :
    (s.onZone j f).contacts =
      s.contacts := rfl
@[simp] theorem State.onZone_announcement (j : Zone) (f : ZoneState → ZoneState) :
    (s.onZone j f).announcement =
      s.announcement := rfl
@[simp] theorem State.onZone_feeds (j : Zone) (f : ZoneState → ZoneState) : (s.onZone j f).feeds = s.feeds := rfl

@[simp] theorem State.onSocket_pending (n : Channel) (f : Socket → Socket) : (s.onSocket n f).pending = s.pending := rfl
@[simp] theorem State.onSocket_held (n : Channel) (f : Socket → Socket) : (s.onSocket n f).held = s.held := rfl
@[simp] theorem State.onSocket_settings (n : Channel) (f : Socket → Socket) :
    (s.onSocket n f).settings =
      s.settings := rfl
@[simp] theorem State.onSocket_frozen (n : Channel) (f : Socket → Socket) : (s.onSocket n f).frozen = s.frozen := rfl
@[simp] theorem State.onSocket_delay (n : Channel) (f : Socket → Socket) : (s.onSocket n f).delay = s.delay := rfl
@[simp] theorem State.onSocket_engine (n : Channel) (f : Socket → Socket) : (s.onSocket n f).engine = s.engine := rfl
@[simp] theorem State.onSocket_crosspoints (n : Channel) (f : Socket → Socket) :
    (s.onSocket n f).crosspoints =
      s.crosspoints := rfl
@[simp] theorem State.onSocket_gates (n : Channel) (f : Socket → Socket) : (s.onSocket n f).gates = s.gates := rfl
@[simp] theorem State.onSocket_groups (n : Channel) (f : Socket → Socket) : (s.onSocket n f).groups = s.groups := rfl
@[simp] theorem State.onSocket_sockets (n : Channel) (f : Socket → Socket) :
    (s.onSocket n f).sockets =
      s.sockets.modify n f := rfl
@[simp] theorem State.onSocket_zones (n : Channel) (f : Socket → Socket) : (s.onSocket n f).zones = s.zones := rfl
@[simp] theorem State.onSocket_override (n : Channel) (f : Socket → Socket) :
    (s.onSocket n f).override =
      s.override := rfl
@[simp] theorem State.onSocket_clock (n : Channel) (f : Socket → Socket) : (s.onSocket n f).clock = s.clock := rfl
@[simp] theorem State.onSocket_standby (n : Channel) (f : Socket → Socket) : (s.onSocket n f).standby = s.standby := rfl
@[simp] theorem State.onSocket_ports (n : Channel) (f : Socket → Socket) : (s.onSocket n f).ports = s.ports := rfl
@[simp] theorem State.onSocket_events (n : Channel) (f : Socket → Socket) : (s.onSocket n f).events = s.events := rfl
@[simp] theorem State.onSocket_contacts (n : Channel) (f : Socket → Socket) :
    (s.onSocket n f).contacts =
      s.contacts := rfl
@[simp] theorem State.onSocket_announcement (n : Channel) (f : Socket → Socket) :
    (s.onSocket n f).announcement =
      s.announcement := rfl
@[simp] theorem State.onSocket_feeds (n : Channel) (f : Socket → Socket) : (s.onSocket n f).feeds = s.feeds := rfl

@[simp] theorem State.onSockets_pending (f : Channel → Socket → Socket) : (s.onSockets f).pending = s.pending := rfl
@[simp] theorem State.onSockets_held (f : Channel → Socket → Socket) : (s.onSockets f).held = s.held := rfl
@[simp] theorem State.onSockets_settings (f : Channel → Socket → Socket) : (s.onSockets f).settings = s.settings := rfl
@[simp] theorem State.onSockets_frozen (f : Channel → Socket → Socket) : (s.onSockets f).frozen = s.frozen := rfl
@[simp] theorem State.onSockets_delay (f : Channel → Socket → Socket) : (s.onSockets f).delay = s.delay := rfl
@[simp] theorem State.onSockets_engine (f : Channel → Socket → Socket) : (s.onSockets f).engine = s.engine := rfl
@[simp] theorem State.onSockets_crosspoints (f : Channel → Socket → Socket) :
    (s.onSockets f).crosspoints =
      s.crosspoints := rfl
@[simp] theorem State.onSockets_gates (f : Channel → Socket → Socket) : (s.onSockets f).gates = s.gates := rfl
@[simp] theorem State.onSockets_groups (f : Channel → Socket → Socket) : (s.onSockets f).groups = s.groups := rfl
@[simp] theorem State.onSockets_sockets (f : Channel → Socket → Socket) :
    (s.onSockets f).sockets =
      s.sockets.map f := rfl
@[simp] theorem State.onSockets_zones (f : Channel → Socket → Socket) : (s.onSockets f).zones = s.zones := rfl
@[simp] theorem State.onSockets_override (f : Channel → Socket → Socket) : (s.onSockets f).override = s.override := rfl
@[simp] theorem State.onSockets_clock (f : Channel → Socket → Socket) : (s.onSockets f).clock = s.clock := rfl
@[simp] theorem State.onSockets_standby (f : Channel → Socket → Socket) : (s.onSockets f).standby = s.standby := rfl
@[simp] theorem State.onSockets_ports (f : Channel → Socket → Socket) : (s.onSockets f).ports = s.ports := rfl
@[simp] theorem State.onSockets_events (f : Channel → Socket → Socket) : (s.onSockets f).events = s.events := rfl
@[simp] theorem State.onSockets_contacts (f : Channel → Socket → Socket) : (s.onSockets f).contacts = s.contacts := rfl
@[simp] theorem State.onSockets_announcement (f : Channel → Socket → Socket) :
    (s.onSockets f).announcement =
      s.announcement := rfl
@[simp] theorem State.onSockets_feeds (f : Channel → Socket → Socket) : (s.onSockets f).feeds = s.feeds := rfl

@[simp] theorem State.setPhase_pending (n : Channel) (ph : SocketPhase) : (s.setPhase n ph).pending = s.pending := rfl
@[simp] theorem State.setPhase_held (n : Channel) (ph : SocketPhase) : (s.setPhase n ph).held = s.held := rfl
@[simp] theorem State.setPhase_settings (n : Channel) (ph : SocketPhase) :
    (s.setPhase n ph).settings =
      s.settings := rfl
@[simp] theorem State.setPhase_frozen (n : Channel) (ph : SocketPhase) : (s.setPhase n ph).frozen = s.frozen := rfl
@[simp] theorem State.setPhase_delay (n : Channel) (ph : SocketPhase) : (s.setPhase n ph).delay = s.delay := rfl
@[simp] theorem State.setPhase_engine (n : Channel) (ph : SocketPhase) : (s.setPhase n ph).engine = s.engine := rfl
@[simp] theorem State.setPhase_crosspoints (n : Channel) (ph : SocketPhase) :
    (s.setPhase n ph).crosspoints =
      s.crosspoints := rfl
@[simp] theorem State.setPhase_gates (n : Channel) (ph : SocketPhase) : (s.setPhase n ph).gates = s.gates := rfl
@[simp] theorem State.setPhase_groups (n : Channel) (ph : SocketPhase) : (s.setPhase n ph).groups = s.groups := rfl
@[simp] theorem State.setPhase_sockets (n : Channel) (ph : SocketPhase) :
    (s.setPhase n ph).sockets =
      s.sockets.modify n fun x => { x with phase := ph } := rfl
@[simp] theorem State.setPhase_zones (n : Channel) (ph : SocketPhase) : (s.setPhase n ph).zones = s.zones := rfl
@[simp] theorem State.setPhase_override (n : Channel) (ph : SocketPhase) :
    (s.setPhase n ph).override =
      s.override := rfl
@[simp] theorem State.setPhase_clock (n : Channel) (ph : SocketPhase) : (s.setPhase n ph).clock = s.clock := rfl
@[simp] theorem State.setPhase_standby (n : Channel) (ph : SocketPhase) : (s.setPhase n ph).standby = s.standby := rfl
@[simp] theorem State.setPhase_ports (n : Channel) (ph : SocketPhase) : (s.setPhase n ph).ports = s.ports := rfl
@[simp] theorem State.setPhase_events (n : Channel) (ph : SocketPhase) : (s.setPhase n ph).events = s.events := rfl
@[simp] theorem State.setPhase_contacts (n : Channel) (ph : SocketPhase) :
    (s.setPhase n ph).contacts =
      s.contacts := rfl
@[simp] theorem State.setPhase_announcement (n : Channel) (ph : SocketPhase) :
    (s.setPhase n ph).announcement =
      s.announcement := rfl
@[simp] theorem State.setPhase_feeds (n : Channel) (ph : SocketPhase) : (s.setPhase n ph).feeds = s.feeds := rfl

@[simp] theorem State.onClock_pending (f : Clock → Clock) : (s.onClock f).pending = s.pending := rfl
@[simp] theorem State.onClock_held (f : Clock → Clock) : (s.onClock f).held = s.held := rfl
@[simp] theorem State.onClock_settings (f : Clock → Clock) : (s.onClock f).settings = s.settings := rfl
@[simp] theorem State.onClock_frozen (f : Clock → Clock) : (s.onClock f).frozen = s.frozen := rfl
@[simp] theorem State.onClock_delay (f : Clock → Clock) : (s.onClock f).delay = s.delay := rfl
@[simp] theorem State.onClock_engine (f : Clock → Clock) : (s.onClock f).engine = s.engine := rfl
@[simp] theorem State.onClock_crosspoints (f : Clock → Clock) : (s.onClock f).crosspoints = s.crosspoints := rfl
@[simp] theorem State.onClock_gates (f : Clock → Clock) : (s.onClock f).gates = s.gates := rfl
@[simp] theorem State.onClock_groups (f : Clock → Clock) : (s.onClock f).groups = s.groups := rfl
@[simp] theorem State.onClock_sockets (f : Clock → Clock) : (s.onClock f).sockets = s.sockets := rfl
@[simp] theorem State.onClock_zones (f : Clock → Clock) : (s.onClock f).zones = s.zones := rfl
@[simp] theorem State.onClock_override (f : Clock → Clock) : (s.onClock f).override = s.override := rfl
@[simp] theorem State.onClock_clock (f : Clock → Clock) : (s.onClock f).clock = f s.clock := rfl
@[simp] theorem State.onClock_standby (f : Clock → Clock) : (s.onClock f).standby = s.standby := rfl
@[simp] theorem State.onClock_ports (f : Clock → Clock) : (s.onClock f).ports = s.ports := rfl
@[simp] theorem State.onClock_events (f : Clock → Clock) : (s.onClock f).events = s.events := rfl
@[simp] theorem State.onClock_contacts (f : Clock → Clock) : (s.onClock f).contacts = s.contacts := rfl
@[simp] theorem State.onClock_announcement (f : Clock → Clock) : (s.onClock f).announcement = s.announcement := rfl
@[simp] theorem State.onClock_feeds (f : Clock → Clock) : (s.onClock f).feeds = s.feeds := rfl

@[simp] theorem State.onOverride_pending (f : Override → Override) : (s.onOverride f).pending = s.pending := rfl
@[simp] theorem State.onOverride_held (f : Override → Override) : (s.onOverride f).held = s.held := rfl
@[simp] theorem State.onOverride_settings (f : Override → Override) : (s.onOverride f).settings = s.settings := rfl
@[simp] theorem State.onOverride_frozen (f : Override → Override) : (s.onOverride f).frozen = s.frozen := rfl
@[simp] theorem State.onOverride_delay (f : Override → Override) : (s.onOverride f).delay = s.delay := rfl
@[simp] theorem State.onOverride_engine (f : Override → Override) : (s.onOverride f).engine = s.engine := rfl
@[simp] theorem State.onOverride_crosspoints (f : Override → Override) :
    (s.onOverride f).crosspoints =
      s.crosspoints := rfl
@[simp] theorem State.onOverride_gates (f : Override → Override) : (s.onOverride f).gates = s.gates := rfl
@[simp] theorem State.onOverride_groups (f : Override → Override) : (s.onOverride f).groups = s.groups := rfl
@[simp] theorem State.onOverride_sockets (f : Override → Override) : (s.onOverride f).sockets = s.sockets := rfl
@[simp] theorem State.onOverride_zones (f : Override → Override) : (s.onOverride f).zones = s.zones := rfl
@[simp] theorem State.onOverride_override (f : Override → Override) : (s.onOverride f).override = f s.override := rfl
@[simp] theorem State.onOverride_clock (f : Override → Override) : (s.onOverride f).clock = s.clock := rfl
@[simp] theorem State.onOverride_standby (f : Override → Override) : (s.onOverride f).standby = s.standby := rfl
@[simp] theorem State.onOverride_ports (f : Override → Override) : (s.onOverride f).ports = s.ports := rfl
@[simp] theorem State.onOverride_events (f : Override → Override) : (s.onOverride f).events = s.events := rfl
@[simp] theorem State.onOverride_contacts (f : Override → Override) : (s.onOverride f).contacts = s.contacts := rfl
@[simp] theorem State.onOverride_announcement (f : Override → Override) :
    (s.onOverride f).announcement =
      s.announcement := rfl
@[simp] theorem State.onOverride_feeds (f : Override → Override) : (s.onOverride f).feeds = s.feeds := rfl

@[simp] theorem State.onContact_pending (k : ContactIn) (f : Contact → Contact) :
    (s.onContact k f).pending =
      s.pending := rfl
@[simp] theorem State.onContact_held (k : ContactIn) (f : Contact → Contact) : (s.onContact k f).held = s.held := rfl
@[simp] theorem State.onContact_settings (k : ContactIn) (f : Contact → Contact) :
    (s.onContact k f).settings =
      s.settings := rfl
@[simp] theorem State.onContact_frozen (k : ContactIn) (f : Contact → Contact) :
    (s.onContact k f).frozen =
      s.frozen := rfl
@[simp] theorem State.onContact_delay (k : ContactIn) (f : Contact → Contact) : (s.onContact k f).delay = s.delay := rfl
@[simp] theorem State.onContact_engine (k : ContactIn) (f : Contact → Contact) :
    (s.onContact k f).engine =
      s.engine := rfl
@[simp] theorem State.onContact_crosspoints (k : ContactIn) (f : Contact → Contact) :
    (s.onContact k f).crosspoints =
      s.crosspoints := rfl
@[simp] theorem State.onContact_gates (k : ContactIn) (f : Contact → Contact) : (s.onContact k f).gates = s.gates := rfl
@[simp] theorem State.onContact_groups (k : ContactIn) (f : Contact → Contact) :
    (s.onContact k f).groups =
      s.groups := rfl
@[simp] theorem State.onContact_sockets (k : ContactIn) (f : Contact → Contact) :
    (s.onContact k f).sockets =
      s.sockets := rfl
@[simp] theorem State.onContact_zones (k : ContactIn) (f : Contact → Contact) : (s.onContact k f).zones = s.zones := rfl
@[simp] theorem State.onContact_override (k : ContactIn) (f : Contact → Contact) :
    (s.onContact k f).override =
      s.override := rfl
@[simp] theorem State.onContact_clock (k : ContactIn) (f : Contact → Contact) : (s.onContact k f).clock = s.clock := rfl
@[simp] theorem State.onContact_standby (k : ContactIn) (f : Contact → Contact) :
    (s.onContact k f).standby =
      s.standby := rfl
@[simp] theorem State.onContact_ports (k : ContactIn) (f : Contact → Contact) : (s.onContact k f).ports = s.ports := rfl
@[simp] theorem State.onContact_events (k : ContactIn) (f : Contact → Contact) :
    (s.onContact k f).events =
      s.events := rfl
@[simp] theorem State.onContact_contacts (k : ContactIn) (f : Contact → Contact) :
    (s.onContact k f).contacts =
      s.contacts.modify k f := rfl
@[simp] theorem State.onContact_announcement (k : ContactIn) (f : Contact → Contact) :
    (s.onContact k f).announcement =
      s.announcement := rfl
@[simp] theorem State.onContact_feeds (k : ContactIn) (f : Contact → Contact) : (s.onContact k f).feeds = s.feeds := rfl

@[simp] theorem State.postMask_pending (m : EventMask) : (s.postMask m).pending = s.pending := rfl
@[simp] theorem State.postMask_held (m : EventMask) : (s.postMask m).held = s.held := rfl
@[simp] theorem State.postMask_settings (m : EventMask) : (s.postMask m).settings = s.settings := rfl
@[simp] theorem State.postMask_frozen (m : EventMask) : (s.postMask m).frozen = s.frozen := rfl
@[simp] theorem State.postMask_delay (m : EventMask) : (s.postMask m).delay = s.delay := rfl
@[simp] theorem State.postMask_engine (m : EventMask) : (s.postMask m).engine = s.engine := rfl
@[simp] theorem State.postMask_crosspoints (m : EventMask) : (s.postMask m).crosspoints = s.crosspoints := rfl
@[simp] theorem State.postMask_gates (m : EventMask) : (s.postMask m).gates = s.gates := rfl
@[simp] theorem State.postMask_groups (m : EventMask) : (s.postMask m).groups = s.groups := rfl
@[simp] theorem State.postMask_sockets (m : EventMask) : (s.postMask m).sockets = s.sockets := rfl
@[simp] theorem State.postMask_zones (m : EventMask) : (s.postMask m).zones = s.zones := rfl
@[simp] theorem State.postMask_override (m : EventMask) : (s.postMask m).override = s.override := rfl
@[simp] theorem State.postMask_clock (m : EventMask) : (s.postMask m).clock = s.clock := rfl
@[simp] theorem State.postMask_standby (m : EventMask) : (s.postMask m).standby = s.standby := rfl
@[simp] theorem State.postMask_ports (m : EventMask) : (s.postMask m).ports = s.ports := rfl
@[simp] theorem State.postMask_events (m : EventMask) :
    (s.postMask m).events =
      s.events.map fun p e => e.add (s.settings.routing.get p) m := rfl
@[simp] theorem State.postMask_contacts (m : EventMask) : (s.postMask m).contacts = s.contacts := rfl
@[simp] theorem State.postMask_announcement (m : EventMask) : (s.postMask m).announcement = s.announcement := rfl
@[simp] theorem State.postMask_feeds (m : EventMask) : (s.postMask m).feeds = s.feeds := rfl

@[simp] theorem State.post_pending (k : EventKind) : (s.post k).pending = s.pending := rfl
@[simp] theorem State.post_held (k : EventKind) : (s.post k).held = s.held := rfl
@[simp] theorem State.post_settings (k : EventKind) : (s.post k).settings = s.settings := rfl
@[simp] theorem State.post_frozen (k : EventKind) : (s.post k).frozen = s.frozen := rfl
@[simp] theorem State.post_delay (k : EventKind) : (s.post k).delay = s.delay := rfl
@[simp] theorem State.post_engine (k : EventKind) : (s.post k).engine = s.engine := rfl
@[simp] theorem State.post_crosspoints (k : EventKind) : (s.post k).crosspoints = s.crosspoints := rfl
@[simp] theorem State.post_gates (k : EventKind) : (s.post k).gates = s.gates := rfl
@[simp] theorem State.post_groups (k : EventKind) : (s.post k).groups = s.groups := rfl
@[simp] theorem State.post_sockets (k : EventKind) : (s.post k).sockets = s.sockets := rfl
@[simp] theorem State.post_zones (k : EventKind) : (s.post k).zones = s.zones := rfl
@[simp] theorem State.post_override (k : EventKind) : (s.post k).override = s.override := rfl
@[simp] theorem State.post_clock (k : EventKind) : (s.post k).clock = s.clock := rfl
@[simp] theorem State.post_standby (k : EventKind) : (s.post k).standby = s.standby := rfl
@[simp] theorem State.post_ports (k : EventKind) : (s.post k).ports = s.ports := rfl
@[simp] theorem State.post_events (k : EventKind) :
    (s.post k).events =
      s.events.map fun p e => e.add (s.settings.routing.get p) k.mask := rfl
@[simp] theorem State.post_contacts (k : EventKind) : (s.post k).contacts = s.contacts := rfl
@[simp] theorem State.post_announcement (k : EventKind) : (s.post k).announcement = s.announcement := rfl
@[simp] theorem State.post_feeds (k : EventKind) : (s.post k).feeds = s.feeds := rfl

@[simp] theorem State.postTo_pending (p : Port) (m : EventMask) : (s.postTo p m).pending = s.pending := rfl
@[simp] theorem State.postTo_held (p : Port) (m : EventMask) : (s.postTo p m).held = s.held := rfl
@[simp] theorem State.postTo_settings (p : Port) (m : EventMask) : (s.postTo p m).settings = s.settings := rfl
@[simp] theorem State.postTo_frozen (p : Port) (m : EventMask) : (s.postTo p m).frozen = s.frozen := rfl
@[simp] theorem State.postTo_delay (p : Port) (m : EventMask) : (s.postTo p m).delay = s.delay := rfl
@[simp] theorem State.postTo_engine (p : Port) (m : EventMask) : (s.postTo p m).engine = s.engine := rfl
@[simp] theorem State.postTo_crosspoints (p : Port) (m : EventMask) : (s.postTo p m).crosspoints = s.crosspoints := rfl
@[simp] theorem State.postTo_gates (p : Port) (m : EventMask) : (s.postTo p m).gates = s.gates := rfl
@[simp] theorem State.postTo_groups (p : Port) (m : EventMask) : (s.postTo p m).groups = s.groups := rfl
@[simp] theorem State.postTo_sockets (p : Port) (m : EventMask) : (s.postTo p m).sockets = s.sockets := rfl
@[simp] theorem State.postTo_zones (p : Port) (m : EventMask) : (s.postTo p m).zones = s.zones := rfl
@[simp] theorem State.postTo_override (p : Port) (m : EventMask) : (s.postTo p m).override = s.override := rfl
@[simp] theorem State.postTo_clock (p : Port) (m : EventMask) : (s.postTo p m).clock = s.clock := rfl
@[simp] theorem State.postTo_standby (p : Port) (m : EventMask) : (s.postTo p m).standby = s.standby := rfl
@[simp] theorem State.postTo_ports (p : Port) (m : EventMask) : (s.postTo p m).ports = s.ports := rfl
@[simp] theorem State.postTo_events (p : Port) (m : EventMask) :
    (s.postTo p m).events =
      s.events.set p ((s.events.get p).add (s.settings.routing.get p) m) := rfl
@[simp] theorem State.postTo_contacts (p : Port) (m : EventMask) : (s.postTo p m).contacts = s.contacts := rfl
@[simp] theorem State.postTo_announcement (p : Port) (m : EventMask) :
    (s.postTo p m).announcement =
      s.announcement := rfl
@[simp] theorem State.postTo_feeds (p : Port) (m : EventMask) : (s.postTo p m).feeds = s.feeds := rfl

@[simp] theorem State.endPulse_pending (p : Port) : (s.endPulse p).pending = s.pending := rfl
@[simp] theorem State.endPulse_held (p : Port) : (s.endPulse p).held = s.held := rfl
@[simp] theorem State.endPulse_settings (p : Port) : (s.endPulse p).settings = s.settings := rfl
@[simp] theorem State.endPulse_frozen (p : Port) : (s.endPulse p).frozen = s.frozen := rfl
@[simp] theorem State.endPulse_delay (p : Port) : (s.endPulse p).delay = s.delay := rfl
@[simp] theorem State.endPulse_engine (p : Port) : (s.endPulse p).engine = s.engine := rfl
@[simp] theorem State.endPulse_crosspoints (p : Port) : (s.endPulse p).crosspoints = s.crosspoints := rfl
@[simp] theorem State.endPulse_gates (p : Port) : (s.endPulse p).gates = s.gates := rfl
@[simp] theorem State.endPulse_groups (p : Port) : (s.endPulse p).groups = s.groups := rfl
@[simp] theorem State.endPulse_sockets (p : Port) : (s.endPulse p).sockets = s.sockets := rfl
@[simp] theorem State.endPulse_zones (p : Port) : (s.endPulse p).zones = s.zones := rfl
@[simp] theorem State.endPulse_override (p : Port) : (s.endPulse p).override = s.override := rfl
@[simp] theorem State.endPulse_clock (p : Port) : (s.endPulse p).clock = s.clock := rfl
@[simp] theorem State.endPulse_standby (p : Port) : (s.endPulse p).standby = s.standby := rfl
@[simp] theorem State.endPulse_ports (p : Port) : (s.endPulse p).ports = s.ports := rfl
@[simp] theorem State.endPulse_events (p : Port) :
    (s.endPulse p).events =
      s.events.set p { s.events.get p with pulse := none } := rfl
@[simp] theorem State.endPulse_contacts (p : Port) : (s.endPulse p).contacts = s.contacts := rfl
@[simp] theorem State.endPulse_announcement (p : Port) : (s.endPulse p).announcement = s.announcement := rfl
@[simp] theorem State.endPulse_feeds (p : Port) : (s.endPulse p).feeds = s.feeds := rfl

@[simp] theorem State.clearKinds_pending (p : Port) (m : EventMask) : (s.clearKinds p m).pending = s.pending := rfl
@[simp] theorem State.clearKinds_held (p : Port) (m : EventMask) : (s.clearKinds p m).held = s.held := rfl
@[simp] theorem State.clearKinds_settings (p : Port) (m : EventMask) : (s.clearKinds p m).settings = s.settings := rfl
@[simp] theorem State.clearKinds_frozen (p : Port) (m : EventMask) : (s.clearKinds p m).frozen = s.frozen := rfl
@[simp] theorem State.clearKinds_delay (p : Port) (m : EventMask) : (s.clearKinds p m).delay = s.delay := rfl
@[simp] theorem State.clearKinds_engine (p : Port) (m : EventMask) : (s.clearKinds p m).engine = s.engine := rfl
@[simp] theorem State.clearKinds_crosspoints (p : Port) (m : EventMask) :
    (s.clearKinds p m).crosspoints =
      s.crosspoints := rfl
@[simp] theorem State.clearKinds_gates (p : Port) (m : EventMask) : (s.clearKinds p m).gates = s.gates := rfl
@[simp] theorem State.clearKinds_groups (p : Port) (m : EventMask) : (s.clearKinds p m).groups = s.groups := rfl
@[simp] theorem State.clearKinds_sockets (p : Port) (m : EventMask) : (s.clearKinds p m).sockets = s.sockets := rfl
@[simp] theorem State.clearKinds_zones (p : Port) (m : EventMask) : (s.clearKinds p m).zones = s.zones := rfl
@[simp] theorem State.clearKinds_override (p : Port) (m : EventMask) : (s.clearKinds p m).override = s.override := rfl
@[simp] theorem State.clearKinds_clock (p : Port) (m : EventMask) : (s.clearKinds p m).clock = s.clock := rfl
@[simp] theorem State.clearKinds_standby (p : Port) (m : EventMask) : (s.clearKinds p m).standby = s.standby := rfl
@[simp] theorem State.clearKinds_ports (p : Port) (m : EventMask) : (s.clearKinds p m).ports = s.ports := rfl
@[simp] theorem State.clearKinds_events (p : Port) (m : EventMask) :
    (s.clearKinds p m).events =
      s.events.set p { s.events.get p with sticky := (s.events.get p).sticky &&& ~~~m } := rfl
@[simp] theorem State.clearKinds_contacts (p : Port) (m : EventMask) : (s.clearKinds p m).contacts = s.contacts := rfl
@[simp] theorem State.clearKinds_announcement (p : Port) (m : EventMask) :
    (s.clearKinds p m).announcement =
      s.announcement := rfl
@[simp] theorem State.clearKinds_feeds (p : Port) (m : EventMask) : (s.clearKinds p m).feeds = s.feeds := rfl

@[simp] theorem State.collide_pending (p : Port) : (s.collide p).pending = s.pending := rfl
@[simp] theorem State.collide_held (p : Port) : (s.collide p).held = s.held := rfl
@[simp] theorem State.collide_settings (p : Port) : (s.collide p).settings = s.settings := rfl
@[simp] theorem State.collide_frozen (p : Port) : (s.collide p).frozen = s.frozen := rfl
@[simp] theorem State.collide_delay (p : Port) : (s.collide p).delay = s.delay := rfl
@[simp] theorem State.collide_engine (p : Port) : (s.collide p).engine = s.engine := rfl
@[simp] theorem State.collide_crosspoints (p : Port) : (s.collide p).crosspoints = s.crosspoints := rfl
@[simp] theorem State.collide_gates (p : Port) : (s.collide p).gates = s.gates := rfl
@[simp] theorem State.collide_groups (p : Port) : (s.collide p).groups = s.groups := rfl
@[simp] theorem State.collide_sockets (p : Port) : (s.collide p).sockets = s.sockets := rfl
@[simp] theorem State.collide_zones (p : Port) : (s.collide p).zones = s.zones := rfl
@[simp] theorem State.collide_override (p : Port) : (s.collide p).override = s.override := rfl
@[simp] theorem State.collide_clock (p : Port) : (s.collide p).clock = s.clock := rfl
@[simp] theorem State.collide_standby (p : Port) : (s.collide p).standby = s.standby := rfl
@[simp] theorem State.collide_ports (p : Port) : (s.collide p).ports = s.ports := rfl
@[simp] theorem State.collide_events (p : Port) :
    (s.collide p).events =
      s.events.set p ((s.events.get p).add (s.settings.routing.get p) EventKind.portFault.mask) := rfl
@[simp] theorem State.collide_contacts (p : Port) : (s.collide p).contacts = s.contacts := rfl
@[simp] theorem State.collide_announcement (p : Port) : (s.collide p).announcement = s.announcement := rfl
@[simp] theorem State.collide_feeds (p : Port) : (s.collide p).feeds = s.feeds := rfl

@[simp] theorem State.askChannel_pending (n : Channel) : (s.askChannel n).pending = s.pending := rfl
@[simp] theorem State.askChannel_held (n : Channel) : (s.askChannel n).held = s.held := rfl
@[simp] theorem State.askChannel_settings (n : Channel) : (s.askChannel n).settings = s.settings := rfl
@[simp] theorem State.askChannel_frozen (n : Channel) : (s.askChannel n).frozen = s.frozen := rfl
@[simp] theorem State.askChannel_delay (n : Channel) : (s.askChannel n).delay = s.delay := rfl
@[simp] theorem State.askChannel_engine (n : Channel) : (s.askChannel n).engine = s.engine.askChannel n := rfl
@[simp] theorem State.askChannel_crosspoints (n : Channel) : (s.askChannel n).crosspoints = s.crosspoints := rfl
@[simp] theorem State.askChannel_gates (n : Channel) : (s.askChannel n).gates = s.gates := rfl
@[simp] theorem State.askChannel_groups (n : Channel) : (s.askChannel n).groups = s.groups := rfl
@[simp] theorem State.askChannel_sockets (n : Channel) : (s.askChannel n).sockets = s.sockets := rfl
@[simp] theorem State.askChannel_zones (n : Channel) : (s.askChannel n).zones = s.zones := rfl
@[simp] theorem State.askChannel_override (n : Channel) : (s.askChannel n).override = s.override := rfl
@[simp] theorem State.askChannel_clock (n : Channel) : (s.askChannel n).clock = s.clock := rfl
@[simp] theorem State.askChannel_standby (n : Channel) : (s.askChannel n).standby = s.standby := rfl
@[simp] theorem State.askChannel_ports (n : Channel) : (s.askChannel n).ports = s.ports := rfl
@[simp] theorem State.askChannel_events (n : Channel) : (s.askChannel n).events = s.events := rfl
@[simp] theorem State.askChannel_contacts (n : Channel) : (s.askChannel n).contacts = s.contacts := rfl
@[simp] theorem State.askChannel_announcement (n : Channel) : (s.askChannel n).announcement = s.announcement := rfl
@[simp] theorem State.askChannel_feeds (n : Channel) : (s.askChannel n).feeds = s.feeds := rfl

@[simp] theorem State.askGroup_pending (g : Group) : (s.askGroup g).pending = s.pending := rfl
@[simp] theorem State.askGroup_held (g : Group) : (s.askGroup g).held = s.held := rfl
@[simp] theorem State.askGroup_settings (g : Group) : (s.askGroup g).settings = s.settings := rfl
@[simp] theorem State.askGroup_frozen (g : Group) : (s.askGroup g).frozen = s.frozen := rfl
@[simp] theorem State.askGroup_delay (g : Group) : (s.askGroup g).delay = s.delay := rfl
@[simp] theorem State.askGroup_engine (g : Group) : (s.askGroup g).engine = s.engine.askGroup g := rfl
@[simp] theorem State.askGroup_crosspoints (g : Group) : (s.askGroup g).crosspoints = s.crosspoints := rfl
@[simp] theorem State.askGroup_gates (g : Group) : (s.askGroup g).gates = s.gates := rfl
@[simp] theorem State.askGroup_groups (g : Group) : (s.askGroup g).groups = s.groups := rfl
@[simp] theorem State.askGroup_sockets (g : Group) : (s.askGroup g).sockets = s.sockets := rfl
@[simp] theorem State.askGroup_zones (g : Group) : (s.askGroup g).zones = s.zones := rfl
@[simp] theorem State.askGroup_override (g : Group) : (s.askGroup g).override = s.override := rfl
@[simp] theorem State.askGroup_clock (g : Group) : (s.askGroup g).clock = s.clock := rfl
@[simp] theorem State.askGroup_standby (g : Group) : (s.askGroup g).standby = s.standby := rfl
@[simp] theorem State.askGroup_ports (g : Group) : (s.askGroup g).ports = s.ports := rfl
@[simp] theorem State.askGroup_events (g : Group) : (s.askGroup g).events = s.events := rfl
@[simp] theorem State.askGroup_contacts (g : Group) : (s.askGroup g).contacts = s.contacts := rfl
@[simp] theorem State.askGroup_announcement (g : Group) : (s.askGroup g).announcement = s.announcement := rfl
@[simp] theorem State.askGroup_feeds (g : Group) : (s.askGroup g).feeds = s.feeds := rfl

@[simp] theorem State.askAll_pending : (s.askAll).pending = s.pending := rfl
@[simp] theorem State.askAll_held : (s.askAll).held = s.held := rfl
@[simp] theorem State.askAll_settings : (s.askAll).settings = s.settings := rfl
@[simp] theorem State.askAll_frozen : (s.askAll).frozen = s.frozen := rfl
@[simp] theorem State.askAll_delay : (s.askAll).delay = s.delay := rfl
@[simp] theorem State.askAll_engine : (s.askAll).engine = s.engine.askAll := rfl
@[simp] theorem State.askAll_crosspoints : (s.askAll).crosspoints = s.crosspoints := rfl
@[simp] theorem State.askAll_gates : (s.askAll).gates = s.gates := rfl
@[simp] theorem State.askAll_groups : (s.askAll).groups = s.groups := rfl
@[simp] theorem State.askAll_sockets : (s.askAll).sockets = s.sockets := rfl
@[simp] theorem State.askAll_zones : (s.askAll).zones = s.zones := rfl
@[simp] theorem State.askAll_override : (s.askAll).override = s.override := rfl
@[simp] theorem State.askAll_clock : (s.askAll).clock = s.clock := rfl
@[simp] theorem State.askAll_standby : (s.askAll).standby = s.standby := rfl
@[simp] theorem State.askAll_ports : (s.askAll).ports = s.ports := rfl
@[simp] theorem State.askAll_events : (s.askAll).events = s.events := rfl
@[simp] theorem State.askAll_contacts : (s.askAll).contacts = s.contacts := rfl
@[simp] theorem State.askAll_announcement : (s.askAll).announcement = s.announcement := rfl
@[simp] theorem State.askAll_feeds : (s.askAll).feeds = s.feeds := rfl

@[simp] theorem State.askCounts_pending (b : State) : (s.askCounts b).pending = s.pending := rfl
@[simp] theorem State.askCounts_held (b : State) : (s.askCounts b).held = s.held := rfl
@[simp] theorem State.askCounts_settings (b : State) : (s.askCounts b).settings = s.settings := rfl
@[simp] theorem State.askCounts_frozen (b : State) : (s.askCounts b).frozen = s.frozen := rfl
@[simp] theorem State.askCounts_delay (b : State) : (s.askCounts b).delay = s.delay := rfl
@[simp] theorem State.askCounts_engine (b : State) :
    (s.askCounts b).engine =
      s.engine.askCounts b.groups s.groups := rfl
@[simp] theorem State.askCounts_crosspoints (b : State) : (s.askCounts b).crosspoints = s.crosspoints := rfl
@[simp] theorem State.askCounts_gates (b : State) : (s.askCounts b).gates = s.gates := rfl
@[simp] theorem State.askCounts_groups (b : State) : (s.askCounts b).groups = s.groups := rfl
@[simp] theorem State.askCounts_sockets (b : State) : (s.askCounts b).sockets = s.sockets := rfl
@[simp] theorem State.askCounts_zones (b : State) : (s.askCounts b).zones = s.zones := rfl
@[simp] theorem State.askCounts_override (b : State) : (s.askCounts b).override = s.override := rfl
@[simp] theorem State.askCounts_clock (b : State) : (s.askCounts b).clock = s.clock := rfl
@[simp] theorem State.askCounts_standby (b : State) : (s.askCounts b).standby = s.standby := rfl
@[simp] theorem State.askCounts_ports (b : State) : (s.askCounts b).ports = s.ports := rfl
@[simp] theorem State.askCounts_events (b : State) : (s.askCounts b).events = s.events := rfl
@[simp] theorem State.askCounts_contacts (b : State) : (s.askCounts b).contacts = s.contacts := rfl
@[simp] theorem State.askCounts_announcement (b : State) : (s.askCounts b).announcement = s.announcement := rfl
@[simp] theorem State.askCounts_feeds (b : State) : (s.askCounts b).feeds = s.feeds := rfl

@[simp] theorem State.retarget_pending : (s.retarget).pending = s.pending := rfl
@[simp] theorem State.retarget_held : (s.retarget).held = s.held := rfl
@[simp] theorem State.retarget_settings : (s.retarget).settings = s.settings := rfl
@[simp] theorem State.retarget_frozen : (s.retarget).frozen = s.frozen := rfl
@[simp] theorem State.retarget_delay : (s.retarget).delay = s.delay := rfl
@[simp] theorem State.retarget_engine : (s.retarget).engine = s.engine := rfl
@[simp] theorem State.retarget_crosspoints : (s.retarget).crosspoints = s.crosspoints.map fun n row => row.map fun j x =>
      x.retarget (s.settings.fadeLength j) (s.targetOf n j x) := rfl
@[simp] theorem State.retarget_gates : (s.retarget).gates = s.gates := rfl
@[simp] theorem State.retarget_groups : (s.retarget).groups = s.groups := rfl
@[simp] theorem State.retarget_sockets : (s.retarget).sockets = s.sockets := rfl
@[simp] theorem State.retarget_zones : (s.retarget).zones = s.zones := rfl
@[simp] theorem State.retarget_override : (s.retarget).override = s.override := rfl
@[simp] theorem State.retarget_clock : (s.retarget).clock = s.clock := rfl
@[simp] theorem State.retarget_standby : (s.retarget).standby = s.standby := rfl
@[simp] theorem State.retarget_ports : (s.retarget).ports = s.ports := rfl
@[simp] theorem State.retarget_events : (s.retarget).events = s.events := rfl
@[simp] theorem State.retarget_contacts : (s.retarget).contacts = s.contacts := rfl
@[simp] theorem State.retarget_announcement : (s.retarget).announcement = s.announcement := rfl
@[simp] theorem State.retarget_feeds : (s.retarget).feeds = s.feeds := rfl

@[simp] theorem State.settle_pending (b : State) : (s.settle b).pending = s.pending := rfl
@[simp] theorem State.settle_held (b : State) : (s.settle b).held = s.held := rfl
@[simp] theorem State.settle_settings (b : State) : (s.settle b).settings = s.settings := rfl
@[simp] theorem State.settle_frozen (b : State) : (s.settle b).frozen = s.frozen := rfl
@[simp] theorem State.settle_delay (b : State) : (s.settle b).delay = s.delay := rfl
@[simp] theorem State.settle_engine (b : State) : (s.settle b).engine = s.engine.askCounts b.groups s.groups := rfl
@[simp] theorem State.settle_crosspoints (b : State) : (s.settle b).crosspoints = s.crosspoints.map fun n row => row.map fun j x =>
      x.retarget (s.settings.fadeLength j) (s.targetOf n j x) := rfl
@[simp] theorem State.settle_gates (b : State) : (s.settle b).gates = s.gates := rfl
@[simp] theorem State.settle_groups (b : State) : (s.settle b).groups = s.groups := rfl
@[simp] theorem State.settle_sockets (b : State) : (s.settle b).sockets = s.sockets := rfl
@[simp] theorem State.settle_zones (b : State) : (s.settle b).zones = s.zones := rfl
@[simp] theorem State.settle_override (b : State) : (s.settle b).override = s.override := rfl
@[simp] theorem State.settle_clock (b : State) : (s.settle b).clock = s.clock := rfl
@[simp] theorem State.settle_standby (b : State) : (s.settle b).standby = s.standby := rfl
@[simp] theorem State.settle_ports (b : State) : (s.settle b).ports = s.ports := rfl
@[simp] theorem State.settle_events (b : State) : (s.settle b).events = s.events := rfl
@[simp] theorem State.settle_contacts (b : State) : (s.settle b).contacts = s.contacts := rfl
@[simp] theorem State.settle_announcement (b : State) : (s.settle b).announcement = s.announcement := rfl
@[simp] theorem State.settle_feeds (b : State) : (s.settle b).feeds = s.feeds := rfl

@[simp] theorem State.settleClock_pending (b : State) (z : Zone → Bool) : (s.settleClock b z).pending = s.pending := rfl
@[simp] theorem State.settleClock_held (b : State) (z : Zone → Bool) : (s.settleClock b z).held = s.held := rfl
@[simp] theorem State.settleClock_settings (b : State) (z : Zone → Bool) :
    (s.settleClock b z).settings =
      s.settings := rfl
@[simp] theorem State.settleClock_frozen (b : State) (z : Zone → Bool) : (s.settleClock b z).frozen = s.frozen := rfl
@[simp] theorem State.settleClock_delay (b : State) (z : Zone → Bool) : (s.settleClock b z).delay = s.delay := rfl
@[simp] theorem State.settleClock_engine (b : State) (z : Zone → Bool) :
    (s.settleClock b z).engine =
      s.engine.askCounts b.groups s.groups := rfl
@[simp] theorem State.settleClock_crosspoints (b : State) (z : Zone → Bool) :
    (s.settleClock b z).crosspoints =
      (s.retargetClock z).crosspoints := rfl
@[simp] theorem State.settleClock_gates (b : State) (z : Zone → Bool) : (s.settleClock b z).gates = s.gates := rfl
@[simp] theorem State.settleClock_groups (b : State) (z : Zone → Bool) : (s.settleClock b z).groups = s.groups := rfl
@[simp] theorem State.settleClock_sockets (b : State) (z : Zone → Bool) : (s.settleClock b z).sockets = s.sockets := rfl
@[simp] theorem State.settleClock_zones (b : State) (z : Zone → Bool) : (s.settleClock b z).zones = s.zones := rfl
@[simp] theorem State.settleClock_override (b : State) (z : Zone → Bool) :
    (s.settleClock b z).override =
      s.override := rfl
@[simp] theorem State.settleClock_clock (b : State) (z : Zone → Bool) : (s.settleClock b z).clock = s.clock := rfl
@[simp] theorem State.settleClock_standby (b : State) (z : Zone → Bool) : (s.settleClock b z).standby = s.standby := rfl
@[simp] theorem State.settleClock_ports (b : State) (z : Zone → Bool) : (s.settleClock b z).ports = s.ports := rfl
@[simp] theorem State.settleClock_events (b : State) (z : Zone → Bool) : (s.settleClock b z).events = s.events := rfl
@[simp] theorem State.settleClock_contacts (b : State) (z : Zone → Bool) :
    (s.settleClock b z).contacts =
      s.contacts := rfl
@[simp] theorem State.settleClock_announcement (b : State) (z : Zone → Bool) :
    (s.settleClock b z).announcement =
      s.announcement := rfl
@[simp] theorem State.settleClock_feeds (b : State) (z : Zone → Bool) : (s.settleClock b z).feeds = s.feeds := rfl

@[simp] theorem State.retargetClock_pending (z : Zone → Bool) : (s.retargetClock z).pending = s.pending := rfl
@[simp] theorem State.retargetClock_held (z : Zone → Bool) : (s.retargetClock z).held = s.held := rfl
@[simp] theorem State.retargetClock_settings (z : Zone → Bool) : (s.retargetClock z).settings = s.settings := rfl
@[simp] theorem State.retargetClock_frozen (z : Zone → Bool) : (s.retargetClock z).frozen = s.frozen := rfl
@[simp] theorem State.retargetClock_delay (z : Zone → Bool) : (s.retargetClock z).delay = s.delay := rfl
@[simp] theorem State.retargetClock_engine (z : Zone → Bool) : (s.retargetClock z).engine = s.engine := rfl
@[simp] theorem State.retargetClock_gates (z : Zone → Bool) : (s.retargetClock z).gates = s.gates := rfl
@[simp] theorem State.retargetClock_groups (z : Zone → Bool) : (s.retargetClock z).groups = s.groups := rfl
@[simp] theorem State.retargetClock_sockets (z : Zone → Bool) : (s.retargetClock z).sockets = s.sockets := rfl
@[simp] theorem State.retargetClock_zones (z : Zone → Bool) : (s.retargetClock z).zones = s.zones := rfl
@[simp] theorem State.retargetClock_override (z : Zone → Bool) : (s.retargetClock z).override = s.override := rfl
@[simp] theorem State.retargetClock_clock (z : Zone → Bool) : (s.retargetClock z).clock = s.clock := rfl
@[simp] theorem State.retargetClock_standby (z : Zone → Bool) : (s.retargetClock z).standby = s.standby := rfl
@[simp] theorem State.retargetClock_ports (z : Zone → Bool) : (s.retargetClock z).ports = s.ports := rfl
@[simp] theorem State.retargetClock_events (z : Zone → Bool) : (s.retargetClock z).events = s.events := rfl
@[simp] theorem State.retargetClock_contacts (z : Zone → Bool) : (s.retargetClock z).contacts = s.contacts := rfl
@[simp] theorem State.retargetClock_announcement (z : Zone → Bool) :
    (s.retargetClock z).announcement =
      s.announcement := rfl
@[simp] theorem State.retargetClock_feeds (z : Zone → Bool) : (s.retargetClock z).feeds = s.feeds := rfl

@[simp] theorem State.withMix_pending (m : Mix) : (s.withMix m).pending = s.pending := rfl
@[simp] theorem State.withMix_held (m : Mix) : (s.withMix m).held = s.held := rfl
@[simp] theorem State.withMix_settings (m : Mix) : (s.withMix m).settings = s.settings := rfl
@[simp] theorem State.withMix_frozen (m : Mix) : (s.withMix m).frozen = s.frozen := rfl
@[simp] theorem State.withMix_delay (m : Mix) : (s.withMix m).delay = s.delay := rfl
@[simp] theorem State.withMix_engine (m : Mix) : (s.withMix m).engine = s.engine := rfl
@[simp] theorem State.withMix_crosspoints (m : Mix) : (s.withMix m).crosspoints = s.crosspoints := rfl
@[simp] theorem State.withMix_gates (m : Mix) : (s.withMix m).gates = m.gates := rfl
@[simp] theorem State.withMix_groups (m : Mix) : (s.withMix m).groups = m.groups := rfl
@[simp] theorem State.withMix_sockets (m : Mix) : (s.withMix m).sockets = s.sockets := rfl
@[simp] theorem State.withMix_zones (m : Mix) : (s.withMix m).zones = s.zones := rfl
@[simp] theorem State.withMix_override (m : Mix) : (s.withMix m).override = s.override := rfl
@[simp] theorem State.withMix_clock (m : Mix) : (s.withMix m).clock = s.clock := rfl
@[simp] theorem State.withMix_standby (m : Mix) : (s.withMix m).standby = s.standby := rfl
@[simp] theorem State.withMix_ports (m : Mix) : (s.withMix m).ports = s.ports := rfl
@[simp] theorem State.withMix_events (m : Mix) :
    (s.withMix m).events =
      s.events.map fun p e => e.add (s.settings.routing.get p) m.posted := rfl
@[simp] theorem State.withMix_contacts (m : Mix) : (s.withMix m).contacts = s.contacts := rfl
@[simp] theorem State.withMix_announcement (m : Mix) : (s.withMix m).announcement = s.announcement := rfl
@[simp] theorem State.withMix_feeds (m : Mix) : (s.withMix m).feeds = s.feeds := rfl

@[simp] theorem State.onMix_pending (f : Mix → Mix) : (s.onMix f).pending = s.pending := rfl
@[simp] theorem State.onMix_held (f : Mix → Mix) : (s.onMix f).held = s.held := rfl
@[simp] theorem State.onMix_settings (f : Mix → Mix) : (s.onMix f).settings = s.settings := rfl
@[simp] theorem State.onMix_frozen (f : Mix → Mix) : (s.onMix f).frozen = s.frozen := rfl
@[simp] theorem State.onMix_delay (f : Mix → Mix) : (s.onMix f).delay = s.delay := rfl
@[simp] theorem State.onMix_engine (f : Mix → Mix) : (s.onMix f).engine = s.engine := rfl
@[simp] theorem State.onMix_crosspoints (f : Mix → Mix) : (s.onMix f).crosspoints = s.crosspoints := rfl
@[simp] theorem State.onMix_gates (f : Mix → Mix) : (s.onMix f).gates = (f s.mix).gates := rfl
@[simp] theorem State.onMix_groups (f : Mix → Mix) : (s.onMix f).groups = (f s.mix).groups := rfl
@[simp] theorem State.onMix_sockets (f : Mix → Mix) : (s.onMix f).sockets = s.sockets := rfl
@[simp] theorem State.onMix_zones (f : Mix → Mix) : (s.onMix f).zones = s.zones := rfl
@[simp] theorem State.onMix_override (f : Mix → Mix) : (s.onMix f).override = s.override := rfl
@[simp] theorem State.onMix_clock (f : Mix → Mix) : (s.onMix f).clock = s.clock := rfl
@[simp] theorem State.onMix_standby (f : Mix → Mix) : (s.onMix f).standby = s.standby := rfl
@[simp] theorem State.onMix_ports (f : Mix → Mix) : (s.onMix f).ports = s.ports := rfl
@[simp] theorem State.onMix_events (f : Mix → Mix) :
    (s.onMix f).events =
      s.events.map fun p e => e.add (s.settings.routing.get p) (f s.mix).posted := rfl
@[simp] theorem State.onMix_contacts (f : Mix → Mix) : (s.onMix f).contacts = s.contacts := rfl
@[simp] theorem State.onMix_announcement (f : Mix → Mix) : (s.onMix f).announcement = s.announcement := rfl
@[simp] theorem State.onMix_feeds (f : Mix → Mix) : (s.onMix f).feeds = s.feeds := rfl

@[simp] theorem State.setHolder_pending (g : Group) (h : Option Port) : (s.setHolder g h).pending = s.pending := rfl
@[simp] theorem State.setHolder_held (g : Group) (h : Option Port) : (s.setHolder g h).held = s.held := rfl
@[simp] theorem State.setHolder_settings (g : Group) (h : Option Port) : (s.setHolder g h).settings = s.settings := rfl
@[simp] theorem State.setHolder_frozen (g : Group) (h : Option Port) : (s.setHolder g h).frozen = s.frozen := rfl
@[simp] theorem State.setHolder_delay (g : Group) (h : Option Port) : (s.setHolder g h).delay = s.delay := rfl
@[simp] theorem State.setHolder_engine (g : Group) (h : Option Port) : (s.setHolder g h).engine = s.engine := rfl
@[simp] theorem State.setHolder_crosspoints (g : Group) (h : Option Port) :
    (s.setHolder g h).crosspoints =
      s.crosspoints := rfl
@[simp] theorem State.setHolder_gates (g : Group) (h : Option Port) : (s.setHolder g h).gates = s.gates := rfl
@[simp] theorem State.setHolder_groups (g : Group) (h : Option Port) :
    (s.setHolder g h).groups =
      s.groups.modify g fun x => { x with holder := h } := rfl
@[simp] theorem State.setHolder_sockets (g : Group) (h : Option Port) : (s.setHolder g h).sockets = s.sockets := rfl
@[simp] theorem State.setHolder_zones (g : Group) (h : Option Port) : (s.setHolder g h).zones = s.zones := rfl
@[simp] theorem State.setHolder_override (g : Group) (h : Option Port) : (s.setHolder g h).override = s.override := rfl
@[simp] theorem State.setHolder_clock (g : Group) (h : Option Port) : (s.setHolder g h).clock = s.clock := rfl
@[simp] theorem State.setHolder_standby (g : Group) (h : Option Port) : (s.setHolder g h).standby = s.standby := rfl
@[simp] theorem State.setHolder_ports (g : Group) (h : Option Port) : (s.setHolder g h).ports = s.ports := rfl
@[simp] theorem State.setHolder_events (g : Group) (h : Option Port) : (s.setHolder g h).events = s.events := rfl
@[simp] theorem State.setHolder_contacts (g : Group) (h : Option Port) : (s.setHolder g h).contacts = s.contacts := rfl
@[simp] theorem State.setHolder_announcement (g : Group) (h : Option Port) :
    (s.setHolder g h).announcement =
      s.announcement := rfl
@[simp] theorem State.setHolder_feeds (g : Group) (h : Option Port) : (s.setHolder g h).feeds = s.feeds := rfl

@[simp] theorem State.onCrosspoint_pending (n : Channel) (j : Zone) (f : Crosspoint → Crosspoint) :
    (s.onCrosspoint n j f).pending =
      s.pending := rfl
@[simp] theorem State.onCrosspoint_held (n : Channel) (j : Zone) (f : Crosspoint → Crosspoint) :
    (s.onCrosspoint n j f).held =
      s.held := rfl
@[simp] theorem State.onCrosspoint_settings (n : Channel) (j : Zone) (f : Crosspoint → Crosspoint) :
    (s.onCrosspoint n j f).settings =
      s.settings := rfl
@[simp] theorem State.onCrosspoint_frozen (n : Channel) (j : Zone) (f : Crosspoint → Crosspoint) :
    (s.onCrosspoint n j f).frozen =
      s.frozen := rfl
@[simp] theorem State.onCrosspoint_delay (n : Channel) (j : Zone) (f : Crosspoint → Crosspoint) :
    (s.onCrosspoint n j f).delay =
      s.delay := rfl
@[simp] theorem State.onCrosspoint_engine (n : Channel) (j : Zone) (f : Crosspoint → Crosspoint) :
    (s.onCrosspoint n j f).engine =
      s.engine := rfl
@[simp] theorem State.onCrosspoint_crosspoints (n : Channel) (j : Zone) (f : Crosspoint → Crosspoint) :
    (s.onCrosspoint n j f).crosspoints =
      s.crosspoints.modify n fun row => row.modify j f := rfl
@[simp] theorem State.onCrosspoint_gates (n : Channel) (j : Zone) (f : Crosspoint → Crosspoint) :
    (s.onCrosspoint n j f).gates =
      s.gates := rfl
@[simp] theorem State.onCrosspoint_groups (n : Channel) (j : Zone) (f : Crosspoint → Crosspoint) :
    (s.onCrosspoint n j f).groups =
      s.groups := rfl
@[simp] theorem State.onCrosspoint_sockets (n : Channel) (j : Zone) (f : Crosspoint → Crosspoint) :
    (s.onCrosspoint n j f).sockets =
      s.sockets := rfl
@[simp] theorem State.onCrosspoint_zones (n : Channel) (j : Zone) (f : Crosspoint → Crosspoint) :
    (s.onCrosspoint n j f).zones =
      s.zones := rfl
@[simp] theorem State.onCrosspoint_override (n : Channel) (j : Zone) (f : Crosspoint → Crosspoint) :
    (s.onCrosspoint n j f).override =
      s.override := rfl
@[simp] theorem State.onCrosspoint_clock (n : Channel) (j : Zone) (f : Crosspoint → Crosspoint) :
    (s.onCrosspoint n j f).clock =
      s.clock := rfl
@[simp] theorem State.onCrosspoint_standby (n : Channel) (j : Zone) (f : Crosspoint → Crosspoint) :
    (s.onCrosspoint n j f).standby =
      s.standby := rfl
@[simp] theorem State.onCrosspoint_ports (n : Channel) (j : Zone) (f : Crosspoint → Crosspoint) :
    (s.onCrosspoint n j f).ports =
      s.ports := rfl
@[simp] theorem State.onCrosspoint_events (n : Channel) (j : Zone) (f : Crosspoint → Crosspoint) :
    (s.onCrosspoint n j f).events =
      s.events := rfl
@[simp] theorem State.onCrosspoint_contacts (n : Channel) (j : Zone) (f : Crosspoint → Crosspoint) :
    (s.onCrosspoint n j f).contacts =
      s.contacts := rfl
@[simp] theorem State.onCrosspoint_announcement (n : Channel) (j : Zone) (f : Crosspoint → Crosspoint) :
    (s.onCrosspoint n j f).announcement =
      s.announcement := rfl
@[simp] theorem State.onCrosspoint_feeds (n : Channel) (j : Zone) (f : Crosspoint → Crosspoint) :
    (s.onCrosspoint n j f).feeds =
      s.feeds := rfl

@[simp] theorem State.onCrosspoints_pending (f : Nat → Crosspoint → Crosspoint) :
    (s.onCrosspoints f).pending =
      s.pending := rfl
@[simp] theorem State.onCrosspoints_held (f : Nat → Crosspoint → Crosspoint) : (s.onCrosspoints f).held = s.held := rfl
@[simp] theorem State.onCrosspoints_settings (f : Nat → Crosspoint → Crosspoint) :
    (s.onCrosspoints f).settings =
      s.settings := rfl
@[simp] theorem State.onCrosspoints_frozen (f : Nat → Crosspoint → Crosspoint) :
    (s.onCrosspoints f).frozen =
      s.frozen := rfl
@[simp] theorem State.onCrosspoints_delay (f : Nat → Crosspoint → Crosspoint) :
    (s.onCrosspoints f).delay =
      s.delay := rfl
@[simp] theorem State.onCrosspoints_engine (f : Nat → Crosspoint → Crosspoint) :
    (s.onCrosspoints f).engine =
      s.engine := rfl
@[simp] theorem State.onCrosspoints_crosspoints (f : Nat → Crosspoint → Crosspoint) :
    (s.onCrosspoints f).crosspoints =
      s.crosspoints.map fun _ row => row.map fun j x => f (s.settings.fadeLength j) x := rfl
@[simp] theorem State.onCrosspoints_gates (f : Nat → Crosspoint → Crosspoint) :
    (s.onCrosspoints f).gates =
      s.gates := rfl
@[simp] theorem State.onCrosspoints_groups (f : Nat → Crosspoint → Crosspoint) :
    (s.onCrosspoints f).groups =
      s.groups := rfl
@[simp] theorem State.onCrosspoints_sockets (f : Nat → Crosspoint → Crosspoint) :
    (s.onCrosspoints f).sockets =
      s.sockets := rfl
@[simp] theorem State.onCrosspoints_zones (f : Nat → Crosspoint → Crosspoint) :
    (s.onCrosspoints f).zones =
      s.zones := rfl
@[simp] theorem State.onCrosspoints_override (f : Nat → Crosspoint → Crosspoint) :
    (s.onCrosspoints f).override =
      s.override := rfl
@[simp] theorem State.onCrosspoints_clock (f : Nat → Crosspoint → Crosspoint) :
    (s.onCrosspoints f).clock =
      s.clock := rfl
@[simp] theorem State.onCrosspoints_standby (f : Nat → Crosspoint → Crosspoint) :
    (s.onCrosspoints f).standby =
      s.standby := rfl
@[simp] theorem State.onCrosspoints_ports (f : Nat → Crosspoint → Crosspoint) :
    (s.onCrosspoints f).ports =
      s.ports := rfl
@[simp] theorem State.onCrosspoints_events (f : Nat → Crosspoint → Crosspoint) :
    (s.onCrosspoints f).events =
      s.events := rfl
@[simp] theorem State.onCrosspoints_contacts (f : Nat → Crosspoint → Crosspoint) :
    (s.onCrosspoints f).contacts =
      s.contacts := rfl
@[simp] theorem State.onCrosspoints_announcement (f : Nat → Crosspoint → Crosspoint) :
    (s.onCrosspoints f).announcement =
      s.announcement := rfl
@[simp] theorem State.onCrosspoints_feeds (f : Nat → Crosspoint → Crosspoint) :
    (s.onCrosspoints f).feeds =
      s.feeds := rfl

@[simp] theorem State.takeOver_pending (z : Zone → Bool) : (s.takeOver z).pending = s.pending := rfl
@[simp] theorem State.takeOver_held (z : Zone → Bool) : (s.takeOver z).held = s.held := rfl
@[simp] theorem State.takeOver_settings (z : Zone → Bool) : (s.takeOver z).settings = s.settings := rfl
@[simp] theorem State.takeOver_frozen (z : Zone → Bool) : (s.takeOver z).frozen = s.frozen := rfl
@[simp] theorem State.takeOver_delay (z : Zone → Bool) : (s.takeOver z).delay = s.delay := rfl
@[simp] theorem State.takeOver_engine (z : Zone → Bool) : (s.takeOver z).engine = s.engine := rfl
@[simp] theorem State.takeOver_gates (z : Zone → Bool) : (s.takeOver z).gates = s.gates := rfl
@[simp] theorem State.takeOver_groups (z : Zone → Bool) : (s.takeOver z).groups = s.groups := rfl
@[simp] theorem State.takeOver_sockets (z : Zone → Bool) : (s.takeOver z).sockets = s.sockets := rfl
@[simp] theorem State.takeOver_override (z : Zone → Bool) : (s.takeOver z).override = s.override := rfl
@[simp] theorem State.takeOver_clock (z : Zone → Bool) : (s.takeOver z).clock = s.clock := rfl
@[simp] theorem State.takeOver_standby (z : Zone → Bool) : (s.takeOver z).standby = s.standby := rfl
@[simp] theorem State.takeOver_ports (z : Zone → Bool) : (s.takeOver z).ports = s.ports := rfl
@[simp] theorem State.takeOver_events (z : Zone → Bool) : (s.takeOver z).events = s.events := rfl
@[simp] theorem State.takeOver_contacts (z : Zone → Bool) : (s.takeOver z).contacts = s.contacts := rfl
@[simp] theorem State.takeOver_announcement (z : Zone → Bool) : (s.takeOver z).announcement = s.announcement := rfl
@[simp] theorem State.takeOver_feeds (z : Zone → Bool) : (s.takeOver z).feeds = s.feeds := rfl

@[simp] theorem State.freshDetectors_pending : (s.freshDetectors).pending = s.pending := rfl
@[simp] theorem State.freshDetectors_held : (s.freshDetectors).held = s.held := rfl
@[simp] theorem State.freshDetectors_settings : (s.freshDetectors).settings = s.settings := rfl
@[simp] theorem State.freshDetectors_frozen : (s.freshDetectors).frozen = s.frozen := rfl
@[simp] theorem State.freshDetectors_delay : (s.freshDetectors).delay = s.delay := rfl
@[simp] theorem State.freshDetectors_engine : (s.freshDetectors).engine = s.engine := rfl
@[simp] theorem State.freshDetectors_crosspoints : (s.freshDetectors).crosspoints = s.crosspoints := rfl
@[simp] theorem State.freshDetectors_gates :
    (s.freshDetectors).gates =
      s.gates.map fun _ g => { g with latest := 240, detector := .fresh } := rfl
@[simp] theorem State.freshDetectors_groups : (s.freshDetectors).groups = s.groups := rfl
@[simp] theorem State.freshDetectors_sockets : (s.freshDetectors).sockets = s.sockets := rfl
@[simp] theorem State.freshDetectors_zones : (s.freshDetectors).zones = s.zones := rfl
@[simp] theorem State.freshDetectors_override : (s.freshDetectors).override = s.override := rfl
@[simp] theorem State.freshDetectors_clock : (s.freshDetectors).clock = s.clock := rfl
@[simp] theorem State.freshDetectors_standby : (s.freshDetectors).standby = s.standby := rfl
@[simp] theorem State.freshDetectors_ports : (s.freshDetectors).ports = s.ports := rfl
@[simp] theorem State.freshDetectors_events : (s.freshDetectors).events = s.events := rfl
@[simp] theorem State.freshDetectors_contacts : (s.freshDetectors).contacts = s.contacts := rfl
@[simp] theorem State.freshDetectors_announcement : (s.freshDetectors).announcement = s.announcement := rfl
@[simp] theorem State.freshDetectors_feeds : (s.freshDetectors).feeds = s.feeds := rfl

@[simp] theorem State.emptyWaiting_pending : (s.emptyWaiting).pending = s.pending := rfl
@[simp] theorem State.emptyWaiting_held : (s.emptyWaiting).held = s.held := rfl
@[simp] theorem State.emptyWaiting_settings : (s.emptyWaiting).settings = s.settings := rfl
@[simp] theorem State.emptyWaiting_frozen : (s.emptyWaiting).frozen = s.frozen := rfl
@[simp] theorem State.emptyWaiting_delay : (s.emptyWaiting).delay = s.delay := rfl
@[simp] theorem State.emptyWaiting_engine : (s.emptyWaiting).engine = s.engine := rfl
@[simp] theorem State.emptyWaiting_crosspoints : (s.emptyWaiting).crosspoints = s.crosspoints := rfl
@[simp] theorem State.emptyWaiting_gates : (s.emptyWaiting).gates = s.gates := rfl
@[simp] theorem State.emptyWaiting_groups :
    (s.emptyWaiting).groups =
      s.groups.map fun _ x => { x with waiting := [] } := rfl
@[simp] theorem State.emptyWaiting_sockets : (s.emptyWaiting).sockets = s.sockets := rfl
@[simp] theorem State.emptyWaiting_zones : (s.emptyWaiting).zones = s.zones := rfl
@[simp] theorem State.emptyWaiting_override : (s.emptyWaiting).override = s.override := rfl
@[simp] theorem State.emptyWaiting_clock : (s.emptyWaiting).clock = s.clock := rfl
@[simp] theorem State.emptyWaiting_standby : (s.emptyWaiting).standby = s.standby := rfl
@[simp] theorem State.emptyWaiting_ports : (s.emptyWaiting).ports = s.ports := rfl
@[simp] theorem State.emptyWaiting_events : (s.emptyWaiting).events = s.events := rfl
@[simp] theorem State.emptyWaiting_contacts : (s.emptyWaiting).contacts = s.contacts := rfl
@[simp] theorem State.emptyWaiting_announcement : (s.emptyWaiting).announcement = s.announcement := rfl
@[simp] theorem State.emptyWaiting_feeds : (s.emptyWaiting).feeds = s.feeds := rfl

@[simp] theorem State.abandon_pending (p : Port) : (s.abandon p).pending = s.pending := rfl
@[simp] theorem State.abandon_held (p : Port) : (s.abandon p).held = s.held := rfl
@[simp] theorem State.abandon_settings (p : Port) : (s.abandon p).settings = s.settings := rfl
@[simp] theorem State.abandon_frozen (p : Port) : (s.abandon p).frozen = s.frozen := rfl
@[simp] theorem State.abandon_delay (p : Port) : (s.abandon p).delay = s.delay := rfl
@[simp] theorem State.abandon_engine (p : Port) : (s.abandon p).engine = s.engine := rfl
@[simp] theorem State.abandon_crosspoints (p : Port) : (s.abandon p).crosspoints = s.crosspoints := rfl
@[simp] theorem State.abandon_gates (p : Port) : (s.abandon p).gates = s.gates := rfl
@[simp] theorem State.abandon_groups (p : Port) : (s.abandon p).groups = s.groups := rfl
@[simp] theorem State.abandon_sockets (p : Port) : (s.abandon p).sockets = s.sockets := rfl
@[simp] theorem State.abandon_zones (p : Port) : (s.abandon p).zones = s.zones := rfl
@[simp] theorem State.abandon_override (p : Port) : (s.abandon p).override = s.override := rfl
@[simp] theorem State.abandon_clock (p : Port) : (s.abandon p).clock = s.clock := rfl
@[simp] theorem State.abandon_standby (p : Port) : (s.abandon p).standby = s.standby := rfl
@[simp] theorem State.abandon_ports (p : Port) : (s.abandon p).ports = s.ports.set p .idle := rfl
@[simp] theorem State.abandon_events (p : Port) :
    (s.abandon p).events =
      s.events.set p ((s.events.get p).add (s.settings.routing.get p) EventKind.portFault.mask) := rfl
@[simp] theorem State.abandon_contacts (p : Port) : (s.abandon p).contacts = s.contacts := rfl
@[simp] theorem State.abandon_announcement (p : Port) : (s.abandon p).announcement = s.announcement := rfl
@[simp] theorem State.abandon_feeds (p : Port) : (s.abandon p).feeds = s.feeds := rfl

@[simp] theorem State.tick_pending : (s.tick).pending = s.pending := rfl
@[simp] theorem State.tick_held : (s.tick).held = s.held := rfl
@[simp] theorem State.tick_settings : (s.tick).settings = s.settings := rfl
@[simp] theorem State.tick_frozen : (s.tick).frozen = s.frozen := rfl
@[simp] theorem State.tick_delay : (s.tick).delay = s.delay := rfl
@[simp] theorem State.tick_engine : (s.tick).engine = s.engine := rfl
@[simp] theorem State.tick_crosspoints : (s.tick).crosspoints = s.crosspoints := rfl
@[simp] theorem State.tick_gates : (s.tick).gates = s.gates := rfl
@[simp] theorem State.tick_groups : (s.tick).groups = s.groups := rfl
@[simp] theorem State.tick_zones : (s.tick).zones = s.zones := rfl
@[simp] theorem State.tick_standby : (s.tick).standby = s.standby := rfl
@[simp] theorem State.tick_announcement : (s.tick).announcement = s.announcement := rfl
@[simp] theorem State.tick_feeds : (s.tick).feeds = s.feeds := rfl

@[simp] theorem State.deliverLevels_pending (m : MemberInputs) (l : Zone → Option Nat) :
    (s.deliverLevels m l).pending =
      s.pending := rfl
@[simp] theorem State.deliverLevels_held (m : MemberInputs) (l : Zone → Option Nat) :
    (s.deliverLevels m l).held =
      s.held := rfl
@[simp] theorem State.deliverLevels_settings (m : MemberInputs) (l : Zone → Option Nat) :
    (s.deliverLevels m l).settings =
      s.settings := rfl
@[simp] theorem State.deliverLevels_frozen (m : MemberInputs) (l : Zone → Option Nat) :
    (s.deliverLevels m l).frozen =
      s.frozen := rfl
@[simp] theorem State.deliverLevels_delay (m : MemberInputs) (l : Zone → Option Nat) :
    (s.deliverLevels m l).delay =
      s.delay := rfl
@[simp] theorem State.deliverLevels_engine (m : MemberInputs) (l : Zone → Option Nat) :
    (s.deliverLevels m l).engine =
      s.engine := rfl
@[simp] theorem State.deliverLevels_gates (m : MemberInputs) (l : Zone → Option Nat) :
    (s.deliverLevels m l).gates =
      s.gates := rfl
@[simp] theorem State.deliverLevels_groups (m : MemberInputs) (l : Zone → Option Nat) :
    (s.deliverLevels m l).groups =
      s.groups := rfl
@[simp] theorem State.deliverLevels_sockets (m : MemberInputs) (l : Zone → Option Nat) :
    (s.deliverLevels m l).sockets =
      s.sockets := rfl
@[simp] theorem State.deliverLevels_zones (m : MemberInputs) (l : Zone → Option Nat) :
    (s.deliverLevels m l).zones =
      s.zones := rfl
@[simp] theorem State.deliverLevels_override (m : MemberInputs) (l : Zone → Option Nat) :
    (s.deliverLevels m l).override =
      s.override := rfl
@[simp] theorem State.deliverLevels_clock (m : MemberInputs) (l : Zone → Option Nat) :
    (s.deliverLevels m l).clock =
      s.clock := rfl
@[simp] theorem State.deliverLevels_standby (m : MemberInputs) (l : Zone → Option Nat) :
    (s.deliverLevels m l).standby =
      s.standby := rfl
@[simp] theorem State.deliverLevels_ports (m : MemberInputs) (l : Zone → Option Nat) :
    (s.deliverLevels m l).ports =
      s.ports := rfl
@[simp] theorem State.deliverLevels_events (m : MemberInputs) (l : Zone → Option Nat) :
    (s.deliverLevels m l).events =
      s.events := rfl
@[simp] theorem State.deliverLevels_contacts (m : MemberInputs) (l : Zone → Option Nat) :
    (s.deliverLevels m l).contacts =
      s.contacts := rfl
@[simp] theorem State.deliverLevels_announcement (m : MemberInputs) (l : Zone → Option Nat) :
    (s.deliverLevels m l).announcement =
      s.announcement := rfl
@[simp] theorem State.deliverLevels_feeds (m : MemberInputs) (l : Zone → Option Nat) :
    (s.deliverLevels m l).feeds =
      s.feeds := rfl

@[simp] theorem State.startItem_pending (i : Item) (r : List Item) : (s.startItem i r).pending = s.pending := rfl
@[simp] theorem State.startItem_held (i : Item) (r : List Item) : (s.startItem i r).held = s.held := rfl
@[simp] theorem State.startItem_settings (i : Item) (r : List Item) : (s.startItem i r).settings = s.settings := rfl
@[simp] theorem State.startItem_frozen (i : Item) (r : List Item) : (s.startItem i r).frozen = s.frozen := rfl
@[simp] theorem State.startItem_delay (i : Item) (r : List Item) : (s.startItem i r).delay = s.delay := rfl
@[simp] theorem State.startItem_crosspoints (i : Item) (r : List Item) :
    (s.startItem i r).crosspoints =
      s.crosspoints := rfl
@[simp] theorem State.startItem_gates (i : Item) (r : List Item) : (s.startItem i r).gates = s.gates := rfl
@[simp] theorem State.startItem_groups (i : Item) (r : List Item) : (s.startItem i r).groups = s.groups := rfl
@[simp] theorem State.startItem_sockets (i : Item) (r : List Item) : (s.startItem i r).sockets = s.sockets := rfl
@[simp] theorem State.startItem_zones (i : Item) (r : List Item) : (s.startItem i r).zones = s.zones := rfl
@[simp] theorem State.startItem_override (i : Item) (r : List Item) : (s.startItem i r).override = s.override := rfl
@[simp] theorem State.startItem_clock (i : Item) (r : List Item) : (s.startItem i r).clock = s.clock := rfl
@[simp] theorem State.startItem_standby (i : Item) (r : List Item) : (s.startItem i r).standby = s.standby := rfl
@[simp] theorem State.startItem_ports (i : Item) (r : List Item) : (s.startItem i r).ports = s.ports := rfl
@[simp] theorem State.startItem_events (i : Item) (r : List Item) : (s.startItem i r).events = s.events := rfl
@[simp] theorem State.startItem_contacts (i : Item) (r : List Item) : (s.startItem i r).contacts = s.contacts := rfl
@[simp] theorem State.startItem_announcement (i : Item) (r : List Item) :
    (s.startItem i r).announcement =
      s.announcement := rfl
@[simp] theorem State.startItem_feeds (i : Item) (r : List Item) : (s.startItem i r).feeds = s.feeds := rfl

end Sys2Proof.Machine
end

