-- ==== Sys2Proof/Laws/Requests.lean ====
section
/-! SUPPORT. What the two shapes of a command can do: an event acts unless the part is held; a request is served, collides, or
does nothing; and what each check of R180 answers. -/

namespace Sys2Proof.Machine

open Sys2Proof.Safety

/-- A command acts on a part that is not held. -/
theorem occur_of_awake {f : State → State} {s : State} (h : s.held = false) : occur f s = .next (f s) := by
  simp [occur, h]

/-- Nothing reaches a part that is held. -/
theorem occur_of_held {f : State → State} {s : State} (h : s.held = true) : occur f s = .next s := by
  simp [occur, h]

/-- A command always answers a next state. -/
theorem occur_next (f : State → State) (s : State) : ∃ t, occur f s = .next t := ⟨_, rfl⟩

/-- A request that the handler can take is served. -/
theorem State.request_ready {s : State} {p : Port} {kind : Byte} {body : List Byte} {reset : Bool} {f : State → Reply}
    (h : Ready s p kind body) : s.request p kind body reset f = s.serve p kind reset f := by
  obtain ⟨-, h | h⟩ := h <;> simp [State.request, h]

/-- Everything a request can do to a state. -/
theorem State.request_cases (s : State) (p : Port) (kind : Byte) (body : List Byte) (reset : Bool) (f : State → Reply) :
    s.request p kind body reset f = s.serve p kind reset f ∨ s.request p kind body reset f = s.collide p ∨
      s.request p kind body reset f = s := by
  unfold State.request
  split
  · exact .inl rfl
  · exact .inr (.inr rfl)
  · split
    · exact .inl rfl
    · exact .inr (.inl rfl)
  · exact .inr (.inl rfl)

/-- What serving leaves: the state of the reply, with the port sending its answer. -/
theorem State.serve_eq (s : State) (p : Port) (echo : Byte) (reset : Bool) (f : State → Reply) :
    s.serve p echo reset f = (f s).state.setPort p (.responding ⟨echo, (f s).status, (f s).body⟩ reset) := rfl

/-- A request served: its reply becomes the answer. -/
theorem State.request_answer {s : State} {p : Port} {kind : Byte} {body : List Byte} {f : State → Reply}
    (h : Ready s p kind body) :
    s.request p kind body false f = answering (f s).state p kind (f s).status (f s).body := by
  rw [State.request_ready h]; rfl

/-- The event of a request on a part that is not held. -/
theorem occur_request {s : State} {p : Port} {kind : Byte} {body : List Byte} {f : State → Reply}
    (h : Ready s p kind body) :
    occur (fun s => s.request p kind body false (f)) s =
      .next (answering (f s).state p kind (f s).status (f s).body) := by
  rw [occur_of_awake h.1, State.request_answer h]

/-! ### The checks of R180 -/

@[simp] theorem naming_of_length {n size : Nat} {body : List Byte} {s : State} {own : Fin n → Reply}
    (h : body.length ≠ size) : naming size body s own = refuse s .badLength := by
  simp [naming, h]

@[simp] theorem naming_of_index {n size : Nat} {body : List Byte} {s : State} {own : Fin n → Reply}
    (h : body.length = size) (hn : numbered n (natAt body 0) = none) : naming size body s own = refuse s .badIndex := by
  simp [naming, h, hn]

@[simp] theorem naming_of_some {n size : Nat} {body : List Byte} {s : State} {own : Fin n → Reply} {i : Fin n}
    (h : body.length = size) (hn : numbered n (natAt body 0) = some i) : naming size body s own = own i := by
  simp [naming, h, hn]

@[simp] theorem sized_of_length {size : Nat} {body : List Byte} {s : State} {own : Reply} (h : body.length = size) :
    sized size body s own = own := by
  simp [sized, h]

@[simp] theorem sized_of_other {size : Nat} {body : List Byte} {s : State} {own : Reply} (h : body.length ≠ size) :
    sized size body s own = refuse s .badLength := by
  simp [sized, h]

theorem writeEntry_of_length {n size : Nat} {index : BitVec 16} {entry : List Byte} {s : State} {own : Fin n → Reply}
    (h : entry.length ≠ size) : writeEntry size index entry s own = refuse s .badLength := by
  simp [writeEntry, h]

theorem writeEntry_of_index {n size : Nat} {index : BitVec 16} {entry : List Byte} {s : State} {own : Fin n → Reply}
    (h : entry.length = size) (hi : indexed n index.toNat = none) :
    writeEntry size index entry s own = refuse s .badIndex := by
  simp [writeEntry, h, hi]

theorem writeEntry_of_some {n size : Nat} {index : BitVec 16} {entry : List Byte} {s : State} {own : Fin n → Reply}
    {i : Fin n} (h : entry.length = size) (hi : indexed n index.toNat = some i) :
    writeEntry size index entry s own = own i := by
  simp [writeEntry, h, hi]

/-- A number from 1 to `n` names its thing. -/
theorem numbered_of_le {n v : Nat} (h1 : 1 ≤ v) (h2 : v ≤ n) : numbered n v = some ⟨v - 1, by omega⟩ := by
  simp [numbered, h1, h2]

/-- 0 and the numbers above `n` name nothing. -/
theorem numbered_eq_none {n v : Nat} : numbered n v = none ↔ v = 0 ∨ n < v := by
  simp only [numbered, dite_eq_right_iff, reduceCtorEq, imp_false]
  omega

/-- An index below `n` names its entry. -/
theorem indexed_of_lt {n v : Nat} (h : v < n) : indexed n v = some ⟨v, h⟩ := by simp [indexed, h]

/-- An index at or beyond `n` names nothing. -/
theorem indexed_eq_none {n v : Nat} : indexed n v = none ↔ n ≤ v := by
  simp [indexed]

/-- The byte that names thing `i` is read as thing `i`, for counts that fit in a byte. -/
theorem numbered_numberByte {n : Nat} (i : Fin n) (hn : n < 256) : numbered n (numberByte i).toNat = some i := by
  have : (numberByte i).toNat = i.val + 1 := by
    simp [numberByte, byteOf]; omega
  rw [this, numbered_of_le (by omega) (by omega)]
  simp

/-! ### The replies -/

@[simp] theorem refuse_state (s : State) (st : Status) : (refuse s st).state = s := rfl
@[simp] theorem refuse_status (s : State) (st : Status) : (refuse s st).status = st := rfl
@[simp] theorem refuse_body (s : State) (st : Status) : (refuse s st).body = [] := rfl
@[simp] theorem accept_state (s : State) : (accept s).state = s := rfl
@[simp] theorem accept_status (s : State) : (accept s).status = .ok := rfl
@[simp] theorem accept_body (s : State) : (accept s).body = [] := rfl
@[simp] theorem acceptClamped_state (b : Bool) (s : State) : (acceptClamped b s).state = s := rfl
@[simp] theorem acceptClamped_status (b : Bool) (s : State) :
    (acceptClamped b s).status = if b then .okClamped else .ok := rfl
@[simp] theorem acceptClamped_body (b : Bool) (s : State) : (acceptClamped b s).body = [] := rfl

end Sys2Proof.Machine
end

