-- ==== Sys2Proof/Laws/Frames.lean ====
section
/-! SUPPORT. What the operations of the gate unit and the arbiter do and leave alone: an operation that acts through `onMix`
changes gates, groups and sticky sets and nothing else. What the tests of a sensing's readings, of an overcurrent and of an
edge say. -/

namespace Sys2Proof.Machine

/-- Two states that differ at most in their gates, their groups and their sticky sets. -/
structure OnlyMix (s t : State) : Prop where
  pending : t.pending = s.pending
  held : t.held = s.held
  settings : t.settings = s.settings
  frozen : t.frozen = s.frozen
  delay : t.delay = s.delay
  engine : t.engine = s.engine
  crosspoints : t.crosspoints = s.crosspoints
  sockets : t.sockets = s.sockets
  zones : t.zones = s.zones
  override : t.override = s.override
  clock : t.clock = s.clock
  standby : t.standby = s.standby
  ports : t.ports = s.ports
  contacts : t.contacts = s.contacts
  announcement : t.announcement = s.announcement
  feeds : t.feeds = s.feeds

theorem OnlyMix.refl (s : State) : OnlyMix s s :=
  ⟨rfl, rfl, rfl, rfl, rfl, rfl, rfl, rfl, rfl, rfl, rfl, rfl, rfl, rfl, rfl, rfl⟩

theorem OnlyMix.trans {s t u : State} (h : OnlyMix s t) (k : OnlyMix t u) : OnlyMix s u :=
  ⟨k.1.trans h.1, k.2.trans h.2, k.3.trans h.3, k.4.trans h.4, k.5.trans h.5, k.6.trans h.6, k.7.trans h.7,
    k.8.trans h.8, k.9.trans h.9, k.10.trans h.10, k.11.trans h.11, k.12.trans h.12, k.13.trans h.13, k.14.trans h.14,
    k.15.trans h.15, k.16.trans h.16⟩

/-- Acting on gates and groups leaves the rest. -/
theorem OnlyMix.onMix (s : State) (f : Mix → Mix) : OnlyMix s (s.onMix f) :=
  ⟨rfl, rfl, rfl, rfl, rfl, rfl, rfl, rfl, rfl, rfl, rfl, rfl, rfl, rfl, rfl, rfl⟩

/-- Posting leaves the rest. -/
theorem OnlyMix.post (s : State) (k : EventKind) : OnlyMix s (s.post k) :=
  ⟨rfl, rfl, rfl, rfl, rfl, rfl, rfl, rfl, rfl, rfl, rfl, rfl, rfl, rfl, rfl, rfl⟩

/-- A re-evaluation of eligibility leaves the rest (R85). -/
theorem OnlyMix.reEvaluate (s : State) (n : Channel) : OnlyMix s (s.reEvaluate n) := by
  unfold State.reEvaluate
  split
  · split
    · exact .onMix _ _
    · exact .refl _
  · split
    · exact .refl _
    · exact .onMix _ _

theorem OnlyMix.reEvaluateAll (ns : List Channel) (s : State) : OnlyMix s (s.reEvaluateAll ns) := by
  unfold State.reEvaluateAll
  induction ns generalizing s with
  | nil => exact .refl _
  | cons n ns ih => exact (OnlyMix.reEvaluate s n).trans (ih _)

theorem OnlyMix.parkIneligible (ns : List Channel) (s : State) : OnlyMix s (s.parkIneligible ns) := by
  unfold State.parkIneligible
  induction ns generalizing s with
  | nil => exact .refl _
  | cons n ns ih =>
    refine OnlyMix.trans ?_ (ih _)
    dsimp only
    split
    · exact .refl _
    · exact .onMix _ _

/-- A re-evaluation of an effective mode leaves the rest (R92). -/
theorem OnlyMix.reMode (s : State) (n : Channel) : OnlyMix s (s.reMode n) := .onMix _ _

/-- Being live depends on no gate, but on the open sets. -/
theorem State.live_congr {s t : State} (hs : t.settings = s.settings) (hg : t.groups = s.groups)
    (hz : t.zones = s.zones) (hb : t.standby = s.standby) (n : Channel) (j : Zone) : t.live n j = s.live n j := by
  unfold State.live
  rw [hs, hg, hz, hb]

/-! ### The gates under the arbiter's operations -/

namespace Mix

@[simp] theorem post_gates (k : EventKind) (m : Mix) : (m.post k).gates = m.gates := rfl
@[simp] theorem post_groups (k : EventKind) (m : Mix) : (m.post k).groups = m.groups := rfl
@[simp] theorem onGate_gates (n : Channel) (f : Gate → Gate) (m : Mix) : (m.onGate n f).gates = m.gates.modify n f := rfl
@[simp] theorem onGate_groups (n : Channel) (f : Gate → Gate) (m : Mix) : (m.onGate n f).groups = m.groups := rfl
@[simp] theorem onGate_posted (n : Channel) (f : Gate → Gate) (m : Mix) : (m.onGate n f).posted = m.posted := rfl
@[simp] theorem onGroup_gates (g : Group) (f : GroupState → GroupState) (m : Mix) : (m.onGroup g f).gates = m.gates := rfl
@[simp] theorem onGroup_groups (g : Group) (f : GroupState → GroupState) (m : Mix) :
    (m.onGroup g f).groups = m.groups.modify g f := rfl
@[simp] theorem onGroup_posted (g : Group) (f : GroupState → GroupState) (m : Mix) :
    (m.onGroup g f).posted = m.posted := rfl
@[simp] theorem setState_groups (n : Channel) (st : GateState) (m : Mix) : (m.setState n st).groups = m.groups := rfl
@[simp] theorem setState_posted (n : Channel) (st : GateState) (m : Mix) : (m.setState n st).posted = m.posted := rfl
@[simp] theorem unwait_gates (n : Channel) (m : Mix) : (m.unwait n).gates = m.gates := rfl
@[simp] theorem unwait_posted (n : Channel) (m : Mix) : (m.unwait n).posted = m.posted := rfl
@[simp] theorem setKind_gates (n : Channel) (k : EntryKind) (m : Mix) : (m.setKind n k).gates = m.gates := rfl
@[simp] theorem setKind_posted (n : Channel) (k : EntryKind) (m : Mix) : (m.setKind n k).posted = m.posted := rfl

/-- A gate put into a state in which the hold counter is 0. -/
theorem setState_get_self (n : Channel) (st : GateState) (m : Mix) :
    (m.setState n st).gates.get n = { m.gates.get n with state := st, holdCounter := 0 } := by
  simp [setState]

/-- The other gates are left. -/
theorem setState_get_other {n k : Channel} (st : GateState) (m : Mix) (h : n ≠ k) :
    (m.setState n st).gates.get k = m.gates.get k := by
  simp [setState, Table.get_modify_other _ _ h]

/-- A channel that joins a set is OPEN. -/
theorem join_get_self (g : Group) (n : Channel) (kind : EntryKind) (m : Mix) :
    (m.join g n kind).gates.get n = { m.gates.get n with state := .opened, holdCounter := 0 } := by
  simp [join, setState]

/-- The other gates are left by a join. -/
theorem join_get_other {n k : Channel} (g : Group) (kind : EntryKind) (m : Mix) (h : n ≠ k) :
    (m.join g n kind).gates.get k = m.gates.get k := by
  simp [join, setState, Table.get_modify_other _ _ h]

/-- The gate of a channel taken out of its set. -/
theorem evict_get_self (n : Channel) (st : GateState) (m : Mix) :
    (m.evict n st).gates.get n = { m.gates.get n with state := st, holdCounter := 0 } := by
  unfold evict
  split <;> simp [setState]

/-- The other gates are left by an eviction. -/
theorem evict_get_other {n k : Channel} (st : GateState) (m : Mix) (h : n ≠ k) :
    (m.evict n st).gates.get k = m.gates.get k := by
  unfold evict
  split <;> simp [setState, Table.get_modify_other _ _ h]

/-- Everything that a granted FORCED candidate can do to its set (R114, R116): enter beside the LAST_ON member, into room, or
for the quietest AUTO member. -/
theorem enterForced_cases {maxOpen : Nat} {g : Group} (n : Channel) {m : Mix} (h : m.grantable maxOpen g = true) :
    (∃ y, m.lastOnMember g = some y ∧ m.enterForced maxOpen g n = (m.evict y.channel .closed).join g n .forced) ∨
    (m.lastOnMember g = none ∧ (m.groups.get g).openCount < maxOpen ∧ m.enterForced maxOpen g n = m.join g n .forced) ∨
    (m.lastOnMember g = none ∧ ¬(m.groups.get g).openCount < maxOpen ∧ ∃ v,
      quietest (m.groups.get g).members = some v ∧
        m.enterForced maxOpen g n = (m.evict v.channel .closed).join g n .forced) := by
  unfold enterForced
  cases hl : m.lastOnMember g with
  | some y => exact .inl ⟨y, rfl, rfl⟩
  | none =>
    by_cases hr : (m.groups.get g).openCount < maxOpen
    · exact .inr (.inl ⟨rfl, hr, by simp [hr]⟩)
    · cases hq : quietest (m.groups.get g).members with
      | none => simp [grantable, hl, hr, hq] at h
      | some v => exact .inr (.inr ⟨rfl, hr, v, rfl, by simp [hr]⟩)

/-- A forced ask from any cause but a SET_GATE_MODE is granted or waits (R114, R115). -/
theorem askForced_of_group {c : Settings} {n : Channel} {g : Group} (m : Mix) (h : c.channelGroup n = some g) :
    m.askForced c n = if m.grantable (c.groupRecord g).maxOpen g then m.enterForced (c.groupRecord g).maxOpen g n
      else m.enqueueWaiting g n := by
  simp [askForced, h]

/-- An offer to an empty forced-wait list does nothing (R115). -/
theorem offer_of_none {c : Settings} {g : Group} {m : Mix} (h : (m.groups.get g).waiting = []) : m.offer c g = m := by
  simp [offer, h, offerList]

/-- A channel that is in no open set leaves its forced-wait list alone (R94, R115). -/
theorem leave_of_none {c : Settings} {n : Channel} (st : GateState) {m : Mix} (h : memberGroup m.groups n = none) :
    m.leave c n st = (m.unwait n).setState n st := by
  simp [leave, h]

end Mix

/-! ### Sockets and the clock monitor -/

/-- What an overcurrent is (R133). -/
theorem SocketPhase.overcurrent_iff (x : PhantomCurrent) (ph : SocketPhase) :
    ph.overcurrent x = true ↔ 12000 < x.microamps ∧ 240 ≤ x.lasted ∧
      (ph = .powered ∨ ∃ k, ph = .ramping k ∧ k + 240 ≤ 9600) := by
  simp only [overcurrent, Config.overcurrentMicroamps, Config.overcurrentTime, Config.samplesPerMs, Bool.and_eq_true,
    decide_eq_true_eq]
  cases ph <;> simp [currentTime, Config.phantomRampTime, Config.samplesPerMs]
  omega

/-- Where phantom is neither applied nor rising, the supply stands at 0 V (R132). -/
theorem SocketPhase.volts_of_off {ph : SocketPhase} (h : ph.phantomOn = false) : ph.volts = 0 := by
  cases ph <;> simp_all [phantomOn, volts]

@[simp] theorem SocketPhase.volts_powered : SocketPhase.powered.volts = 48 := rfl

/-- The straight line of a ramp (R132): 1/200 V for each sample that it has run. -/
theorem SocketPhase.volts_ramping {k : Nat} (h : k ≤ 9600) : (SocketPhase.ramping k).volts * 200 = 9600 - k := by
  simp only [volts, Config.phantomVolts, Config.phantomRampTime, Config.samplesPerMs]
  push_cast [h]
  ring

/-- When a later reading of the common-mode path has changed from an earlier one by more than 10 % (R130, log 34). -/
theorem pathChanged_eq_false_iff (a b : Option Nat) : pathChanged a b = false ↔ Safety.WithinATenth a b := by
  cases a <;> cases b <;> simp only [pathChanged, Safety.WithinATenth, Int.abs_eq_natAbs, decide_eq_false_iff_not, reduceCtorEq]
  omega

/-- When the readings of the common-mode path are steady (R130): each within a tenth of every one before it. -/
theorem pathUnsteady_eq_false_iff (l : List (Option Nat)) :
    pathUnsteady l = false ↔ l.Pairwise (fun a b => Safety.WithinATenth a b) := by
  induction l with
  | nil => simp [pathUnsteady]
  | cons a rest ih => simp [pathUnsteady, List.pairwise_cons, ih, pathChanged_eq_false_iff]

/-- When an edge is valid (R159). -/
theorem Clock.validEdge_iff (c : Clock) (period : Nat) :
    c.validEdge period = true ↔ c.edgeSeen = true ∧ 19800 ≤ period ∧ period ≤ 21900 := by
  simp [validEdge, Config.edgeMinNs, Config.edgeMaxNs]

/-- The edges kept after a valid one (R159): that edge, and those of the 480 samples before it. -/
theorem mem_noteValid (period : Nat) (edges : List Edge) (e : Edge) :
    e ∈ noteValid period edges ↔ e = ⟨period, 0⟩ ∨ (e ∈ edges ∧ e.age < 480) := by
  simp [noteValid, Config.frequencyWindow, Config.samplesPerMs]

/-! ### Engine -/

@[simp] theorem Engine.askChannel_flight (n : Channel) (e : Engine) : (e.askChannel n).flight = e.flight := rfl
@[simp] theorem Engine.askChannel_reported (n : Channel) (e : Engine) : (e.askChannel n).reported = e.reported := rfl
@[simp] theorem Engine.askChannel_inUse (n : Channel) (e : Engine) : (e.askChannel n).inUse = e.inUse := rfl
@[simp] theorem Engine.askGroup_flight (g : Group) (e : Engine) : (e.askGroup g).flight = e.flight := rfl
@[simp] theorem Engine.askGroup_aligned (g : Group) (e : Engine) : (e.askGroup g).aligned = e.aligned := rfl
@[simp] theorem Engine.askGroup_reported (g : Group) (e : Engine) : (e.askGroup g).reported = e.reported := rfl
@[simp] theorem Engine.askGroup_inUse (g : Group) (e : Engine) : (e.askGroup g).inUse = e.inUse := rfl

/-- Where a CHANNEL or GROUP item goes when it is asked (R42). -/
theorem mergeItem_cases (i : Item) (q : List Item) :
    (mergeItem i q = q ∧ (Item.all ∈ q ∨ i ∈ q)) ∨ (mergeItem i q = q ++ [i] ∧ Item.all ∉ q ∧ i ∉ q) := by
  unfold mergeItem
  by_cases h : (q.contains .all || q.contains i) = true
  · rw [if_pos h]
    simp only [Bool.or_eq_true, List.contains_iff_mem] at h
    exact .inl ⟨rfl, h⟩
  · rw [if_neg h]
    simp only [Bool.or_eq_true, List.contains_iff_mem, not_or] at h
    exact .inr ⟨rfl, h⟩

/-- The GROUP asks of R111 leave everything of the engine but the queue. -/
theorem Engine.askCounts_frame (a b : Table 6 GroupState) (e : Engine) :
    (e.askCounts a b).flight = e.flight ∧ (e.askCounts a b).aligned = e.aligned ∧
      (e.askCounts a b).reported = e.reported ∧ (e.askCounts a b).inUse = e.inUse ∧
      (e.askCounts a b).tempUnset = e.tempUnset := by
  unfold Engine.askCounts
  generalize List.finRange 6 = gs
  induction gs generalizing e with
  | nil => exact ⟨rfl, rfl, rfl, rfl, rfl⟩
  | cons g gs ih =>
    simp only [List.foldl_cons]
    split
    · exact ih e
    · exact ih (e.askGroup g)

/-- While ALL is queued the GROUP asks of R111 are not added. -/
theorem Engine.askCounts_of_all (a b : Table 6 GroupState) {e : Engine} (h : Item.all ∈ e.queue) :
    e.askCounts a b = e := by
  unfold Engine.askCounts
  generalize List.finRange 6 = gs
  induction gs with
  | nil => rfl
  | cons g gs ih =>
    simp only [List.foldl_cons]
    split
    · exact ih
    · have : e.askGroup g = e := by
        unfold Engine.askGroup mergeItem
        simp [h]
      rw [this]; exact ih

/-- Equal open counts ask for nothing. -/
theorem Engine.askCounts_of_same {a b : Table 6 GroupState} (e : Engine)
    (h : ∀ g, (a.get g).openCount = (b.get g).openCount) : e.askCounts a b = e := by
  unfold Engine.askCounts
  generalize List.finRange 6 = gs
  induction gs with
  | nil => rfl
  | cons g gs ih => simp only [List.foldl_cons, h g, if_true]; exact ih

end Sys2Proof.Machine
end

