-- ==== Sys2Proof/Laws/Memory.lean ====
section
/-! SUPPORT. Delay memory: reading after writing and after clearing, and that every operation keeps the canonical form. -/

namespace Sys2Proof.Machine

/-- The canonical form of a list with a first cell. -/
theorem wfCells_cons (a : Nat) (v : Sample) (rest : List (Nat × Sample)) :
    wfCells ((a, v) :: rest) = true ↔ v ≠ 0 ∧ (∀ c ∈ rest, a < c.1) ∧ wfCells rest = true := by
  induction rest generalizing a v with
  | nil => simp [wfCells]
  | cons c rest ih =>
    obtain ⟨b, w⟩ := c
    have hb := ih b w
    constructor
    · intro h
      simp only [wfCells, Bool.and_eq_true, bne_iff_ne, ne_eq, decide_eq_true_eq] at h
      obtain ⟨⟨hv, hab⟩, hr⟩ := h
      refine ⟨hv, ?_, hr⟩
      intro c hc
      rcases List.mem_cons.1 hc with rfl | hc
      · exact hab
      · exact Nat.lt_trans hab ((hb.1 hr).2.1 c hc)
    · rintro ⟨hv, hlt, hr⟩
      have := hlt (b, w) (by simp)
      simp only [wfCells, Bool.and_eq_true, bne_iff_ne, ne_eq, decide_eq_true_eq]
      exact ⟨⟨hv, this⟩, hr⟩

/-- A cell below every listed cell holds silence. -/
theorem readCell_below {cells : List (Nat × Sample)} {a : Nat} (h : ∀ c ∈ cells, a < c.1) : readCell cells a = 0 := by
  induction cells with
  | nil => rfl
  | cons c rest ih =>
    obtain ⟨b, w⟩ := c
    have hb := h (b, w) (by simp)
    simp only [readCell]
    rw [if_neg (by simp at hb; omega)]
    exact ih fun c hc => h c (List.mem_cons_of_mem _ hc)

/-- The addresses of a written list are the written one and the old ones. -/
theorem mem_writeCell {cells : List (Nat × Sample)} {a : Nat} {v : Sample} {c : Nat × Sample}
    (h : c ∈ writeCell cells a v) : c = (a, v) ∨ c ∈ cells := by
  induction cells with
  | nil => simp only [writeCell] at h; split at h <;> simp_all
  | cons d rest ih =>
    obtain ⟨b, w⟩ := d
    simp only [writeCell] at h
    split at h
    · split at h
      · exact .inr h
      · simpa using h
    · split at h
      · split at h
        · exact .inr (List.mem_cons_of_mem _ h)
        · rcases List.mem_cons.1 h with h | h
          · exact .inl h
          · exact .inr (List.mem_cons_of_mem _ h)
      · rcases List.mem_cons.1 h with h | h
        · exact .inr (by simp [h])
        · rcases ih h with h | h
          · exact .inl h
          · exact .inr (List.mem_cons_of_mem _ h)

/-- A write keeps the canonical form. -/
theorem wfCells_writeCell {cells : List (Nat × Sample)} (a : Nat) (v : Sample) (h : wfCells cells = true) :
    wfCells (writeCell cells a v) = true := by
  induction cells with
  | nil => simp only [writeCell]; split <;> simp_all [wfCells]
  | cons d rest ih =>
    obtain ⟨b, w⟩ := d
    obtain ⟨hw, hlt, hr⟩ := (wfCells_cons b w rest).1 h
    simp only [writeCell]
    split
    · rename_i hab
      split
      · exact h
      · rename_i hv
        refine (wfCells_cons _ _ _).2 ⟨hv, ?_, h⟩
        intro c hc
        rcases List.mem_cons.1 hc with rfl | hc
        · exact hab
        · exact Nat.lt_trans hab (hlt c hc)
    · split
      · rename_i hab
        subst hab
        split
        · exact hr
        · rename_i hv
          exact (wfCells_cons _ _ _).2 ⟨hv, hlt, hr⟩
      · refine (wfCells_cons _ _ _).2 ⟨hw, ?_, ih hr⟩
        intro c hc
        rcases mem_writeCell hc with rfl | hc
        · simp; omega
        · exact hlt c hc

/-- Clearing keeps the canonical form. -/
theorem wfCells_clearCells {cells : List (Nat × Sample)} (lo hi : Nat) (h : wfCells cells = true) :
    wfCells (clearCells cells lo hi) = true := by
  induction cells with
  | nil => exact h
  | cons d rest ih =>
    obtain ⟨b, w⟩ := d
    obtain ⟨hw, hlt, hr⟩ := (wfCells_cons b w rest).1 h
    have ih := ih hr
    simp only [clearCells, List.filter_cons] at *
    split
    · exact (wfCells_cons _ _ _).2 ⟨hw, fun c hc => hlt c (List.mem_filter.1 hc).1, ih⟩
    · exact ih

/-- A cell reads what was written to it. -/
theorem readCell_writeCell_same {cells : List (Nat × Sample)} (a : Nat) (v : Sample) (h : wfCells cells = true) :
    readCell (writeCell cells a v) a = v := by
  induction cells with
  | nil => simp only [writeCell]; split <;> simp_all [readCell]
  | cons d rest ih =>
    obtain ⟨b, w⟩ := d
    obtain ⟨hw, hlt, hr⟩ := (wfCells_cons b w rest).1 h
    simp only [writeCell]
    split
    · rename_i hab
      split
      · rename_i hv
        rw [hv]
        refine readCell_below fun c hc => ?_
        rcases List.mem_cons.1 hc with rfl | hc
        · exact hab
        · exact Nat.lt_trans hab (hlt c hc)
      · simp [readCell]
    · split
      · rename_i hab
        subst hab
        split
        · rename_i hv
          rw [hv]
          exact readCell_below hlt
        · simp [readCell]
      · rename_i hne
        simp only [readCell, if_neg hne]
        exact ih hr

/-- A write leaves every other cell as it reads. -/
theorem readCell_writeCell_other {cells : List (Nat × Sample)} {a b : Nat} (v : Sample) (hne : b ≠ a)
    (h : wfCells cells = true) : readCell (writeCell cells a v) b = readCell cells b := by
  induction cells with
  | nil => simp only [writeCell]; split <;> simp [readCell, hne]
  | cons d rest ih =>
    obtain ⟨c, w⟩ := d
    obtain ⟨hw, hlt, hr⟩ := (wfCells_cons c w rest).1 h
    simp only [writeCell]
    split
    · split
      · rfl
      · simp only [readCell, if_neg hne]
    · split
      · rename_i hac
        subst hac
        split
        · simp only [readCell, if_neg hne]
        · simp only [readCell, if_neg hne]
      · simp only [readCell]
        split
        · rfl
        · exact ih hr

/-- A cleared cell reads silence; every other cell reads as before. -/
theorem readCell_clearCells {cells : List (Nat × Sample)} (lo hi a : Nat) :
    readCell (clearCells cells lo hi) a = if lo ≤ a ∧ a < hi then 0 else readCell cells a := by
  induction cells with
  | nil => simp [clearCells, readCell]
  | cons d rest ih =>
    obtain ⟨b, w⟩ := d
    simp only [clearCells, List.filter_cons, readCell] at *
    by_cases hab : a = b
    · subst hab
      by_cases hr : lo ≤ a ∧ a < hi
      · rw [if_pos hr]
        rw [if_pos hr] at ih
        rw [if_neg (by simp [hr])]
        exact ih
      · simp only [if_neg hr]
        rw [if_pos (by simp; omega)]
        simp [readCell]
    · rw [if_neg hab]
      split
      · simp only [readCell, if_neg hab]; exact ih
      · exact ih

/-! ### The operations of delay memory -/

/-- Storing a sample keeps the canonical form. -/
theorem DelayMemory.wf_store (c : ChannelRec) (n : Channel) (v : Sample) {m : DelayMemory} (h : m.wf = true) :
    (m.store c n v).wf = true := by
  unfold DelayMemory.store DelayMemory.wf at *
  split
  · exact h
  · exact wfCells_writeCell _ _ h

/-- A new window keeps the canonical form. -/
theorem DelayMemory.wf_newWindow (c : ChannelRec) (n : Channel) {m : DelayMemory} (h : m.wf = true) :
    (m.newWindow c n).wf = true :=
  wfCells_clearCells _ _ h

/-- Storing every channel's sample keeps the canonical form. -/
theorem DelayMemory.wf_storeAll (c : Settings) (slots : Table 17 Sample) {m : DelayMemory} (h : m.wf = true) :
    (m.storeAll c slots).wf = true := by
  unfold DelayMemory.storeAll
  generalize List.finRange 16 = ns
  induction ns generalizing m with
  | nil => exact h
  | cons n ns ih => exact ih (DelayMemory.wf_store _ _ _ h)

/-- Silent delay memory is canonical. -/
theorem DelayMemory.wf_silent : DelayMemory.silent.wf = true := rfl

/-- The memory after reset is canonical. -/
theorem State.reset_delay_wf : State.reset.delay.wf = true := rfl

/-- What storing a sample does to the cells: the cell at the write position takes it. -/
theorem DelayMemory.store_cells {c : ChannelRec} (n : Channel) (v : Sample) (m : DelayMemory)
    (h : c.windowSamples ≠ 0) :
    (m.store c n v).cells = writeCell m.cells (c.firstCell + m.position.get n) v := by
  simp [DelayMemory.store, h]

/-- What storing a sample does to the channel's write position. -/
theorem DelayMemory.store_position {c : ChannelRec} (n : Channel) (v : Sample) (m : DelayMemory)
    (h : c.windowSamples ≠ 0) :
    (m.store c n v).position.get n = (m.position.get n + 1) % c.windowSamples := by
  simp [DelayMemory.store, h]

/-- Storing a sample of one channel leaves the other channels' write positions. -/
theorem DelayMemory.store_position_other {c : ChannelRec} {n k : Channel} (v : Sample) (m : DelayMemory)
    (h : n ≠ k) : (m.store c n v).position.get k = m.position.get k := by
  unfold DelayMemory.store
  split
  · rfl
  · exact Table.get_set_other _ _ h

end Sys2Proof.Machine
end

