-- ==== Sys2Proof/WellFormed.lean ====
section
/-! DEFINITION. When a command is well formed: its operands are ones the outside can bring, and they are this row's and not
another row's. `exec` has a meaning for ill-formed commands too: they change nothing, or are answered as R180 gives. -/

namespace Sys2Proof

/-- A body that fits in a request frame (R173). -/
def bodyFits (body : List Byte) : Bool := body.length ≤ 249

/-- An entry that fits in a request frame after its table and index (R173). -/
def entryFits (entry : List Byte) : Bool := entry.length ≤ 246

/-- A SET_SOCKET_POWER body whose value is off (R137). -/
def offBody (body : List Byte) : Bool := body.length == 2 && Machine.natAt body 1 == 0

/-- The operands are ones that the outside can bring, and this row's. -/
def Instr.wellFormed : Instr → Bool
  | .readEntry _ body => bodyFits body
  | .writeEntryStation _ _ entry => entryFits entry
  | .writeEntryZone _ _ entry => entryFits entry
  | .writeEntryChannel _ _ entry => entryFits entry
  | .writeEntryGroup _ _ entry => entryFits entry
  | .writeEntryMembership _ _ entry => entryFits entry
  | .writeEntryProfile _ _ entry => entryFits entry
  | .writeEntryContactIn _ _ entry => entryFits entry
  | .writeEntryContactOut _ _ entry => entryFits entry
  | .writeEntryPortRouting _ _ entry => entryFits entry
  | .writeEntrySystem _ _ entry => entryFits entry
  | .writeEntryReadOnly _ body => bodyFits body && !Machine.writableBody body
  | .moveSource _ body => bodyFits body
  | .setGateMode _ body => bodyFits body
  | .setTemperature _ body => bodyFits body
  | .selectArrangement _ body => bodyFits body
  | .holdGroup _ body => bodyFits body
  | .releaseGroup _ body => bodyFits body
  | .breakHold _ body => bodyFits body
  | .zoneMute _ body => bodyFits body
  | .setSocketPowerOn _ body => bodyFits body && !offBody body
  | .setSocketPowerOff _ body => bodyFits body && (body.length != 2 || offBody body)
  | .resenseSocket _ body => bodyFits body
  | .readEvents _ body => bodyFits body
  | .clearEvents _ body => bodyFits body
  | .forceEvents _ body => bodyFits body
  | .resumeAfterOverride _ body => bodyFits body
  | .rearmOutputs _ body => bodyFits body
  | .freezeGeometry _ body => bodyFits body
  | .standby _ body => bodyFits body
  | .wake _ body => bodyFits body
  | .resetRuntime _ body => bodyFits body
  | .runtimeReset _ => true
  | .powerOnReset => true
  | .unknownRequest _ kind body => bodyFits body && !Machine.knownKind kind
  | .badCheck _ frame => Machine.badFrame frame
  | .frameAbandoned _ _ => true
  | .interByteTimeout _ => true
  | .byteDuringService _ => true
  | .responseEnd _ => true
  | .itemStart => true
  | .channelItemComplete _ => true
  | .allItemComplete => true
  | .groupItemComplete _ => true
  | .rampEnd _ _ => true
  | .crossfadeEnd _ _ => true
  | .measurementComplete _ => true
  | .holdCountdownEnd _ => true
  | .insertion _ => true
  | .sensingEnd _ _ => true
  | .phantomRampEnd _ => true
  | .overcurrent _ => true
  | .removal _ => true
  | .overrideAssertion => true
  | .overrideDeassertion => true
  | .wordClockEdge periodNs => periodNs != 0
  | .qualificationComplete => true
  | .clockGap => true
  | .contactChange _ => true
  | .pulseEnd _ => true
  | .outputSample => true
  | .inputSample _ => true
  | .byteReceived _ _ => true
  | .heldInReset => true
  | .rawPresenceChange _ _ => true
  | .rawLineChange _ => true
  | .rawContactChange _ _ => true

end Sys2Proof
end

