-- ==== Sys2Proof/Tests/Slice0.lean ====
section
/-! SUPPORT. Tests: ill-formed commands that are refused, single steps against the worked examples of spec/, and for every
statement with hypotheses a state and operands that meet them. Expected values stand in the manual. -/

open Sys2Proof Sys2Proof.Machine Sys2Proof.Safety

namespace Sys2Proof.Tests

/- Each test is a kernel evaluation; one after the other they take less memory. -/
set_option Elab.async false

/-- An outcome that is a next state with a property. -/
def next (o : Host.Outcome State Fault Refusal) (q : State → Bool) : Bool :=
  match o with
  | .next t => q t
  | .fault _ => false
  | .refused _ => false

/-- The response that a port is sending, or none. -/
def answer (p : Port) (s : State) : Option (Status × List Byte) :=
  match s.ports.get p with
  | .responding r _ => some (r.status, r.body)
  | _ => none

/-- Every channel at S1, aligned, with a dynamic microphone, in G1; the gates as given; one open set and one wait list. -/
def stage (members : List Member) (waiting : List Channel) (gate : Channel → GateState × GateMode × Nat) : State :=
  { State.reset with
    engine := ⟨[], none, 150, 150, false, .ofFn fun _ => true⟩
    sockets := .ofFn fun _ => ⟨.present .dynamic, false, false, true, true, none⟩
    gates := .ofFn fun n => ⟨(gate n).1, (gate n).2.2, (gate n).2.1, (gate n).2.1, some 0, 240, .fresh⟩
    groups := State.reset.groups.set 0 ⟨none, members, waiting⟩ }

/-- The stage with no channel open. -/
def quiet : State := stage [] [] fun _ => (.closed, .auto, 0)

/-- The stage with M1 open as an AUTO member. -/
def oneOpen : State := stage [⟨0, .auto, 72⟩] [] fun n => (if n = 0 then .opened else .closed, .auto, 0)

/-- A state with a record of G1 in the first arrangement. -/
def ruled (r : GroupRec) (s : State) : State :=
  { s with settings := { s.settings with groups := s.settings.groups.set 0 ((s.settings.groups.get 0).set 0 r) } }

/-- The stage with a record of G1 and the set of the worked example of section 6.6: M1 72, M2 104 in HOLDING, M3 forced. -/
def nave : State :=
  let s := stage [⟨0, .auto, 72⟩, ⟨1, .auto, 104⟩, ⟨2, .forced, 88⟩] [] fun n =>
    if n = 0 then (.opened, .auto, 0) else if n = 1 then (.holding, .auto, 7)
    else if n = 2 then (.opened, .forceOpen, 0) else (.closed, .auto, 0)
  { s with settings := { s.settings with
      groups := s.settings.groups.set 0 ((s.settings.groups.get 0).set 0 ⟨true, 0, 3, false⟩) } }

/-- A state whose channel Mn has a completed block of a sum of squares. -/
def heard (n : Channel) (sum : Nat) (s : State) : State :=
  { s with gates := s.gates.modify n fun g => { g with detector := { g.detector with done := some sum } } }

/-- A state with one crosspoint in a phase, its target and computed level `t` and its active delay `d`. -/
def crosspoint (n : Channel) (j : Zone) (ph : Phase) (t : Option Nat) (d : Nat) (s : State) : State :=
  { s with crosspoints := s.crosspoints.modify n fun row =>
      row.set j { row.get j with phase := ph, target := t, computedLevel := t, activeDelay := d } }

/-! ### Well-formedness refuses -/

theorem test_wellFormed_body : Instr.wellFormed (.moveSource .A (List.replicate 250 0)) = false := by decide +kernel
theorem test_wellFormed_bodyLimit : Instr.wellFormed (.moveSource .A (List.replicate 249 0)) = true := by decide +kernel
theorem test_wellFormed_entry : Instr.wellFormed (.writeEntryZone .B 0 (List.replicate 247 0)) = false := by decide +kernel
theorem test_wellFormed_writable : Instr.wellFormed (.writeEntryReadOnly .A [2, 0, 0]) = false := by decide
theorem test_wellFormed_readOnly : Instr.wellFormed (.writeEntryReadOnly .A [12, 0, 0]) = true := by decide
theorem test_wellFormed_off : Instr.wellFormed (.setSocketPowerOn .A [1, 0]) = false := by decide
theorem test_wellFormed_on : Instr.wellFormed (.setSocketPowerOff .A [1, 1]) = false := by decide
theorem test_wellFormed_kind : Instr.wellFormed (.unknownRequest .A 0x15 []) = false := by decide
theorem test_wellFormed_frame : Instr.wellFormed (.badCheck .A [0x01, 0x0D, 0xFF, 0x93]) = false := by decide +kernel
theorem test_wellFormed_badFrame : Instr.wellFormed (.badCheck .A [0x01, 0x0D, 0xFF, 0x94]) = true := by decide +kernel
theorem test_wellFormed_edge : Instr.wellFormed (.wordClockEdge 0) = false := by decide

/-! ### No row has bits (log 18) -/

theorem test_noWordSpellsACommand : decodeTableWord 32 0xA5 = none := by decide
theorem test_withFetchWord : (State.reset.withFetchWord 32 0xA5) = State.reset := by rfl

/-! ### Frames (R174, section 10.9) -/

theorem test_crc_digits : crc [0x31, 0x32, 0x33, 0x34, 0x35, 0x36, 0x37, 0x38, 0x39] = 0x29B1#16 := by decide +kernel
theorem test_crc_prefixes : crc [0x01] = 0xF1D1#16 ∧ crc [0x01, 0x0D] = 0xFF93#16 := by decide +kernel
theorem test_frame_readEvents : requestFrame 0x0D [] = [0xA5, 0x01, 0x0D, 0xFF, 0x93] := by decide +kernel
theorem test_frame_emptyResponse : ((⟨0x12, .ok, []⟩ : Response).frame).length = 6 := by decide +kernel

theorem test_byteReceived_sync : next (exec (.byteReceived .B (.byte 0xA5)) State.reset)
    (fun t => t.ports.get .B == .receiving [] 960) = true := by decide +kernel
theorem test_byteReceived_length : next (exec (.byteReceived .B (.byte 12)) (State.reset.setPort .B (.receiving [] 960)))
    (fun t => t.ports.get .B == .receiving [12] 960) = true := by decide +kernel
theorem test_frameAbandoned_length251 :
    next (exec (.frameAbandoned .B (.byte 251)) (State.reset.setPort .B (.receiving [] 960)))
      (fun t => t.ports.get .B == .idle && (t.events.get .B).sticky == 0x040001#24 &&
        (t.events.get .A).sticky == 0x000001#24) = true := by decide +kernel
theorem test_interByteTimeout : next (exec (.interByteTimeout .B) (State.reset.setPort .B (.receiving [12, 1, 2, 3, 4] 0)))
    (fun t => t.ports.get .B == .idle && (t.events.get .B).sticky == 0x040001#24) = true := by decide +kernel
theorem test_byteDuringService :
    next (exec (.byteDuringService .C) (State.reset.setPort .C (.responding ⟨2, .okClamped, []⟩ false)))
      (fun t => t.ports.get .C == .responding ⟨2, .okClamped,
        []⟩ false && (t.events.get .C).sticky == 0x040001#24) = true := by
  decide +kernel
theorem test_badCheck : next (exec (.badCheck .A [0x01, 0x0D, 0xFF, 0x94]) State.reset)
    (fun t => t.ports.get .A == .responding ⟨0, .badCheck, []⟩ false) = true := by decide +kernel
theorem test_unknownRequest : next (exec (.unknownRequest .A 0x16 []) State.reset)
    (fun t => answer .A t == some (.unknownRequest, [])) = true := by decide +kernel
theorem test_responseEnd : next (exec (.responseEnd .A) (State.reset.setPort .A (.responding ⟨1, .ok, []⟩ false)))
    (fun t => t.ports.get .A == .idle) = true := by decide +kernel

/-! ### Requests -/

theorem test_readEntry_crosspointsOfM3 : next (exec (.readEntry .A [12, 0, 48, 0, 24]) State.reset) (fun t =>
    match t.ports.get .A with
    | .responding r _ => r.frame.length == 238 && r.body.take 4 == [12, 0, 48, 12]
    | _ => false) = true := by decide +kernel
theorem test_profile_clamps : next (exec (.writeEntryProfile .C 2 [0x2E, 0xE0]) State.reset)
    (fun t => t.settings.profiles.get 2 == 9600 && answer .C t == some (.okClamped, [])) = true := by decide +kernel
theorem test_station_moves :
    let at3 : State := { quiet with gates := quiet.gates.map fun n g => { g with
      station := if n = 1 ∨ n = 6 then some 2 else some 3 } }
    next (exec (.writeEntryStation .B 2 [6, 4, 8, 152, 1, 4, 80, 85, 76, 80, 73, 84, 32, 32]) at3)
      (fun t => t.engine.queue == [.channel 1, .channel 6] && t.engine.aligned.get 1 == false &&
        t.engine.aligned.get 6 == false && t.engine.aligned.get 8 == true && answer .B t == some (.ok, [])) = true := by
  decide +kernel
theorem test_zone_trimAsksForAll :
    let written : ZoneRec := { State.reset.settings.zones.get 8 with trim := 4 }
    next (exec (.writeEntryZone .C 8 written.entry) quiet) (fun t => t.engine.queue == [.all] &&
      (t.settings.zones.get 8).trim == 4 && t.engine.aligned.get 0 == false) = true := by decide +kernel
theorem test_channel_windowOverlap :
    next (exec (.writeEntryChannel .A 15 (ChannelRec.entry { ChannelRec.delivered 15 with start := 959 })) quiet)
      (fun t => answer .A t == some (.windowOverlap, [])) = true := by decide +kernel
theorem test_group_maxOpenZero : next (exec (.writeEntryGroup .A 0 [1, 0, 0, 0]) nave)
    (fun t => answer .A t == some (.badValue, []) && t.groups == nave.groups) = true := by decide +kernel
theorem test_membership_noGroup : next (exec (.writeEntryMembership .A 24 [0]) oneOpen)
    (fun t => (t.groups.get 0).members == [] && (t.gates.get 0).state == .parked &&
      t.settings.channelGroup 0 == none) = true := by decide +kernel
theorem test_contactIn_debounce : next (exec (.writeEntryContactIn .A 0 [1, 2, 0, 0, 0, 9]) State.reset)
    (fun t => t.settings.contactIn.get 0 == ⟨.forceOpenWhile 1, false, 10⟩ && answer .A t == some (.okClamped,
      [])) = true := by
  decide +kernel
theorem test_contactOut : next (exec (.writeEntryContactOut .A 0 [1, 1, 0]) oneOpen)
    (fun t => t.relayClosed 0 && answer .A t == some (.ok, [])) = true := by decide +kernel
theorem test_portRouting_restarted : next (exec (.writeEntryPortRouting .B 0 [0, 0, 1, 0]) State.reset)
    (fun t => t.attentionLine .A && !t.attentionLine .B) = true := by decide +kernel
theorem test_system_external : next (exec (.writeEntrySystem .A 0 [1, 1, 61, 0, 0]) State.reset)
    (fun t => t.clock.state == .locking && t.settings.system == ⟨true, true, 60⟩ && answer .A t == some (.okClamped, [])) =
      true := by decide +kernel
theorem test_readOnly : next (exec (.writeEntryReadOnly .A [12, 0, 0, 0]) State.reset)
    (fun t => answer .A t == some (.readOnly, [])) = true := by decide +kernel
theorem test_moveSource_none : next (exec (.moveSource .A [1, 0]) oneOpen)
    (fun t => (t.gates.get 0).state == .parked && (t.groups.get 0).members == [] &&
      t.engine.queue == [.channel 0, .group 0]) = true := by decide +kernel
/-- Section 5.11: G3's set full of FORCED members refuses a forced entry, and its port-set mode stays AUTO. -/
theorem test_setGateMode_groupFull :
    let s := stage [⟨3, .forced, 240⟩, ⟨4, .forced, 240⟩] [] fun n =>
      if n = 3 ∨ n = 4 then (.opened, .forceOpen, 0) else (.closed, .auto, 0)
    let s : State := { s with settings := { s.settings with
      groups := s.settings.groups.set 0 ((s.settings.groups.get 0).set 0 ⟨true, 0, 2, false⟩) } }
    next (exec (.setGateMode .A [6, 1]) s) (fun t => answer .A t == some (.groupFull, []) &&
      (t.gates.get 5).portMode == .auto) = true := by decide +kernel
/-- Section 5.11: M5 put into AUTO is bumped by M6, which waits. -/
theorem test_setGateMode_waitingEnters :
    let s := stage [⟨3, .forced, 240⟩, ⟨4, .forced, 240⟩] [5] fun n =>
      if n = 3 ∨ n = 4 then (.opened, .forceOpen, 0) else if n = 5 then (.closed, .forceOpen, 0) else (.closed, .auto, 0)
    let s : State := { s with settings := { s.settings with
      groups := s.settings.groups.set 0 ((s.settings.groups.get 0).set 0 ⟨true, 0, 2, false⟩) } }
    next (exec (.setGateMode .B [5, 0]) s) (fun t => answer .B t == some (.ok, []) &&
      (t.groups.get 0).members == [⟨3, .forced, 240⟩, ⟨5, .forced, 240⟩] && (t.gates.get 4).state == .closed &&
      t.groups.get 0 == ⟨none, [⟨3, .forced, 240⟩, ⟨5, .forced, 240⟩], []⟩) = true := by decide +kernel
theorem test_setTemperature_clamps : next (exec (.setTemperature .A [0x01, 0x91]) quiet)
    (fun t => t.engine.reported == 400 && t.engine.queue == [.all] && answer .A t == some (.okClamped, [])) = true := by
  decide +kernel
theorem test_selectArrangement : next (exec (.selectArrangement .A [2]) oneOpen)
    (fun t => t.settings.active == 1 && t.engine.queue == [.all] && (t.groups.get 0).members.length == 1) = true := by
  decide +kernel
theorem test_holdGroup : next (exec (.holdGroup .B [1]) quiet)
    (fun t => (t.groups.get 0).holder == some .B && answer .B t == some (.ok, [])) = true := by decide +kernel
theorem test_releaseGroup_notHolder : next (exec (.releaseGroup .A [1]) quiet)
    (fun t => answer .A t == some (.notHolder, [])) = true := by decide +kernel
theorem test_breakHold :
    let s : State := { quiet with groups := quiet.groups.modify 0 fun g => { g with holder := some .B } }
    next (exec (.breakHold .A [1]) s) (fun t => (t.groups.get 0).holder == none &&
      (t.events.get .B).sticky == 0x002001#24 && (t.events.get .A).sticky == 0x000001#24) = true := by decide +kernel
theorem test_zoneMute : next (exec (.zoneMute .A [5, 1]) quiet)
    (fun t => (t.zones.get 4).requestMute && !(t.zones.get 3).requestMute) = true := by decide +kernel
theorem test_socketPowerOn_dynamic : next (exec (.setSocketPowerOn .A [1, 1]) quiet)
    (fun t => answer .A t == some (.powerRefused, []) && (t.events.get .C).sticky == 0x000081#24) = true := by decide +kernel
theorem test_socketPowerOff :
    let s : State := { quiet with sockets := quiet.sockets.modify 0 fun x => { x with phase := .powered, wish := true } }
    next (exec (.setSocketPowerOff .A [1, 0]) s) (fun t => t.sockets.get 0 == ⟨.present .condenser, false, true, true,
      true, none⟩ &&
      (t.gates.get 0).state == .parked) = true := by decide +kernel
theorem test_resense : next (exec (.resenseSocket .A [1]) quiet)
    (fun t => (t.sockets.get 0).phase == .sensing 4800 && (t.gates.get 0).state == .parked) = true := by decide +kernel
theorem test_readEvents : next (exec (.readEvents .A []) State.reset)
    (fun t => answer .A t == some (.ok, [0, 0, 1, 0, 0, 0, 0, 1])) = true := by decide +kernel
theorem test_clearEvents : next (exec (.clearEvents .A [0, 0, 1]) State.reset)
    (fun t => (t.events.get .A).sticky == 0 && (t.events.get .B).sticky == 1) = true := by decide +kernel
theorem test_forceEvents_bit19 : next (exec (.forceEvents .A [8, 0, 0]) State.reset)
    (fun t => answer .A t == some (.badValue, []) && (t.events.get .A).sticky == 1) = true := by decide +kernel
theorem test_resume_active :
    let s : State := { quiet with override := ⟨.active, true, true, none⟩ }
    next (exec (.resumeAfterOverride .A []) s) (fun t => answer .A t == some (.overrideActive, [])) = true := by
  decide +kernel
theorem test_rearm_holdover :
    let s : State := { quiet with clock := .start .holdover }
    next (exec (.rearmOutputs .A []) s) (fun t => answer .A t == some (.clockNotReady, [])) = true := by decide +kernel
theorem test_freezeGeometry : next (exec (.freezeGeometry .A []) quiet) (fun t => t.frozen) = true := by decide +kernel
theorem test_standby : next (exec (.standby .A []) oneOpen) (fun t => t.standby && (t.groups.get 0).members == [] &&
    (t.gates.get 0).state == .parked && (t.zones.get 23).standby) = true := by decide +kernel
theorem test_wake :
    let s : State := { stage [] [] (fun _ => (.parked, .auto, 0)) with
      standby := true, zones := .ofFn fun _ => ⟨false, false, false, true, false, false⟩ }
    next (exec (.wake .A []) s) (fun t => !t.standby && (t.gates.get 0).state == .closed && !(t.zones.get 0).standby) = true := by
  decide +kernel
theorem test_resetRuntime : next (exec (.resetRuntime .A []) oneOpen)
    (fun t => t.ports.get .A == .responding ⟨0x15, .ok, []⟩ true && (t.groups.get 0).members.length == 1) = true := by
  decide +kernel
theorem test_runtimeReset : next (exec (.runtimeReset .A) (oneOpen.setPort .A (.responding ⟨0x15, .ok, []⟩ true)))
    (fun t => t.engine.queue == [.all] && (t.groups.get 0).members == [] && t.ports.get .A == .idle) = true := by
  decide +kernel
theorem test_powerOnReset : next (exec .powerOnReset { oneOpen with frozen := true })
    (fun t => !t.frozen && t.engine == .powerOn && (t.sockets.get 0).raw && (t.sockets.get 0).phase == .empty) = true := by
  decide +kernel
theorem test_heldInReset : next (exec .heldInReset oneOpen) (fun t => t.held && !t.attentionLine .A) = true := by
  decide +kernel

/-! ### The alignment engine and its arithmetic (sections 2.4 to 2.7, 3.9) -/

/-- Case A: S3 into Z9, with trim 2, master 6 and two channels open. -/
theorem test_caseA : fullResult ⟨some ⟨1500, 2200, 260⟩, 16384, 6, 2⟩ ⟨⟨4000, 1800, 500⟩, ⟨4200, 1500, 120⟩, 480, 0, 600,
  2, 1, false⟩
    120 = ⟨some 3697, some 14, 0, false, false, false⟩ := by decide +kernel
/-- Case B: S3 into Z4. -/
theorem test_caseB : fullResult ⟨some ⟨1500, 2200, 260⟩, 16384, 6, 3⟩ ⟨⟨2100, 3000, 500⟩, ⟨1900, 2600, 120⟩, 480, 1200,
  0, 4, 1, false⟩
    120 = ⟨some 474, some 32, 12, false, false, false⟩ := by decide +kernel
/-- Case D: a raw delay of exactly one half rounds away from zero. -/
theorem test_caseD : rawDelay 655 67 = 938 ∧ rawDelay (-655) 67 = -938 := by decide +kernel
/-- Case E: a short window clamps high. -/
theorem test_caseE : clampDelay 8941 8192 = ⟨8191, false, true⟩ := by decide +kernel
/-- Case F: a station inside the guard keeps its delay. -/
theorem test_caseF : fullResult ⟨some ⟨3800, 2000, 150⟩, 16384, 6, 2⟩ ⟨⟨4000, 1800, 500⟩, ⟨4200, 1500, 120⟩, 480, 0, 600,
  2, 1, false⟩
    120 = ⟨some 647, none, 0, false, false, true⟩ := by decide +kernel
/-- Section 2.6: saturation. -/
theorem test_saturation : composeLevel 60 60 48 8 = 160 ∧ composeLevel 38 60 48 5 = 160 := by decide +kernel

theorem test_itemStart : next (exec .itemStart State.reset) (fun t => t.engine.queue == [] &&
    t.engine.flight.map Flight.item == some .all) = true := by decide +kernel
/-- Case B through a CHANNEL item: M1 at S1, whose results are those of the arithmetic, is ALIGNED afterwards. -/
theorem test_channelItemComplete :
    let z : ZoneRec := ⟨⟨2100, 3000, 500⟩, ⟨1900, 2600, 120⟩, 480, 1200, 0, 4, 1, false⟩
    let s : State := { quiet with engine := { quiet.engine with
      flight := some (.channel 0 ⟨some ⟨1500, 2200, 260⟩, 16384, 6, 3⟩ (.ofFn fun _ => z) 120)
      aligned := quiet.engine.aligned.set 0 false } }
    next (exec (.channelItemComplete 0) s) (fun t => t.engine.aligned.get 0 && ((t.crosspoints.get 0).get 3).computedDelay == 474 &&
      ((t.crosspoints.get 0).get 3).computedLevel == some 32 && t.engine.flight == none &&
      (t.events.get .A).sticky == 0x020001#24) = true := by decide +kernel
theorem test_allItemComplete :
    let s : State := { quiet with engine := { quiet.engine with
      flight := some (.all (.ofFn fun _ => ⟨some ⟨3800, 2000, 150⟩, 16384, 6, 2⟩)
        (.ofFn fun _ => ⟨⟨4000, 1800, 500⟩, ⟨4200, 1500, 120⟩, 480, 0, 600, 2, 1, false⟩) 120)
      queue := [.channel 4] } }
    next (exec .allItemComplete s) (fun t => ((t.crosspoints.get 3).get 8).guarded && ((t.crosspoints.get 3).get 8).activeDelay == 647 &&
      !((t.crosspoints.get 4).get 8).guarded) = true := by decide +kernel
/-- Section 2.7: a fourth microphone opens; 32 becomes 34. -/
theorem test_groupItemComplete :
    let s : State := { oneOpen with engine := { oneOpen.engine with
      flight := some (.group 0 [⟨0, true, .ofFn fun _ => (12, false)⟩] (.ofFn fun _ => 4) 6 4) } }
    next (exec (.groupItemComplete 0) s) (fun t => ((t.crosspoints.get 0).get 3).computedLevel == some 34 &&
      ((t.crosspoints.get 0).get 3).phase == .ramping 160 2400 2400) = true := by decide +kernel

/-! ### Crosspoints (sections 4.3, 4.5, 4.9, 8.2) -/

/-- Section 4.5: the first delivery, the second, and the retarget of the group. -/
theorem test_delivery :
    let x : Crosspoint := ⟨.steady 14, 3697, 3697, some 14, 0, false, false, false, some 14⟩
    let y := x.deliver true 2400 ⟨some 3760, some 14, 0, false, false, false⟩
    y.phase = .crossfading 160 3697 14 none 2400 2400 ∧ y.activeDelay = 3760 ∧
      (y.deliver true 2400 ⟨some 3790, some 14, 0, false, false, false⟩).phase =
        .crossfading 160 3697 14 (some 3790) 2400 2400 := by decide +kernel
theorem test_crossfadeEnd : next (exec (.crossfadeEnd 2 8)
      (crosspoint 2 8 (.crossfading 12 3697 160 (some 3790) 2400 0) (some 12) 3760 oneOpen))
    (fun t => ((t.crosspoints.get 2).get 8).phase == .crossfading 160 3760 12 none 2400 2400 &&
      ((t.crosspoints.get 2).get 8).activeDelay == 3790) = true := by decide +kernel
theorem test_rampEnd : next (exec (.rampEnd 0 4) (crosspoint 0 4 (.ramping 14 480 0) (some 14) 0 oneOpen))
    (fun t => ((t.crosspoints.get 0).get 4).phase == .steady 14) = true := by decide +kernel
theorem test_outputSample_announcement :
    let s : State := { quiet with
      announcement := 4000000
      zones := quiet.zones.modify 0 fun z => { z with taken := true }
      settings := { quiet.settings with system := ⟨false, true, 12⟩ } }
    next (exec .outputSample s) (fun t => (t.feeds.get 0).toInt == 2004749 && (t.feeds.get 1).toInt == 0) = true := by
  decide +kernel
/-- Section 4.9: two lecterns into one zone. -/
theorem test_outputSample_clips :
    let s : State := { quiet with
      delay := { quiet.delay with cells := [(16383, 6000000), (32767, 3000000)] } }
    next (exec .outputSample (crosspoint 0 2 (.steady 0) (some 0) 0 (crosspoint 1 2 (.steady 0) (some 0) 0 s)))
      (fun t => (t.feeds.get 2).toInt == 8388607 && (t.events.get .A).sticky == 0x010001#24) = true := by decide +kernel
theorem test_inputSample : next (exec (.inputSample (.ofFn fun i => if i = 0 then 5 else 0)) quiet)
    (fun t => (t.gates.get 0).detector == ⟨25, 1, none⟩ && t.delay.tap (t.settings.channels.get 0) 0 0 == 5) = true := by
  decide +kernel

/-! ### Gating (sections 5.11, 6.6) -/

/-- L = 90 of M4 bumps M2 at 104. -/
theorem test_measurement_bump : next (exec (.measurementComplete 3) (heard 3 1068115260131 nave))
    (fun t => (t.groups.get 0).members == [⟨0, .auto, 72⟩, ⟨2, .forced, 88⟩, ⟨3, .auto, 90⟩] &&
      (t.gates.get 1).state == .closed && (t.events.get .A).sticky == 0x00000F#24 && t.engine.queue == []) = true := by
  decide +kernel
/-- L = 96 asks nothing of the arbiter. -/
theorem test_measurement_noAsk : next (exec (.measurementComplete 3) (heard 3 535325800000 nave))
    (fun t => t.groups == nave.groups && (t.gates.get 3).latest == 96) = true := by decide +kernel
/-- M8 alone in a set with last-channel hold: the countdown ends in LAST_ON. -/
theorem test_holdCountdownEnd :
    let s := stage [⟨7, .auto, 240⟩] [] fun n => if n = 7 then (.holding, .auto, 1) else (.closed, .auto, 0)
    let s : State := { s with settings := { s.settings with
      groups := s.settings.groups.set 0 ((s.settings.groups.get 0).set 0 ⟨true, 0, 4, true⟩) } }
    next (exec (.holdCountdownEnd 7) (heard 7 0 s)) (fun t => (t.gates.get 7).state == .lastOn &&
      (t.gates.get 7).holdCounter == 0 && (t.groups.get 0).members == [⟨7, .auto, 240⟩]) = true := by decide +kernel

/-! ### Sockets, the line, the clock, contacts (chapters 7, 8, 9, 11) -/

theorem test_insertion :
    let s : State := { quiet with sockets := quiet.sockets.set 0 ⟨.empty, false, true, false, true, some 0⟩ }
    next (exec (.insertion 0) s) (fun t => t.sockets.get 0 == ⟨.sensing 4800, false, false, true, true, none⟩) = true := by
  decide +kernel
theorem test_sensingEnd_condenser :
    let s : State := { quiet with sockets := quiet.sockets.set 0 ⟨.sensing 0, false, false, true, true, none⟩ }
    next (exec (.sensingEnd 0 ⟨[⟨some 90910, some 200⟩], ⟨some 100000, some 200⟩⟩) s)
      (fun t => (t.sockets.get 0).phase == .ramping 9600 && (t.events.get .B).sticky == 0x000011#24) = true := by
  decide +kernel
theorem test_sensingEnd_unsteady :
    latchedClass ⟨[⟨some 90909, some 200⟩], ⟨some 100000, some 200⟩⟩ = .unknown ∧
    latchedClass ⟨[⟨none, some 5000⟩], ⟨none, some 1000⟩⟩ = .dynamic ∧ latchedClass ⟨[], ⟨none, none⟩⟩ = .lineReceiver := by
  decide +kernel
theorem test_phantomRampEnd :
    let s : State := { quiet with sockets := quiet.sockets.set 0 ⟨.ramping 0, false, false, true, true, none⟩ }
    next (exec (.phantomRampEnd 0) s) (fun t => (t.sockets.get 0).phase == .powered &&
      (t.events.get .A).sticky == 0x000041#24) = true := by decide +kernel
/-- Section 7.11: 24 V at half of the 200 ms. -/
theorem test_phantomVolts : (SocketPhase.ramping 9600).volts = 0 ∧ (SocketPhase.ramping 4800).volts = 24 ∧
    (SocketPhase.ramping 0).volts = 48 ∧ SocketPhase.fault.volts = 0 := by decide +kernel
theorem test_overcurrent :
    let s : State := { oneOpen with sockets := oneOpen.sockets.set 0 ⟨.powered, false, false, true, true, none⟩ }
    next (exec (.overcurrent ⟨0, 12001, 240⟩) s) (fun t => (t.sockets.get 0).phase == .fault && (t.gates.get 0).state == .parked &&
      (t.events.get .A).sticky == 0x000105#24) = true := by decide +kernel
/-- A current of 12 mA, one of less than 5 ms, and a surge in the first 239 samples of a ramp (9,600 − 9,361). -/
theorem test_overcurrent_none :
    let s : State := { oneOpen with
      sockets := (oneOpen.sockets.set 0 ⟨.powered, false, false, true, true, none⟩).set 1
        ⟨.ramping 9361, false, false, true, true, none⟩ }
    (next (exec (.overcurrent ⟨0, 12000, 240⟩) s) (· == s) && next (exec (.overcurrent ⟨0, 12001, 239⟩) s) (· == s) &&
      next (exec (.overcurrent ⟨1, 12001, 240⟩) s) (· == s)) = true := by decide +kernel
theorem test_removal_live :
    let s : State := { oneOpen with sockets := oneOpen.sockets.set 0 ⟨.present .lineReceiver, false, false, true, false,
      some 0⟩ }
    next (exec (.removal 0) s) (fun t => (t.sockets.get 0).phase == .empty && (t.groups.get 0).members == [] &&
      (t.events.get .A).sticky == 0x000035#24) = true := by decide +kernel
theorem test_overrideAssertion :
    let s : State := { quiet with
      override := ⟨.idle, true, false, some 0⟩
      settings := { quiet.settings with zones := quiet.settings.zones.modify 3 fun z => { z with member := true } } }
    next (exec .overrideAssertion s) (fun t => t.override.state == .active && (t.zones.get 3).taken && !(t.zones.get 4).taken) =
      true := by decide +kernel
theorem test_overrideDeassertion :
    let s : State := { quiet with
      override := ⟨.active, false, true, some 0⟩, zones := quiet.zones.modify 3 fun z => { z with taken := true } }
    next (exec .overrideDeassertion s) (fun t => t.override.state == .latched && (t.zones.get 3).overrideLatch &&
      !(t.zones.get 3).taken && !(t.zones.get 4).overrideLatch) = true := by decide +kernel
theorem test_wordClockEdge :
    let s : State := { quiet with clock := { Clock.start .locking with edgeSeen := true } }
    next (exec (.wordClockEdge 20833) s) (fun t => t.clock.run == some 4800 && t.clock.gap == some 48) = true := by
  decide +kernel
theorem test_qualificationComplete :
    let s : State := { quiet with clock := { Clock.start .locking with edgeSeen := true, run := some 0 } }
    next (exec .qualificationComplete s) (fun t => t.clock.state == .locked && (t.events.get .A).sticky == 0x000801#24) =
      true := by decide +kernel
theorem test_clockGap :
    let s : State := { quiet with clock := { Clock.start .locked with edgeSeen := true, gap := some 0, edges := [⟨20833,
      0⟩] } }
    next (exec .clockGap s) (fun t => t.clock.state == .holdover && (t.zones.get 0).clock &&
      (t.events.get .A).sticky == 0x000401#24) = true := by decide +kernel
/-- Section 11.6: K1 opens M2 though port B holds G1; port A's line pulses once. -/
theorem test_contactChange :
    let s : State := { quiet with
      groups := quiet.groups.modify 0 fun g => { g with holder := some .B }
      events := ⟨⟨0, none⟩, ⟨0, none⟩, ⟨0, none⟩⟩
      contacts := quiet.contacts.set 0 ⟨true, false, some 0⟩
      settings := { quiet.settings with
        contactIn := quiet.settings.contactIn.set 0 ⟨.forceOpenWhile 1, false, 20⟩
        routing := ⟨⟨0x002002, .pulse⟩, ⟨0x001200, .level⟩, ⟨0, .level⟩⟩ } }
    next (exec (.contactChange 0) s) (fun t => (t.groups.get 0).members == [⟨1, .forced, 240⟩] &&
      (t.events.get .A).sticky == 0x000202#24 && t.attentionLine .A && t.attentionLine .B && !t.attentionLine .C) = true := by
  decide +kernel
theorem test_pulseEnd :
    let s : State := { quiet with events := quiet.events.set .A ⟨2, some 0⟩ }
    next (exec (.pulseEnd .A) s) (fun t => t.events.get .A == ⟨2, none⟩) = true := by decide +kernel
theorem test_rawPresenceChange : next (exec (.rawPresenceChange 0 false) quiet)
    (fun t => !(t.sockets.get 0).raw && (t.sockets.get 0).debounce == some 2400) = true := by decide +kernel
theorem test_rawLineChange : next (exec (.rawLineChange 5000) State.reset)
    (fun t => t.override.raw && t.override.debounce == some 2400) = true := by decide +kernel
theorem test_rawContactChange : next (exec (.rawContactChange 7 true) State.reset)
    (fun t => (t.contacts.get 7).raw && (t.contacts.get 7).debounce == some 960) = true := by decide +kernel

/-! ### Witnesses: for each statement with hypotheses, states and operands that meet them -/

/-- PhaseLaw as a Bool. -/
def phaseOk (target : Option Nat) : Phase → Bool
  | .silent => target == none
  | .steady l => target == some l
  | .ramping l len rem => decide (AttenuationInRange l ∧ rem ≤ len)
  | .crossfading l _ ol _ len rem => decide (AttenuationInRange l ∧ AttenuationInRange ol ∧ rem ≤ len)

theorem phaseLaw_of_ok {target : Option Nat} {ph : Phase} (h : phaseOk target ph = true) : PhaseLaw target ph := by
  cases ph <;> simpa [phaseOk, PhaseLaw] using h

/-- Every crosspoint record of a state keeps its law, as a decidable proposition. -/
abbrev CrosspointsOk (s : State) : Prop :=
  ∀ n j, LevelInRange ((s.crosspoints.get n).get j).computedLevel ∧ LevelInRange ((s.crosspoints.get n).get j).target ∧
    phaseOk ((s.crosspoints.get n).get j).target ((s.crosspoints.get n).get j).phase = true

theorem arrayLaw_of_ok {s : State} (h : CrosspointsOk s) (ht : TargetLaw s) (hk : TakeoverLaw s) : ArrayLaw s :=
  ⟨fun n j => ⟨(h n j).1, (h n j).2.1, phaseLaw_of_ok (h n j).2.2⟩, ht, hk⟩

theorem eventLaw_of_ports {s : State} (h : ∀ p ∈ [Port.A, .B, .C], maskValid (s.events.get p).sticky = true ∧
    maskValid (s.settings.routing.get p).mask = true) : EventLaw s := by
  rintro ⟨⟩ <;> exact h _ (by decide)

/-- TapsWithin as a Bool. -/
def tapsOk (w : Nat) (x : Crosspoint) : Bool :=
  match x.phase with
  | .silent => true
  | .steady _ => decide (x.activeDelay < w)
  | .ramping _ _ _ => decide (x.activeDelay < w)
  | .crossfading _ old _ pending _ _ => decide (x.activeDelay < w ∧ old < w ∧ ∀ d ∈ pending, d < w)

theorem tapsWithin_of_ok {w : Nat} {x : Crosspoint} (h : tapsOk w x = true) : TapsWithin w x := by
  obtain ⟨ph, _⟩ := x
  cases ph <;> simp_all [tapsOk, TapsWithin]

/-- The stage with M1 sounding steadily into Z1 at 12 steps. -/
def sounds : State := crosspoint 0 0 (.steady 12) (some 12) 7 oneOpen

theorem quiet_groups : GroupLaw quiet := by constructor <;> decide +kernel
theorem oneOpen_groups : GroupLaw oneOpen := by constructor <;> decide +kernel
theorem nave_groups : GroupLaw nave := by constructor <;> decide +kernel
theorem sounds_groups : GroupLaw sounds := by constructor <;> decide +kernel
theorem quiet_targets : TargetLaw quiet := by decide +kernel
theorem nave_targets : TargetLaw nave := by decide +kernel
theorem sounds_targets : TargetLaw sounds := by decide +kernel
theorem sounds_array : ArrayLaw sounds := arrayLaw_of_ok (by decide +kernel) sounds_targets (by decide +kernel)
theorem quiet_array : ArrayLaw quiet := arrayLaw_of_ok (by decide +kernel) quiet_targets (by decide +kernel)
theorem quiet_settings : SettingsLaw quiet := by decide +kernel
theorem quiet_delay : DelayLaw quiet := by
  refine ⟨?_, ?_, ?_, ?_, ?_⟩ <;> decide +kernel
theorem quiet_events : EventLaw quiet := eventLaw_of_ports (by decide +kernel)
theorem sounds_taps : TapLaw sounds := by
  refine ⟨fun n j => tapsWithin_of_ok ?_, by decide +kernel, by decide +kernel, trivial⟩
  exact (by decide +kernel : ∀ n j, tapsOk (sounds.settings.window n) ((sounds.crosspoints.get n).get j) = true) n j

theorem witness_StepRunsTheFrontCommand :
    (State.reset.setPending [.itemStart]).pending = .itemStart :: [] ∧ State.reset.pending = [] := by decide +kernel
theorem witness_HeldPartHearsOnlyItsPins : ({ quiet with held := true } : State).held = true := rfl
theorem witness_RuntimeResetLeaves :
    let s := quiet.setPort .A (.responding ⟨0x15, .ok, []⟩ true)
    s.held = false ∧ s.ports.get .A = .responding ⟨0x15, .ok, []⟩ true := by decide +kernel
theorem witness_PinsAndResponseEnds :
    let s := quiet.setPort .A (.responding ⟨1, .ok, []⟩ false)
    s.held = false ∧ s.ports.get .A = .responding ⟨1, .ok, []⟩ false := by decide +kernel
theorem witness_FramesAreReceived_bytes :
    quiet.held = false ∧ quiet.ports.get .A = .idle ∧ (0xA4 : Byte) ≠ 0xA5 ∧
      (quiet.setPort .A (.receiving [] 960)).ports.get .A = .receiving [] 960 ∧
      (quiet.setPort .A (.receiving [1, 13] 0)).ports.get .A = .receiving (1 :: [13]) 0 ∧
      [(13 : Byte)].length + 1 < (1 : Byte).toNat + 2 ∧
      (quiet.setPort .A (.serving 13 [])).ports.get .A = .serving 13 [] ∧
      (quiet.setPort .A (.responding ⟨1, .ok, []⟩ false)).ports.get .A = .responding ⟨1, .ok, []⟩ false := by decide +kernel
theorem witness_FramesAreReceived_frame :
    (List.replicate 249 (0 : Byte)).length ≤ 249 ∧
      [(0xFF : Byte), 0x94] ≠ wordOf (crc (byteOf (([] : List Byte).length + 1) :: 0x0D :: [])).toNat := by decide +kernel
theorem witness_PortFaultsAndRefusedFrames :
    badFrame [0x01, 0x0D, 0xFF, 0x94] = true ∧ quiet.ports.get .A = .idle ∧ 0x16 ≤ (0x16 : Byte).toNat ∧
      (0 : Byte).toNat = 0 ∧ Ready quiet .A 0 [] ∧ Ready quiet .A 0x16 [] ∧ 251 ≤ (251 : Byte).toNat ∧
      (quiet.setPort .A (.receiving [] 5)).ports.get .A = .receiving [] 5 ∧
      (quiet.setPort .A (.receiving [12, 1] 0)).ports.get .A = .receiving [12, 1] 0 ∧
      (quiet.setPort .A (.serving 3 [1, 0])).ports.get .A = .serving 3 [1, 0] ∧
      (quiet.setPort .A (.responding ⟨1, .ok, []⟩ false)).ports.get .A = .responding ⟨1, .ok, []⟩ false := by decide +kernel
theorem witness_EventsAndAttentionLines :
    Ready quiet .A 0x0D [] ∧ Ready quiet .A 0x0E (maskOf 0x080000#24) ∧ Ready quiet .A 0x0E (maskOf 0x040000#24) ∧
      Ready quiet .A 0x0F (maskOf 0x040000#24) ∧ quiet.held = false ∧ EventLaw quiet ∧
      (quiet.settings.routing.get .A).mode = .level ∧
      (({ quiet with events := quiet.events.set .A ⟨2, some 0⟩ } : State).events.get .A).pulse = some 0 :=
  ⟨by decide +kernel, by decide +kernel, by decide +kernel, by decide +kernel, rfl, quiet_events, by decide +kernel,
    by decide +kernel⟩
theorem witness_EventsAndAttentionLines_pulse :
    let s : State := { quiet with settings := { quiet.settings with routing := ⟨⟨1, .pulse⟩, ⟨0, .level⟩, ⟨0, .level⟩⟩ } }
    EventLaw s ∧ s.held = false ∧ (s.settings.routing.get .A).mode = .pulse :=
  ⟨eventLaw_of_ports (by decide +kernel), rfl, rfl⟩
theorem witness_EventsAndAttentionLines_outputs :
    ∀ c ∈ [OutCondition.none, .groupLive 5, .groupHeld 5, .overrideActive, .clockHoldover, .socketFaultAny], ∀ inverted,
      let s : State := { quiet with settings := { quiet.settings with contactOut := quiet.settings.contactOut.set 3 ⟨c,
        inverted⟩ } }
      s.held = false ∧ (s.settings.contactOut.get 3).condition = c := by decide +kernel
theorem witness_StationAndZoneWrites :
    Ready quiet .A 0x02 (writeBody 1 (indexWord (31 : Station)) StationRec.delivered.entry) ∧
      ZoneRec.delivered.entry.length = 21 ∧
      Ready quiet .A 0x02 (writeBody 2 (indexWord (23 : Zone)) ZoneRec.delivered.entry) := by decide +kernel

/-- A CHANNEL entry of M16 with another window. -/
def window16 (start length : Nat) : ChannelRec := { ChannelRec.delivered 15 with start := start, length := length }

theorem witness_WindowWrites_refused :
    let e := (window16 1024 0).entry
    e.length = 10 ∧ Ready quiet .A 0x02 (writeBody 3 (indexWord (15 : Channel)) e) ∧
      wordAt e 0 ≠ (quiet.settings.channels.get 15).start ∧ ({ quiet with frozen := true } : State).frozen = true ∧
      quiet.frozen = false ∧ (oneOpen.groups.get 0).holds 0 = true ∧ ((sounds.crosspoints.get 0).get 0).phase ≠ .silent ∧
      (∀ g, (quiet.groups.get g).holds 15 = false) ∧ (∀ j, ((quiet.crosspoints.get 15).get j).phase = .silent) ∧
      (∀ m, m ≠ 15 → windowsOverlap (wordAt e 0) (wordAt e 2) (quiet.settings.channels.get m).start
        (quiet.settings.channels.get m).length = false) ∧ 1023 < wordAt e 0 := by decide +kernel
theorem witness_WindowWrites_overlap :
    let e := (window16 959 1).entry
    wordAt e 2 ≠ 0 ∧ (quiet.settings.channels.get 14).length ≠ 0 ∧
      wordAt e 0 < (quiet.settings.channels.get 14).start + (quiet.settings.channels.get 14).length ∧
      (quiet.settings.channels.get 14).start < wordAt e 0 + wordAt e 2 := by decide +kernel
theorem witness_WindowWrites_range :
    let e := (window16 960 65).entry
    (∀ m, m ≠ 15 → windowsOverlap (wordAt e 0) (wordAt e 2) (quiet.settings.channels.get m).start
        (quiet.settings.channels.get m).length = false) ∧ 1024 < wordAt e 0 + wordAt e 2 := by decide +kernel
theorem witness_WindowWrites_same :
    channelOf (ChannelRec.delivered 15).entry = some (ChannelRec.delivered 15) ∧
      wordAt (ChannelRec.delivered 15).entry 0 = (quiet.settings.channels.get 15).start ∧
      wordAt (ChannelRec.delivered 15).entry 2 = (quiet.settings.channels.get 15).length := by decide +kernel
/-- Entries of M16 with a new window: one in range, one with a threshold and a hold time to be clamped, one whose home
station
is refused. -/
theorem witness_WindowWrites_accepted :
    quiet.frozen = false ∧ DelayLaw quiet ∧ (∀ g, (quiet.groups.get g).holds 15 = false) ∧
      (∀ j, ((quiet.crosspoints.get 15).get j).phase = .silent) ∧
      ∀ e ∈ [(window16 960 32).entry, wordOf 1023 ++ wordOf 1 ++ [0, 141] ++ wordOf 9 ++ [2, 1],
          wordOf 1023 ++ wordOf 0 ++ [33, 90] ++ wordOf 50 ++ [0, 1]],
        e.length = 10 ∧ Ready quiet .A 0x02 (writeBody 3 (indexWord (15 : Channel)) e) ∧
        wordAt e 2 ≠ (quiet.settings.channels.get 15).length ∧ wordAt e 0 ≤ 1023 ∧ wordAt e 2 ≤ 256 ∧
        wordAt e 0 + wordAt e 2 ≤ 1024 ∧ ∀ m, m ≠ 15 → windowsOverlap (wordAt e 0) (wordAt e 2)
          (quiet.settings.channels.get m).start (quiet.settings.channels.get m).length = false :=
  ⟨rfl, quiet_delay, by decide +kernel, by decide +kernel, by decide +kernel⟩
theorem witness_OtherChannelWrites :
    let e := (ChannelRec.delivered 15).entry
    e.length = 10 ∧ Ready quiet .A 0x02 (writeBody 3 (indexWord (15 : Channel)) e) ∧
      wordAt e 0 = (quiet.settings.channels.get 15).start ∧ wordAt e 2 = (quiet.settings.channels.get 15).length := by
  decide +kernel

/-- A state in which port B holds G1. -/
def heldByB (s : State) : State := { s with groups := s.groups.modify 0 fun g => { g with holder := some .B } }

theorem witness_GroupWrites_checks :
    let e := (GroupRec.delivered 0).entry
    e.length = 4 ∧ Ready quiet .A 0x02 (writeBody 4 (BitVec.ofNat 16 (3 * 6 + 5)) e) ∧
      (3 : Arrangement) ≠ quiet.settings.active ∧
      (0 : Arrangement) = quiet.settings.active ∧ ((heldByB quiet).groups.get 0).holder = some .B ∧ Port.B ≠ Port.A ∧
      (nave.groups.get 0).holder = none ∧
      natAt [1, 0, 0, 0] 2 < ((nave.groups.get 0).members.filter fun m => m.kind == .forced).length := by decide +kernel
/-- Writes to the record of G1 in the active arrangement that the ranges refuse, and one whose master is limited. -/
theorem witness_GroupWrites_ranges :
    (∀ e ∈ [[(1 : Byte), 0, 0, 0], [1, 0, 9, 0], [2, 0, 4, 0], [1, 0, 4, 2], [1, 61, 8, 1]],
      e.length = 4 ∧ Ready quiet .A 0x02 (writeBody 4 (BitVec.ofNat 16 (0 * 6 + 0)) e) ∧
      ((quiet.groups.get 0).members.filter fun m => m.kind == .forced).length ≤ natAt e 2) ∧
    (0 : Arrangement) = quiet.settings.active ∧ (quiet.groups.get 0).holder = none ∧
    yesNo (natAt [1, 61, 8, 1] 0) = some true ∧ yesNo (natAt [1, 61, 8, 1] 3) = some true ∧
    60 < natAt [1, 61, 8, 1] 1 := by decide +kernel
theorem witness_GroupWrites_active :
    let stored := nave.settings.groupRecord 0
    GroupLaw nave ∧ TargetLaw nave ∧ GroupInRange { stored with maxOpen := 1 } ∧ (nave.groups.get 0).holder = none ∧
      ((nave.groups.get 0).members.filter fun m => m.kind == .forced).length ≤ 1 ∧ 1 < (nave.groups.get 0).members.length ∧
      (nave.groups.get 0).waiting = [] ∧ stored.enabled = true ∧ GroupInRange { stored with enabled := false } ∧
      Ready nave .A 0x02 (writeBody 4 (BitVec.ofNat 16 (nave.settings.active.val * 6 + (0 : Group).val))
        (GroupRec.entry { stored with maxOpen := 1 })) ∧
      GroupInRange { stored with master := 60 } :=
  ⟨nave_groups, nave_targets, by decide +kernel, by decide +kernel, by decide +kernel, by decide +kernel, by decide +kernel,
    by decide +kernel, by decide +kernel, by decide +kernel, by decide +kernel⟩
/-- The body of a write to the record of G1 in the first arrangement. -/
def groupBody (r : GroupRec) : List Byte := writeBody 4 (BitVec.ofNat 16 (0 * 6 + 0)) r.entry

/-- What the statement on writes to a record of the active arrangement asks of a state and a record of G1. -/
structure GroupWritable (s : State) (r : GroupRec) : Prop where
  active : s.settings.active = 0
  ready : Ready s .A 0x02 (groupBody r)
  laws : GroupLaw s
  targets : TargetLaw s
  range : GroupInRange r
  free : (s.groups.get 0).holder = none
  room : ((s.groups.get 0).members.filter fun m => m.kind == .forced).length ≤ r.maxOpen

/-- G1 disabled, every channel of it PARKED and ALIGNED, M1 to M6 in FORCE_OPEN: four of them have room, two wait. -/
def disabled : State :=
  ruled ⟨false, 0, 4, false⟩ (stage [] [] fun n => (.parked, if n.val < 6 then .forceOpen else .auto, 0))
/-- G1 full with M4 and M5 FORCED, M6 and M7 waiting. -/
def waiting : State :=
  ruled ⟨true, 0, 2, false⟩ (stage [⟨3, .forced, 240⟩, ⟨4, .forced, 240⟩] [5, 6] fun n =>
    if n = 3 ∨ n = 4 then (.opened, .forceOpen, 0) else (.closed, if n = 5 ∨ n = 6 then .forceOpen else .auto, 0))
/-- M1 in LAST_ON, alone in G1. -/
def lastOne : State :=
  ruled ⟨true, 0, 4, true⟩ (stage [⟨0, .auto, 240⟩] [] fun n => (if n = 0 then .lastOn else .closed, .auto, 0))

theorem waiting_groups : GroupLaw waiting := by constructor <;> decide +kernel
theorem lastOne_groups : GroupLaw lastOne := by constructor <;> decide +kernel
theorem witness_GroupWrites_enabled :
    GroupWritable disabled ⟨true, 0, 4, false⟩ ∧ (disabled.settings.groupRecord 0).enabled = false :=
  ⟨⟨by decide +kernel, by decide +kernel, by constructor <;> decide +kernel, by decide +kernel, by decide +kernel,
    by decide +kernel, by decide +kernel⟩, by decide +kernel⟩
theorem witness_GroupWrites_raised :
    GroupWritable waiting ⟨true, 0, 3, false⟩ ∧ (waiting.settings.groupRecord 0).maxOpen < 3 ∧
      (waiting.groups.get 0).waiting ≠ [] :=
  ⟨⟨by decide +kernel, by decide +kernel, waiting_groups, by decide +kernel, by decide +kernel, by decide +kernel,
    by decide +kernel⟩, by decide +kernel, by decide +kernel⟩
/-- A max open lowered to the set's own size. -/
theorem witness_GroupWrites_lowered :
    GroupWritable oneOpen ⟨true, 0, 1, false⟩ ∧ 1 < (oneOpen.settings.groupRecord 0).maxOpen ∧
      (oneOpen.groups.get 0).members.length ≤ 1 :=
  ⟨⟨by decide +kernel, by decide +kernel, oneOpen_groups, by decide +kernel, by decide +kernel, by decide +kernel,
    by decide +kernel⟩, by decide +kernel, by decide +kernel⟩
theorem witness_GroupWrites_lastHold :
    GroupWritable lastOne ⟨true, 0, 4, false⟩ ∧ (lastOne.settings.groupRecord 0).lastHold = true ∧
      (∃ y ∈ (lastOne.groups.get 0).members, (lastOne.gates.get y.channel).state = .lastOn) ∧
      GroupWritable quiet ⟨true, 0, 4, true⟩ :=
  ⟨⟨by decide +kernel, by decide +kernel, lastOne_groups, by decide +kernel, by decide +kernel, by decide +kernel,
    by decide +kernel⟩, by decide +kernel, by decide +kernel, ⟨by decide +kernel, by decide +kernel, quiet_groups,
    quiet_targets, by decide +kernel, by decide +kernel, by decide +kernel⟩⟩
theorem test_group_maxOpenRaised : next (exec (.writeEntryGroup .A 0 (GroupRec.entry ⟨true, 0, 3, false⟩)) waiting)
    (fun t => t.groups.get 0 == ⟨none, [⟨3, .forced, 240⟩, ⟨4, .forced, 240⟩, ⟨5, .forced, 240⟩], [6]⟩ &&
      t.engine.queue == [.group 0] && (t.events.get .A).sticky == 0x000003#24) = true := by decide +kernel
theorem witness_MembershipWrites_held :
    Ready (heldByB quiet) .A 0x02 (writeBody 5 (BitVec.ofNat 16 (0 * 40 + 23)) [0]) ∧ Port.B ≠ Port.A ∧
      ((heldByB quiet).groups.get 0).holder = some .B ∧ ((quiet.settings.zoneGroups.get 0).get 23) = some 0 ∧
      (∀ g, (quiet.groups.get g).holder = none) ∧ 6 < (7 : Byte).toNat := by decide +kernel
theorem witness_MembershipWrites_heldChannel :
    Ready (heldByB quiet) .A 0x02 (writeBody 5 (BitVec.ofNat 16 (0 * 40 + 24 + 15)) [6]) ∧
      (quiet.settings.channelGroups.get 0).get 15 = some 0 ∧
      Ready quiet .A 0x02 (writeBody 5 (BitVec.ofNat 16 (0 * 40 + 24 + 15)) [7]) ∧
      heldElsewhere quiet.groups .A ((quiet.settings.channelGroups.get 0).get 15) = false := by decide +kernel
theorem witness_MembershipWrites_stored :
    Ready quiet .A 0x02 (writeBody 5 (BitVec.ofNat 16 (3 * 40 + 23)) [numberOf (some (5 : Group))]) ∧
      (∀ g, (quiet.groups.get g).holder ≠ none → (quiet.groups.get g).holder = some .A) ∧
      (3 : Arrangement) ≠ quiet.settings.active ∧ (0 : Arrangement) = quiet.settings.active ∧ TargetLaw quiet ∧
      Ready quiet .A 0x02 (writeBody 5 (BitVec.ofNat 16 (3 * 40 + 24 + 15)) [numberOf (some (5 : Group))]) :=
  ⟨by decide +kernel, by decide +kernel, by decide +kernel, by decide +kernel, quiet_targets, by decide +kernel⟩
theorem witness_MembershipWrites_channel :
    Ready oneOpen .A 0x02 (writeBody 5 (BitVec.ofNat 16 (oneOpen.settings.active.val * 40 + 24 + (0 : Channel).val))
        [numberOf (none : Option Group)]) ∧ GroupLaw oneOpen ∧
      (∀ g, (oneOpen.groups.get g).holder ≠ none → (oneOpen.groups.get g).holder = some .A) ∧
      (none : Option Group) ≠ oneOpen.settings.channelGroup 0 ∧ oneOpen.settings.channelGroup 0 = some 0 :=
  ⟨by decide +kernel, oneOpen_groups, by decide +kernel, by decide +kernel, by decide +kernel⟩
theorem witness_MembershipWrites_forced :
    let s := stage [⟨0, .forced, 240⟩] [] fun n => if n = 0 then (.opened, .forceOpen, 0) else (.closed, .auto, 0)
    let s : State := { s with settings := { s.settings with
      groups := s.settings.groups.set 0 ((s.settings.groups.get 0).set 1 ⟨true, 0, 4, false⟩) } }
    GroupLaw s ∧ (s.gates.get 0).state ≠ .parked ∧ (s.gates.get 0).mode = .forceOpen ∧
      some (1 : Group) ≠ s.settings.channelGroup 0 :=
  ⟨by constructor <;> decide +kernel, by decide +kernel, by decide +kernel, by decide +kernel⟩
/-- A member whose place a waiting channel takes, a waiting channel, and a CLOSED channel in FORCE_CLOSED, each to G2. -/
theorem witness_MembershipWrites_leaves :
    let s : State := { waiting with
      gates := waiting.gates.modify 0 fun g => { g with mode := .forceClosed, portMode := .forceClosed }
      settings := { waiting.settings with
        groups := waiting.settings.groups.set 0 ((waiting.settings.groups.get 0).set 1 ⟨true, 0, 4, false⟩) } }
    GroupLaw s ∧ (∀ n ∈ [(3 : Channel), 5, 0], some (1 : Group) ≠ s.settings.channelGroup n ∧
      (s.gates.get n).state ≠ .parked ∧ s.settings.channelGroup n = some 0 ∧
      Ready s .A 0x02 (writeBody 5 (BitVec.ofNat 16 (s.settings.active.val * 40 + 24 + n.val)) [numberOf (some (1 : Group))])) ∧
    (∀ g, (s.groups.get g).holder = none) ∧ (s.groups.get 0).holds 3 = true ∧ (s.groups.get 0).holds 5 = false ∧
    (s.groups.get 0).waiting = [5, 6] ∧ (s.gates.get 0).mode = .forceClosed :=
  ⟨by constructor <;> decide +kernel, by decide +kernel, by decide +kernel, by decide +kernel, by decide +kernel,
    by decide +kernel, by decide +kernel⟩
theorem witness_SmallTableAndReadOnlyWrites :
    Ready quiet .A 0x02 (writeBody 6 (indexWord (3 : Profile)) [0x25, 0x81]) ∧
      Ready quiet .A 0x02 (writeBody 8 (indexWord (3 : ContactOut)) OutBinding.delivered.entry) ∧ 5 < (6 : Byte).toNat ∧
      Ready quiet .A 0x02 (writeBody 9 (indexWord (2 : Fin 3)) (maskOf 0x07FFFF#24 ++ [2])) ∧
      [(1 : Byte), 1, 60, 0, 0].length = 5 ∧ Ready quiet .A 0x02 (writeBody 10 0#16 [1, 1, 60, 0, 0]) ∧
      [(12 : Byte), 0].length < 3 ∧ Ready quiet .A 0x02 [12, 0] ∧ Ready quiet .A 0x02 (writeBody 18 0#16 []) ∧
      17 < (18 : Byte).toNat ∧ 11 ≤ (17 : Byte).toNat ∧ (tableEntries (17 : Byte).toNat).isSome = true ∧
      Ready quiet .A 0x02 (writeBody 2 24#16 ZoneRec.delivered.entry) ∧ ZoneRec.delivered.entry.length = 21 ∧
      24 ≤ (24#16).toNat := by decide +kernel
theorem witness_ContactBindingWrites :
    TargetLaw quiet ∧ GroupLaw quiet ∧ (quiet.settings.contactIn.get 7).action = .none ∧
      Ready quiet .A 0x02 (writeBody 7 (indexWord (7 : ContactIn)) (ContactBinding.entry ⟨.move 15 none, true, 10⟩)) ∧
      Ready quiet .A 0x02 (writeBody 7 (indexWord (7 : ContactIn)) (ContactBinding.entry ⟨.zoneMuteWhile 23, true, 500⟩)) ∧
      Ready quiet .A 0x02 (writeBody 7 (indexWord (7 : ContactIn)) (ContactBinding.entry ⟨.forceClosedWhile 15, false,
        500⟩)) ∧
      Ready quiet .A 0x02 (writeBody 7 (indexWord (7 : ContactIn)) [4, 16, 33, 0, 0, 20]) ∧ 32 < (33 : Byte).toNat :=
  ⟨quiet_targets, quiet_groups, by decide +kernel, by decide +kernel, by decide +kernel, by decide +kernel,
    by decide +kernel,
    by decide +kernel⟩
/-- A state in which contact K8 is active with an action and the gate of M1 stands at port-set AUTO, its effective mode as
given. -/
def boundTo (a : ContactAction) (mode : GateMode) (s : State) : State :=
  { s with
    gates := s.gates.modify 0 fun g => { g with portMode := .auto, mode := mode }
    contacts := s.contacts.set 7 ⟨true, true, none⟩
    settings := { s.settings with contactIn := s.settings.contactIn.set 7 ⟨a, false, 20⟩ } }

/-- M1 forced open by contact K8. -/
def forcedByK8 : State :=
  boundTo (.forceOpenWhile 0) .forceOpen (stage [⟨0, .forced, 240⟩] [] fun n => (if n = 0 then .opened else .closed,
    .auto, 0))

/-- The body of a CONTACT_IN write to K8, its debounce below the range. -/
def k8Body (a : ContactAction) : List Byte := writeBody 7 (indexWord (7 : ContactIn)) (a.bytes ++ [flagOf false, 0, 9])

theorem forcedByK8_groups : GroupLaw forcedByK8 := by constructor <;> decide +kernel
theorem witness_ContactBindingWrites_both :
    Ready forcedByK8 .A 0x02 (k8Body (.forceOpenWhile 0)) ∧ TargetLaw forcedByK8 ∧ ContactLaw forcedByK8 ∧
      forcedByK8.contactActive 7 = true ∧ (forcedByK8.settings.contactIn.get 7).action = .forceOpenWhile 0 := by
  decide +kernel
/-- The old while-effect ends, and another channel's begins: M1 to AUTO, and to FORCE_CLOSED by the new binding. -/
theorem witness_ContactBindingWrites_moves :
    GroupLaw forcedByK8 ∧ TargetLaw forcedByK8 ∧ ∀ a ∈ [ContactAction.none, .forceClosedWhile 0, .forceOpenWhile 1,
      .zoneMuteWhile 23],
      Ready forcedByK8 .A 0x02 (k8Body a) ∧
      (let w : State := { forcedByK8 with settings := { forcedByK8.settings with
        contactIn := forcedByK8.settings.contactIn.set 7 ⟨a, false, 10⟩ } }
      w.modeFrom 0 (forcedByK8.gates.get 0).portMode ≠ (forcedByK8.gates.get 0).mode) :=
  ⟨forcedByK8_groups, by decide +kernel, by decide +kernel⟩
theorem test_contactIn_ends : next (exec (.writeEntryContactIn .A 7 (ContactAction.none.bytes ++ [0, 0, 9])) forcedByK8)
    (fun t => (t.gates.get 0).mode == .auto && (t.groups.get 0).members == [⟨0, .auto, 240⟩] &&
      answer .A t == some (.okClamped, [])) = true := by decide +kernel
theorem witness_ReadEntryReturns :
    Ready quiet .A 0x01 [12, 1, 128, 0, 1] ∧ tableEntries (0 : Byte).toNat = none ∧
      tableEntries (12 : Byte).toNat = some 384 ∧ 384 ≤ (384#16).toNat ∧ (383#16).toNat < 384 ∧ (0#16).toNat = 0 := by
  decide +kernel
theorem witness_MoveSourceMoves :
    Ready oneOpen .A 0x03 [numberByte (0 : Channel), numberOf (none : Option Station)] ∧ GroupLaw oneOpen ∧
      heldElsewhere oneOpen.groups .A (oneOpen.settings.channelGroup 0) = false ∧
      Ready oneOpen .A 0x03 [numberByte (0 : Channel), numberOf (some (31 : Station))] ∧
        (oneOpen.gates.get 0).state ≠ .parked :=
  ⟨by decide +kernel, oneOpen_groups, by decide +kernel, by decide +kernel, by decide +kernel⟩
theorem witness_MoveSourceMoves_refused :
    Ready oneOpen .A 0x03 [17, 0] ∧ 16 < (17 : Byte).toNat ∧ Ready oneOpen .A 0x03 [numberByte (0 : Channel), 33] ∧
      32 < (33 : Byte).toNat := by decide +kernel
theorem witness_SetGateModeDecides_parked :
    Ready State.reset .A 0x04 [numberByte (15 : Channel), GateMode.forceOpen.code] ∧
      (State.reset.gates.get 15).state = .parked ∧
      heldElsewhere State.reset.groups .A (State.reset.settings.channelGroup 15) = false ∧ TargetLaw State.reset ∧
      2 < (3 : Byte).toNat ∧ (State.reset.gates.get 15).state ≠ .closed := by decide +kernel
theorem witness_SetGateModeDecides_room :
    Ready quiet .A 0x04 [numberByte (0 : Channel), 1] ∧ (quiet.gates.get 0).state = .closed ∧
      quiet.contactForce 0 ≠ some .forceClosed ∧ quiet.settings.channelGroup 0 = some 0 ∧
      (∀ m ∈ (quiet.groups.get 0).members, (quiet.gates.get m.channel).state ≠ .lastOn) ∧
      (quiet.groups.get 0).members.length < (quiet.settings.groupRecord 0).maxOpen ∧ TargetLaw quiet := by decide +kernel

/-- G1 full of four members of a kind, M16 CLOSED. -/
def full (kind : EntryKind) (latest : Nat) : State :=
  stage [⟨0, kind, latest⟩, ⟨1, kind, 100⟩, ⟨2, kind, 100⟩, ⟨3, kind, 100⟩] [] fun n =>
    if n.val < 4 then (.opened, if kind = .forced then .forceOpen else .auto, 0) else (.closed, .auto, 0)

theorem witness_SetGateModeDecides_full :
    let s := full .forced 100
    Ready s .A 0x04 [numberByte (15 : Channel), 1] ∧ (s.gates.get 15).state = .closed ∧
      (∀ m ∈ (s.groups.get 0).members, (s.gates.get m.channel).state ≠ .lastOn) ∧
      (s.settings.groupRecord 0).maxOpen ≤ (s.groups.get 0).members.length ∧
      (∀ m ∈ (s.groups.get 0).members, m.kind = .forced) ∧ TargetLaw s := by decide +kernel
theorem witness_SetGateModeDecides_sounding :
    Ready oneOpen .A 0x04 [numberByte (0 : Channel), 2] ∧ GroupLaw oneOpen ∧ oneOpen.contactForce 0 = none ∧
      sounding (oneOpen.gates.get 0).state = true ∧ TargetLaw oneOpen :=
  ⟨by decide +kernel, oneOpen_groups, by decide +kernel, by decide +kernel, by decide +kernel⟩
/-- A new effective mode at each of its places: beside a LAST_ON member, for the quietest AUTO member, into room, a FORCED
member turned to AUTO with and without a channel waiting, a waiting channel turned to AUTO. -/
theorem witness_SetGateModeDecides_reacts :
    (∀ x ∈ [(lastOne, (15 : Channel), GateMode.forceOpen), (full .auto 101, 15, .forceOpen), (quiet, 15, .forceOpen),
        (waiting, 3, .auto), (full .forced 100, 0, .auto), (waiting, 5, .auto), (waiting, 5, .forceClosed)],
      Ready x.1 .A 0x04 [numberByte x.2.1, x.2.2.code] ∧ TargetLaw x.1 ∧ x.1.modeFrom x.2.1 x.2.2 = x.2.2 ∧
      x.1.settings.channelGroup x.2.1 = some 0 ∧ (x.1.groups.get 0).holder = none ∧
      x.2.2 ≠ (x.1.gates.get x.2.1).mode ∧ ((x.1.groups.get 0).members.length < (x.1.settings.groupRecord 0).maxOpen ∨
        (∃ y ∈ (x.1.groups.get 0).members, y.kind = .auto) ∨ x.2.2 ≠ .forceOpen)) ∧
    GroupLaw lastOne ∧ GroupLaw (full .auto 101) ∧ GroupLaw waiting ∧ GroupLaw (full .forced 100) :=
  ⟨by decide +kernel, lastOne_groups, by constructor <;> decide +kernel, waiting_groups, by constructor <;> decide +kernel⟩
theorem witness_SetGateModeDecides_same :
    Ready quiet .A 0x04 [numberByte (0 : Channel), GateMode.auto.code] ∧
      quiet.modeFrom 0 .auto = (quiet.gates.get 0).mode := by
  decide +kernel
theorem witness_HeldGroupsRefuseOthers :
    let s := heldByB quiet
    (s.groups.get 0).holder = some .B ∧ s.settings.channelGroup 0 = some 0 ∧ s.settings.zoneGroup 23 = some 0 ∧
      Port.A ≠ Port.B ∧
      Ready s .A 0x03 [numberByte (0 : Channel), 1] ∧ Ready s .A 0x04 [numberByte (0 : Channel), 1] ∧
      Ready s .A 0x0A [numberByte (23 : Zone), 1] ∧ Ready s .A 0x06 [2] ∧ Ready s .B 0x03 [numberByte (0 : Channel), 1] ∧
      Ready s .B 0x0A [numberByte (23 : Zone), 1] := by decide +kernel
theorem witness_TemperatureReports : Ready quiet .A 0x05 [0xFF, 0x9B] ∧ Ready quiet .A 0x05 [0x01, 0x90] := by decide +kernel
theorem witness_ArrangementSwitches :
    (∀ g, (oneOpen.groups.get g).holder = none) ∧ Ready oneOpen .A 0x06 [0] ∧ Ready oneOpen .A 0x06 [5] ∧
      4 < (5 : Byte).toNat ∧
      Ready oneOpen .A 0x06 [numberByte oneOpen.settings.active] ∧ (3 : Arrangement) ≠ oneOpen.settings.active ∧
      Ready oneOpen .A 0x06 [numberByte (3 : Arrangement)] ∧ GroupLaw oneOpen :=
  ⟨by decide +kernel, by decide +kernel, by decide +kernel, by decide +kernel, by decide +kernel, by decide +kernel,
    by decide +kernel, oneOpen_groups⟩
/-- A state whose fourth arrangement has a record of G1 with this max open. -/
def toFourth (maxOpen : Nat) (s : State) : State :=
  { s with settings := { s.settings with
    groups := s.settings.groups.set 3 ((s.settings.groups.get 3).set 0 ⟨true, 0, maxOpen, false⟩) } }

/-- A switch to a record with fewer places than the set has FORCED members, to one with a place for an AUTO member beside the
forced one, and to one with room for one of two waiting channels. -/
theorem witness_ArrangementSwitches_fitting :
    (∀ x ∈ [(toFourth 1 waiting, 1), (toFourth 2 nave, 2), (toFourth 3 waiting, 3)],
      Ready x.1 .A 0x06 [numberByte (3 : Arrangement)] ∧ (3 : Arrangement) ≠ x.1.settings.active ∧
      ((x.1.settings.groups.get 3).get 0).maxOpen = x.2 ∧ ∀ g, (x.1.groups.get g).holder = none) ∧
    GroupLaw (toFourth 1 waiting) ∧ GroupLaw (toFourth 2 nave) ∧ GroupLaw (toFourth 3 waiting) ∧
    (waiting.groups.get 0).members.map Member.kind = [.forced, .forced] ∧ (waiting.groups.get 0).waiting = [5, 6] :=
  ⟨by decide +kernel, by constructor <;> decide +kernel, by constructor <;> decide +kernel,
    by constructor <;> decide +kernel, by decide +kernel, by decide +kernel⟩
/-- R121: the latest entered FORCED member leaves and joins the tail of the forced-wait list. -/
theorem test_arrangement_fits : next (exec (.selectArrangement .A [4]) (toFourth 1 waiting))
    (fun t => t.groups.get 0 == ⟨none, [⟨3, .forced, 240⟩], [5, 6, 4]⟩ && (t.gates.get 4).state == .closed &&
      (t.events.get .A).sticky == 0x004005#24) = true := by decide +kernel
theorem witness_HoldsAreTakenReleasedAndBroken :
    Ready quiet .A 0x07 [numberByte (5 : Group)] ∧ Ready quiet .A 0x08 [numberByte (5 : Group)] ∧
      Ready quiet .A 0x09 [numberByte (5 : Group)] ∧ 6 < (7 : Byte).toNat ∧ Ready quiet .A 0x07 [7] ∧
        Ready quiet .A 0x08 [7] ∧
      Ready quiet .A 0x09 [7] ∧ (0 : Byte).toNat = 0 ∧ Ready quiet .A 0x07 [0] := by decide +kernel
theorem witness_ZoneMuteActs :
    heldElsewhere sounds.groups .A (sounds.settings.zoneGroup 0) = false ∧ ArrayLaw sounds ∧
      Ready sounds .A 0x0A [numberByte (0 : Zone), flagOf true] ∧ ((sounds.crosspoints.get 0).get 0).phase = .steady 12 ∧
      1 < (2 : Byte).toNat ∧ Ready sounds .A 0x0A [numberByte (0 : Zone), 2] ∧ 24 < (25 : Byte).toNat ∧
      Ready sounds .A 0x0A [25, 1] :=
  ⟨by decide +kernel, sounds_array, by decide +kernel, by decide +kernel, by decide +kernel, by decide +kernel,
    by decide +kernel,
    by decide +kernel⟩

/-- The quiet stage with the socket of M1 in a phase, its gate PARKED. -/
def socket1 (ph : SocketPhase) (raw presence : Bool) (debounce : Option Nat) : State :=
  let s := stage [] [] fun n => (if n = 0 then .parked else .closed, .auto, 0)
  { s with sockets := s.sockets.set 0 ⟨ph, false, false, presence, raw, debounce⟩ }

theorem witness_SocketRequests_on :
    Ready quiet .A 0x0B [numberByte (0 : Channel), 1] ∧
      ((socket1 .empty false false none).sockets.get 0).phase = .empty ∧ (quiet.sockets.get 0).phase = .present .dynamic ∧
      ((socket1 (.present .condenser) true true none).sockets.get 0).phase = .present .condenser ∧
      (socket1 (.present .condenser) true true none).standby = false ∧
        GroupLaw (socket1 (.present .condenser) true true none) ∧
      TargetLaw (socket1 (.present .condenser) true true none) ∧
      (socket1 (.present .condenser) true true none).eligible 0 = false :=
  ⟨by decide +kernel, by decide +kernel, by decide +kernel, by decide +kernel, rfl, by constructor <;> decide +kernel,
    by decide +kernel, by decide +kernel⟩
theorem witness_SocketRequests_value : 1 < (2 : Byte).toNat ∧ Ready quiet .A 0x0B [numberByte (0 : Channel), 2] := by
  decide +kernel
theorem witness_SocketRequests_index :
    16 < (17 : Byte).toNat ∧ (0 : Byte).toNat = 0 ∧ Ready quiet .A 0x0B [17, 1] ∧ Ready quiet .A 0x0B [17, 0] ∧
      Ready quiet .A 0x0B [0, 2] ∧ Ready quiet .A 0x0C [17] := by decide +kernel
theorem witness_SocketRequests_off :
    let s : State := { oneOpen with sockets := oneOpen.sockets.set 0 ⟨.powered, true, false, true, true, none⟩ }
    Ready s .A 0x0B [numberByte (0 : Channel), 0] ∧ GroupLaw s ∧ (s.sockets.get 0).phase = .powered ∧
      Ready s .A 0x0C [numberByte (0 : Channel)] ∧ (s.sockets.get 0).phase ≠ .empty ∧ s.standby = false :=
  ⟨by decide +kernel, by constructor <;> decide +kernel, by decide +kernel, by decide +kernel, by decide +kernel, rfl⟩
theorem witness_ResumeAndRearm :
    let s : State := { quiet with
      override := ⟨.latched, false, false, none⟩, zones := .ofFn fun _ => ⟨false, false, true, false, true, false⟩
      clock := .start .locked }
    Ready s .A 0x10 [] ∧ Ready s .A 0x11 [] ∧ s.override.state = .latched ∧ quiet.override.state = .idle ∧
      s.clock.state = .locked ∧ (Clock.start .holdover).state = .holdover ∧ ArrayLaw s :=
  ⟨by decide +kernel, by decide +kernel, rfl, rfl, rfl, rfl,
    arrayLaw_of_ok (by decide +kernel) (by decide +kernel) (by decide +kernel)⟩
theorem witness_FreezeAndResetRequests : Ready quiet .A 0x12 [] ∧ Ready quiet .A 0x15 [] ∧ [(0 : Byte)] ≠ [] ∧
    Ready quiet .A 0x12 [0] ∧ Ready quiet .A 0x15 [0] ∧ Ready quiet .A 0x13 [0] ∧ Ready quiet .A 0x14 [0] ∧
    Ready quiet .A 0x10 [0] ∧ Ready quiet .A 0x11 [0] ∧ Ready quiet .A 0x0D [0] := by decide +kernel

/-- The stage asleep: every channel PARKED, every zone with STANDBY. -/
def asleep : State :=
  { stage [] [] (fun _ => (.parked, .auto, 0)) with
    standby := true, zones := .ofFn fun _ => ⟨false, false, false, true, false, false⟩ }

theorem asleep_standby : StandbyLaw asleep := by decide +kernel
theorem witness_StandbyAndWake :
    Ready sounds .A 0x13 [] ∧ sounds.standby = false ∧ GroupLaw sounds ∧ ArrayLaw sounds ∧ StandbyLaw sounds ∧
      (sounds.groups.get 0).members ≠ [] ∧ Ready asleep .A 0x14 [] ∧ asleep.standby = true ∧ GroupLaw asleep ∧
      StandbyLaw asleep :=
  ⟨by decide +kernel, rfl, sounds_groups, sounds_array, by decide +kernel, by decide +kernel, by decide +kernel, rfl,
    by constructor <;> decide +kernel, asleep_standby⟩
theorem witness_ItemsStartAndAreOvertaken_start :
    State.reset.held = false ∧ State.reset.engine.flight = none ∧ State.reset.engine.queue = .all :: [] := by decide +kernel

/-- The quiet stage with an item in flight and a queue. -/
def flying (f : Flight) (queue : List Item) : State :=
  { quiet with engine := { quiet.engine with flight := some f, queue := queue } }

/-- An item in flight for M1, and one for every channel. -/
def flightOne : Flight := .channel 0 ⟨some ⟨0, 0, 0⟩, 16384, 0, 0⟩ (.ofFn fun _ => .delivered) 150
def flightAll : Flight := .all (.ofFn fun _ => ⟨some ⟨0, 0, 0⟩, 16384, 0, 0⟩) (.ofFn fun _ => .delivered) 150

theorem witness_ItemsStartAndAreOvertaken_dropped :
    (flying flightOne [.channel 0]).engine.flight = some flightOne ∧
      Item.channel 0 ∈ (flying flightOne [.channel 0]).engine.queue ∧
      (flying flightAll [.all]).engine.flight = some flightAll ∧ Item.all ∈ (flying flightAll [.all]).engine.queue ∧
      quiet.engine.queue = [] := by decide +kernel
theorem witness_ChannelItemDelivers :
    let s := flying flightOne [.channel 1]
    s.held = false ∧ s.engine.flight = some flightOne ∧ Item.channel 0 ∉ s.engine.queue ∧ Item.all ∉ s.engine.queue ∧
      GroupLaw s ∧ TargetLaw s ∧ (s.gates.get 0).mode ≠ .forceOpen :=
  ⟨rfl, rfl, by decide +kernel, by decide +kernel, by constructor <;> decide +kernel, by decide +kernel, by decide +kernel⟩
/-- Every channel PARKED and not ALIGNED, as after a reset, M1 in FORCE_OPEN; an item in flight. -/
def unaligned (f : Flight) : State :=
  let s := stage [] [] fun n => (.parked, if n = 0 then .forceOpen else .auto, 0)
  { s with engine := { s.engine with flight := some f, aligned := .ofFn fun _ => false } }

theorem witness_ChannelItemDelivers_forced :
    let s := unaligned flightOne
    s.held = false ∧ s.engine.flight = some flightOne ∧ Item.channel 0 ∉ s.engine.queue ∧ Item.all ∉ s.engine.queue ∧
      GroupLaw s ∧ TargetLaw s ∧ (s.gates.get 0).mode = .forceOpen ∧ (s.gates.get 0).state = .parked ∧
      s.eligible 0 = true ∧ s.settings.channelGroup 0 = some 0 :=
  ⟨rfl, rfl, by decide +kernel, by decide +kernel, by constructor <;> decide +kernel, by decide +kernel, by decide +kernel,
    by decide +kernel, by decide +kernel, by decide +kernel⟩
theorem witness_AllItemDelivers_parked :
    let s := unaligned flightAll
    s.held = false ∧ s.engine.flight = some flightAll ∧ Item.all ∉ s.engine.queue ∧ GroupLaw s ∧ TargetLaw s ∧
      ∀ n, (s.gates.get n).state = .parked ∧ s.eligible n = true :=
  ⟨rfl, rfl, by decide +kernel, by constructor <;> decide +kernel, by decide +kernel, by decide +kernel⟩
theorem witness_AllItemDelivers :
    let s := flying flightAll [.channel 1]
    s.held = false ∧ s.engine.flight = some flightAll ∧ Item.all ∉ s.engine.queue ∧ GroupLaw s ∧ TargetLaw s ∧
      ∀ n, (s.gates.get n).state ≠ .parked :=
  ⟨rfl, rfl, by decide +kernel, by constructor <;> decide +kernel, by decide +kernel, by decide +kernel⟩
theorem witness_GroupItemDelivers :
    let members : List MemberInputs := [⟨0, true, .ofFn fun _ => (12, false)⟩, ⟨1, false, .ofFn fun _ => (0, false)⟩]
    (flying (.group 0 members (.ofFn fun _ => 4) 6 4) []).held = false ∧ (members.map MemberInputs.channel).Nodup := by
  decide +kernel
theorem witness_CrosspointsReact :
    PhaseLaw none .silent ∧ PhaseLaw (some 14) (.steady 14) ∧ PhaseLaw (some 14) (.ramping 160 240 240) ∧
      PhaseLaw none (.crossfading 0 5 160 (some 3) 480 0) :=
  ⟨phaseLaw_of_ok (by decide +kernel), phaseLaw_of_ok (by decide +kernel), phaseLaw_of_ok (by decide +kernel),
    phaseLaw_of_ok (by decide +kernel)⟩
theorem witness_FadesRunStraightAndEnd :
    (2400 : Nat) ≤ 2400 ∧ 0 < 2400 ∧
      (((crosspoint 0 4 (.ramping 14 480 0) (some 14) 0 quiet).crosspoints.get 0).get 4).phase = .ramping 14 480 0 ∧
      (((crosspoint 0 4 (.crossfading 12 5 160 (some 9) 480 0) (some 12) 0 quiet).crosspoints.get 0).get 4).phase =
        .crossfading 12 5 160 (some 9) 480 0 := by decide +kernel

/-- L = 90, 102 and 103 of a channel, and digital silence, as sums of squares (R82). -/
def sum90 : Nat := 1068122436898
def sum102 : Nat := 268300225643
def sum103 : Nat := 239122827806

theorem witness_MeasurementsMoveTheGate :
    (∀ st ∈ [GateState.parked, .closed, .opened, .holding, .lastOn],
      let s := heard 0 sum103 (stage [] [] fun n => (if n = 0 then st else .closed, .auto, if st = .holding then 2 else 0))
      s.held = false ∧ (s.gates.get 0).detector.done = some sum103 ∧ TargetLaw s ∧ (s.gates.get 0).state = st) ∧
    measurementOf sum103 = 103 ∧ measurementOf sum102 = 102 ∧ measurementOf sum90 = 90 ∧
    (quiet.settings.channels.get 0).threshold + 12 = 102 := by decide +kernel
theorem witness_HoldCountdownEnds :
    let s := heard 0 sum103 (stage [⟨0, .auto, 240⟩] [] fun n => if n = 0 then (.holding, .auto, 1) else (.closed, .auto, 0))
    s.held = false ∧ (s.gates.get 0).detector.done = some sum103 ∧ GroupLaw s ∧ TargetLaw s ∧
      (s.gates.get 0).state = .holding ∧
      (s.groups.get 0).holds 0 = true ∧ (s.settings.channels.get 0).threshold + 12 < measurementOf sum103 ∧
      (s.gates.get 0).holdCounter = 1 ∧ (s.settings.groupRecord 0).lastHold = false ∧ (s.groups.get 0).waiting = [] :=
  ⟨rfl, by decide +kernel, by constructor <;> decide +kernel, by decide +kernel, by decide +kernel, by decide +kernel,
    by decide +kernel, by decide +kernel, by decide +kernel, by decide +kernel⟩

/-- What the statement on AUTO candidates asks of a state, of M16 measuring 90 in G1. -/
abbrev Candidate (s : State) : Prop :=
  s.held = false ∧ (s.gates.get 15).detector.done = some sum90 ∧ TargetLaw s ∧ (s.gates.get 15).state = .closed ∧
    (s.gates.get 15).mode = .auto ∧ s.settings.channelGroup 15 = some 0 ∧
    measurementOf sum90 ≤ (s.settings.channels.get 15).threshold

theorem witness_AutoCandidatesAreDecided_room : Candidate (heard 15 sum90 quiet) ∧ GroupLaw (heard 15 sum90 quiet) ∧
    (quiet.groups.get 0).members.length < (quiet.settings.groupRecord 0).maxOpen :=
  ⟨by decide +kernel, by constructor <;> decide +kernel, by decide +kernel⟩
theorem witness_AutoCandidatesAreDecided_full (latest : Nat) (h : latest = 101 ∨ latest = 102) :
    Candidate (heard 15 sum90 (full .auto latest)) ∧ GroupLaw (heard 15 sum90 (full .auto latest)) ∧
    ((full .auto latest).settings.groupRecord 0).maxOpen ≤ ((full .auto latest).groups.get 0).members.length ∧
    Mix.quietest ((full .auto latest).groups.get 0).members = some ⟨0, .auto, latest⟩ ∧
    ∀ m ∈ ((full .auto latest).groups.get 0).members, ((full .auto latest).gates.get m.channel).state ≠ .lastOn := by
  rcases h with rfl | rfl
  · exact ⟨by decide +kernel, by constructor <;> decide +kernel, by decide +kernel, by decide +kernel, by decide +kernel⟩
  · exact ⟨by decide +kernel, by constructor <;> decide +kernel, by decide +kernel, by decide +kernel, by decide +kernel⟩
theorem witness_AutoCandidatesAreDecided_lastOn :
    let s := stage [⟨0, .auto, 240⟩] [] fun n => (if n = 0 then .lastOn else .closed, .auto, 0)
    let s : State := { s with settings := { s.settings with
      groups := s.settings.groups.set 0 ((s.settings.groups.get 0).set 0 ⟨true, 0, 4, true⟩) } }
    Candidate (heard 15 sum90 s) ∧ GroupLaw (heard 15 sum90 s) ∧ (s.groups.get 0).members = [⟨0, .auto, 240⟩] ∧
      (s.gates.get 0).state = .lastOn :=
  ⟨by decide +kernel, by constructor <;> decide +kernel, by decide +kernel, by decide +kernel⟩
theorem witness_SocketEvents :
    ((socket1 .empty true false (some 0)).sockets.get 0) = ⟨.empty, false, false, false, true, some 0⟩ ∧
      ((socket1 (.sensing 0) true true none).sockets.get 0).phase = .sensing 0 ∧
        GroupLaw (socket1 (.sensing 0) true true none) ∧
      ((socket1 (.ramping 0) true true none).sockets.get 0).phase = .ramping 0 ∧
        GroupLaw (socket1 (.ramping 0) true true none) :=
  ⟨by decide +kernel, by decide +kernel, by constructor <;> decide +kernel, by decide +kernel,
    by constructor <;> decide +kernel⟩
/-- A socket in each of the states whose sensing current and supply the statement gives. -/
theorem witness_SocketEvents_levels : ∀ ph ∈ [SocketPhase.sensing 4800, .ramping 9600, .ramping 0, .powered, .fault, .empty],
    ((socket1 ph true true none).sockets.get 0).phase = ph ∧ (socket1 ph true true none).held = false := by decide +kernel
/-- Readings of the common-mode path that stay within a tenth of the earlier, that change by more, and that come and go. -/
theorem witness_SocketEvents_readings :
    (∀ r ∈ [[some 90910, some 100000], [some 100001], [none, none]], List.Pairwise (fun a b => WithinATenth a b) r) ∧
    ∀ r ∈ [[some 90909, some 100000], [some 100, some 108, some 117], [none, some 1], [some 1, none]],
      ¬List.Pairwise (fun a b => WithinATenth a b) r := by
  simp [WithinATenth]
/-- The edges of the overcurrent test: 12,001 µA, 240 samples, a ramp that has run 240 samples, and one that has run 239. -/
theorem witness_SocketEvents_overcurrent :
    (∀ ph ∈ [SocketPhase.powered, .ramping 9360, .ramping 9361, .present .condenser],
      ((socket1 ph true true none).sockets.get 0).phase = ph ∧ (socket1 ph true true none).held = false) ∧
    (12000 < 12001 ∧ 240 ≤ 240 ∧ 9360 + 240 ≤ 9600 ∧ ¬9361 + 240 ≤ 9600) ∧
    GroupLaw { oneOpen with sockets := oneOpen.sockets.set 0 ⟨.powered, true, false, true, true, none⟩ } ∧
    GroupLaw (socket1 (.ramping 9360) true true none) ∧ GroupLaw (socket1 (.ramping 9361) true true none) :=
  ⟨by decide +kernel, by decide, by constructor <;> decide +kernel, by constructor <;> decide +kernel,
    by constructor <;> decide +kernel⟩
theorem witness_SocketEvents_live :
    let s : State := { oneOpen with sockets := oneOpen.sockets.set 0 ⟨.powered, true, false, true, false, some 0⟩ }
    s.held = false ∧ GroupLaw s ∧ (s.sockets.get 0).phase = .powered ∧ (s.sockets.get 0).debounce = some 0 ∧
      (s.sockets.get 0).raw = false ∧ (s.sockets.get 0).presence = true ∧ (s.groups.get 0).holds 0 = true :=
  ⟨rfl, by constructor <;> decide +kernel, by decide +kernel, by decide +kernel, by decide +kernel, by decide +kernel,
    by decide +kernel⟩
theorem witness_TheLineTakesOverAndLatches :
    let s : State := { sounds with override := ⟨.latched, true, false, some 0⟩ }
    let r : State := { quiet with
      override := ⟨.active, false, true, some 0⟩, zones := quiet.zones.modify 3 fun z => { z with taken := true } }
    s.held = false ∧ s.override.debounce = some 0 ∧ s.override.raw = true ∧ s.override.debounced = false ∧
      s.override.state ≠ .active ∧ ArrayLaw s ∧ r.override.debounce = some 0 ∧ r.override.raw = false ∧
      r.override.debounced = true ∧ r.override.state = .active ∧ ArrayLaw r :=
  ⟨rfl, rfl, rfl, rfl, by decide +kernel, arrayLaw_of_ok (by decide +kernel) (by decide +kernel) (by decide +kernel),
    rfl, rfl,
    rfl, rfl, arrayLaw_of_ok (by decide +kernel) (by decide +kernel) (by decide +kernel)⟩
theorem witness_ClockEvents :
    (∀ st ∈ [ClockState.internal, .locking, .locked, .holdover],
      ({ quiet with clock := .start st } : State).clock.state = st) ∧
      quiet.held = false ∧ ({ Clock.start .locking with run := some 0 } : Clock).run = some 0 ∧
      ({ Clock.start .locked with gap := some 0 } : Clock).gap = some 0 ∧ quiet.settings.system.autoSilence = true ∧
      ArrayLaw { sounds with clock := { Clock.start .locked with gap := some 0 } } :=
  ⟨by decide +kernel, rfl, rfl, rfl, by decide +kernel,
    arrayLaw_of_ok (by decide +kernel) (by decide +kernel) (by decide +kernel)⟩

/-- The stage with M1 open and contact K8 closing, bound to an action. -/
def contact8 (a : ContactAction) : State :=
  { oneOpen with
    contacts := oneOpen.contacts.set 7 ⟨true, false, some 0⟩
    settings := { oneOpen.settings with contactIn := oneOpen.settings.contactIn.set 7 ⟨a, false, 20⟩ } }

theorem witness_ContactsAct :
    (∀ a ∈ [ContactAction.none, .arrange 3, .arrange 0, .move 0 none, .zoneMuteWhile 23, .forceClosedWhile 0],
      (contact8 a).held = false ∧ ((contact8 a).contacts.get 7).debounce = some 0 ∧
      ((contact8 a).contacts.get 7).raw ≠ ((contact8 a).contacts.get 7).debounced ∧ TargetLaw (contact8 a) ∧
      ((contact8 a).contacts.get 7).raw ≠ ((contact8 a).settings.contactIn.get 7).activeOpen ∧
      ((contact8 a).settings.contactIn.get 7).action = a ∧ ∀ g, ((contact8 a).groups.get g).holder = none) ∧
    GroupLaw (contact8 (.forceClosedWhile 0)) ∧ (3 : Arrangement) ≠ oneOpen.settings.active :=
  ⟨by decide +kernel, by constructor <;> decide +kernel, by decide +kernel⟩
/-- A while-action that begins and one that ends: M1, open in AUTO, forced open or closed; M1, forced open, let go. -/
theorem witness_ContactsAct_modes :
    let ends : State := { forcedByK8 with contacts := forcedByK8.contacts.set 7 ⟨false, true, some 0⟩ }
    (∀ x ∈ [(contact8 (.forceOpenWhile 0), ContactAction.forceOpenWhile 0),
        (contact8 (.forceClosedWhile 0), .forceClosedWhile 0), (ends, .forceOpenWhile 0)],
      x.1.held = false ∧ (x.1.contacts.get 7).debounce = some 0 ∧ (x.1.contacts.get 7).raw ≠ (x.1.contacts.get 7).debounced ∧
      TargetLaw x.1 ∧ (x.1.settings.contactIn.get 7).action = x.2) ∧
    GroupLaw (contact8 (.forceOpenWhile 0)) ∧ GroupLaw ends ∧
      (ends.contacts.get 7).raw = (ends.settings.contactIn.get 7).activeOpen ∧ (ends.gates.get 0).portMode = .auto :=
  ⟨by decide +kernel, by constructor <;> decide +kernel, by constructor <;> decide +kernel, by decide +kernel,
    by decide +kernel⟩
theorem witness_InputSamplesAreStored : quiet.held = false ∧ DelayLaw quiet ∧ 0 < quiet.settings.window 15 ∧
    16383 < quiet.settings.window 15 ∧ quiet.standby = false ∧ asleep.standby = true :=
  ⟨rfl, quiet_delay, by decide +kernel, by decide +kernel, rfl, rfl⟩
theorem witness_OutputSamplesAreFormed :
    sounds.held = false ∧ (sounds.zones.get 0).taken = false ∧ ((sounds.crosspoints.get 0).get 0).phase = .steady 12 ∧
      (∀ n j, ((quiet.crosspoints.get n).get j).phase = .silent) ∧
      ((socket1 (.sensing 4800) true true (some 1)).sockets.get 0).debounce = some 1 ∧
      ((socket1 (.sensing 4800) true true (some 1)).sockets.get 0).phase = .sensing 4800 := by decide +kernel
theorem witness_ComputationOfAResult :
    (17179869183 : Nat) < 2 ^ 34 ∧ (-100 : Int) ≤ 400 ∧ 0 < 325240 ∧
      (⟨none, 16384, 0, 0⟩ : ChannelInputs).station = none ∧
      distance ⟨4000, 1800, 500⟩ ⟨3800, 2000, 150⟩ < 600 ∧ (0 : Nat) = ZoneRec.delivered.guardRadius := by decide +kernel
theorem witness_GainsAreNearest : (0 : Rat) ≤ 0 ∧ (160 : Rat) ≤ 160 ∧ (0 : Rat) ≤ 160 := by decide +kernel
theorem witness_MeasurementsAreNearest : 0 < sum90 ∧ sum90 ≤ 480 * 8388608 ^ 2 := by decide +kernel
theorem witness_EveryStep_laws :
    DelayLaw quiet ∧ QueueLaw State.reset ∧ TemperatureLaw State.reset ∧ ArrayLaw sounds ∧ TapLaw sounds ∧ GroupLaw sounds ∧
      SettingsLaw quiet ∧ OverrideLaw quiet ∧ ContactLaw forcedByK8 ∧ StandbyLaw asleep ∧ EventLaw quiet ∧ PortLaw quiet :=
  ⟨quiet_delay, by decide +kernel, by decide +kernel, sounds_array, sounds_taps, sounds_groups, quiet_settings,
    by decide +kernel, by decide +kernel, asleep_standby, quiet_events, by rintro ⟨⟩ <;> trivial⟩
theorem witness_EveryStep_together :
    (TapLaw sounds ∧ GroupLaw sounds ∧ ArrayLaw sounds ∧ SettingsLaw sounds) ∧ GroupLaw asleep ∧ SettingsLaw asleep ∧
      step sounds = .next sounds ∧ step asleep = .next asleep ∧ step quiet = .next quiet :=
  ⟨⟨sounds_taps, sounds_groups, sounds_array, by decide +kernel⟩, by constructor <;> decide +kernel, by decide +kernel,
    rfl, rfl, rfl⟩
theorem witness_EveryStep_powerOn :
    let s : State := { quiet with pending := [.powerOnReset] }
    (∃ rest, s.pending = .powerOnReset :: rest) ∧ (∃ t, step s = .next t) ∧ ∃ t, exec (.runtimeReset .A) quiet = .next t :=
  ⟨⟨_, rfl⟩, ⟨_, rfl⟩, ⟨_, rfl⟩⟩
theorem witness_FrozenGeometryStays :
    let s : State := { quiet with frozen := true, pending := [.itemStart] }
    s.pending = .itemStart :: [] ∧ Instr.itemStart ≠ .powerOnReset ∧ s.frozen = true ∧ ∃ t, step s = .next t :=
  ⟨rfl, by decide, rfl, _, rfl⟩
theorem witness_SettingsAndHolders : ∃ t, exec (.holdGroup .A [1]) quiet = .next t := ⟨_, rfl⟩

end Sys2Proof.Tests
end

section
/-! SUPPORT. What the bytes of a STATION and a ZONE entry are read back as, what the asks of a STATION write leave of the
engine, and the reply to a write of either table. -/

namespace Sys2Proof

/-- The records of a table are those of its numbers. -/
theorem Table.mem_cells {n : Nat} {α : Type} {t : Table n α} {a : α} : a ∈ t.cells ↔ ∃ i, t.get i = a := by
  constructor
  · intro h
    obtain ⟨i, hi, rfl⟩ := List.mem_iff_getElem.mp h
    exact ⟨⟨i, t.size ▸ hi⟩, rfl⟩
  · rintro ⟨i, rfl⟩
    exact List.getElem_mem _

end Sys2Proof

namespace Sys2Proof.Machine

open Sys2Proof.Safety

/-! ### Words, points and names in an entry -/

/-- A two-byte field is read back as the number that was written. -/
theorem wordAt_wordOf_append {n : Nat} (h : n < 65536) (rest : List Byte) : wordAt (wordOf n ++ rest) 0 = n := by
  have high : natAt (wordOf n ++ rest) 0 = n / 256 % 256 := by simp [natAt, byteAt, wordOf, byteOf]
  have low : natAt (wordOf n ++ rest) 1 = n % 256 := by simp [natAt, byteAt, wordOf, byteOf]
  rw [wordAt, high, low]
  omega

/-- Behind a two-byte field the bytes are those of the rest. -/
theorem wordAt_skip_wordOf (n i : Nat) (rest : List Byte) : wordAt (wordOf n ++ rest) (i + 2) = wordAt rest i := rfl

@[simp] theorem Point.bytes_length (p : Point) : p.bytes.length = 6 := rfl

/-- A point is read back from its bytes. -/
theorem pointAt_bytes_append (p : Point) (rest : List Byte) : pointAt (p.bytes ++ rest) 0 = p := by
  have word (x : BitVec 16) (bs : List Byte) : BitVec.ofNat 16 (wordAt (wordOf x.toNat ++ bs) 0) = x := by
    rw [wordAt_wordOf_append x.isLt, BitVec.ofNat_toNat, BitVec.setWidth_eq]
  simp only [pointAt, Point.bytes, List.append_assoc, wordAt_skip_wordOf _ 0, wordAt_skip_wordOf _ 2, word]

/-- A name is read back from the bytes that follow a point. -/
theorem nameAt_bytes_append (p : Point) (name : Table 8 Byte) : nameAt (p.bytes ++ name.cells) 6 = name := by
  apply Table.ext_get
  intro k
  have hk : k.val < name.cells.length := by rw [name.size]; exact k.isLt
  rw [nameAt, Table.get_ofFn, byteAt, List.getD_append_right _ _ _ _ (by simp), Point.bytes_length,
    Nat.add_sub_cancel_left, List.getD_eq_getElem _ _ hk]
  rfl

/-- The entry of a station record carries that record. -/
theorem stationOf_entry (r : StationRec) : stationOf r.entry = r := by
  rw [stationOf, StationRec.entry, pointAt_bytes_append, nameAt_bytes_append]

theorem StationRec.entry_length (r : StationRec) : r.entry.length = 14 := by
  simp [StationRec.entry, r.name.size]

/-- A name is refused exactly for a character outside 32 to 126 (R1). -/
theorem nameValid_eq_false {name : Table 8 Byte} :
    nameValid name = false ↔ ∃ i, (name.get i).toNat < 32 ∨ 126 < (name.get i).toNat := by
  simp only [nameValid, List.all_eq_false, Table.mem_cells, exists_exists_eq_and, Bool.and_eq_true, decide_eq_true_eq,
    not_and_or, not_le]

/-- The index word of an entry names that entry. -/
theorem indexed_indexWord {n : Nat} (i : Fin n) (hn : n ≤ 65536) : indexed n (indexWord i).toNat = some i := by
  have : (indexWord i).toNat = i.val := by
    rw [BitVec.toNat_ofNat, Nat.mod_eq_of_lt (by omega)]
  rw [this, indexed_of_lt i.isLt]

/-- A write of an entry of the right size under its own index goes to the owner of the table. -/
theorem writeEntry_indexWord {n size : Nat} {entry : List Byte} {s : State} {own : Fin n → Reply} (i : Fin n)
    (hn : n ≤ 65536) (h : entry.length = size) : writeEntry size (indexWord i) entry s own = own i :=
  writeEntry_of_some h (indexed_indexWord i hn)

/-! ### The asks of a STATION write (R3) -/

/-- CHANNEL items asked one after another: the queue takes each in turn, and the flag of each channel asked is
cleared. -/
theorem Engine.askChannel_foldl (ns : List Channel) (e : Engine) :
    ns.foldl (fun e n => e.askChannel n) e = { e with
      queue := ns.foldl (fun q n => mergeItem (.channel n) q) e.queue
      aligned := .ofFn fun n => e.aligned.get n && !ns.contains n } := by
  induction ns generalizing e with
  | nil =>
    have : (Table.ofFn fun n => e.aligned.get n && !([] : List Channel).contains n) = e.aligned :=
      Table.ext_get fun n => by simp
    rw [this]
    rfl
  | cons m ns ih =>
    have cleared : (Table.ofFn fun n => (e.askChannel m).aligned.get n && !ns.contains n) =
        .ofFn fun n => e.aligned.get n && !(m :: ns).contains n := by
      apply Table.ext_get
      intro n
      by_cases h : m = n
      · subst h; simp [Engine.askChannel]
      · simp [Engine.askChannel, Table.get_set_other _ _ h, Ne.symm h]
    rw [List.foldl_cons, ih, cleared]
    rfl

/-- CHANNEL(n) asked for the channels that a test picks moves the engine alone: its queue, and the flags of those
channels. -/
theorem State.askChannels_eq (chosen : Channel → Bool) (s : State) :
    s.askChannels chosen = { s with engine := { s.engine with
      queue := ((List.finRange 16).filter chosen).foldl (fun q n => mergeItem (.channel n) q) s.engine.queue
      aligned := .ofFn fun n => s.engine.aligned.get n && !chosen n } } := by
  have onEngine : s.askChannels chosen = { s with
      engine := ((List.finRange 16).filter chosen).foldl (fun e n => e.askChannel n) s.engine } :=
    List.foldl_hom (fun e : Engine => ({ s with engine := e } : State)) (g₁ := fun e n => e.askChannel n)
      (g₂ := fun s n => s.askChannel n) (init := s.engine) fun _ _ => rfl
  have picked (n : Channel) : ((List.finRange 16).filter chosen).contains n = chosen n := by
    rw [Bool.eq_iff_iff, List.contains_iff_mem]
    simp
  simp only [onEngine, Engine.askChannel_foldl, picked]

/-- What an accepted STATION write leaves (R3). -/
theorem State.storeStation_eq (k : Station) (r : StationRec) (s : State) :
    s.storeStation k r = { s with
      settings := { s.settings with stations := s.settings.stations.set k r }
      engine := if r.position = (s.settings.stations.get k).position then s.engine else { s.engine with
        queue := ((List.finRange 16).filter fun n => (s.gates.get n).station == some k).foldl
          (fun q n => mergeItem (.channel n) q) s.engine.queue
        aligned := .ofFn fun n => s.engine.aligned.get n && (s.gates.get n).station != some k } } := by
  by_cases h : r.position = (s.settings.stations.get k).position
  · simp only [State.storeStation, if_pos h, if_pos h.symm]
    rfl
  · simp only [State.storeStation, if_neg h, if_neg (Ne.symm h), State.askChannels_eq]
    rfl

/-- The reply to a STATION write that carries the record `r` (R2). -/
theorem serveWriteStation_entry (k : Station) (r : StationRec) (s : State) :
    serveWriteStation (indexWord k) r.entry s =
      if s.frozen = true ∧ r ≠ s.settings.stations.get k then refuse s .frozen
      else if nameValid r.name = true then accept (s.storeStation k r) else refuse s .badValue := by
  rw [serveWriteStation, writeEntry_indexWord k (by decide) r.entry_length, stationOf_entry]

theorem exec_writeEntryStation {s : State} {p : Port} {index : BitVec 16} {e : List Byte}
    (h : Ready s p 0x02 (writeBody 1 index e)) :
    exec (.writeEntryStation p index e) s = .next (answering (serveWriteStation index e s).state p 0x02
      (serveWriteStation index e s).status (serveWriteStation index e s).body) :=
  occur_request h

/-! ### Zone records -/

/-- An entry keeps the geometry of a zone exactly where its five fields, at their limits, are those stored (R5). -/
theorem sameGeometry_zoneOf {z : ZoneRec} {e : List Byte} {k : Profile} : z.sameGeometry (zoneOf e k) = true ↔
    pointAt e 0 = z.speaker ∧ pointAt e 6 = z.listening ∧ min 1440 (wordAt e 12) = z.precedence ∧
      min 10000 (wordAt e 14) = z.nearRadius ∧ min 5000 (wordAt e 16) = z.guardRadius := by
  simp only [ZoneRec.sameGeometry, zoneOf, Bool.and_eq_true, beq_iff_eq, and_assoc, eq_comm (a := z.speaker),
    eq_comm (a := z.listening), eq_comm (a := z.precedence), eq_comm (a := z.nearRadius), eq_comm (a := z.guardRadius)]

/-- An entry keeps the alignment fields of a zone exactly where it keeps the geometry and the trim (R6). -/
theorem sameAlignment_zoneOf {z : ZoneRec} {e : List Byte} {k : Profile} : z.sameAlignment (zoneOf e k) = true ↔
    z.sameGeometry (zoneOf e k) = true ∧ min 60 (natAt e 18) = z.trim := by
  rw [ZoneRec.sameAlignment, Bool.and_eq_true, beq_iff_eq, eq_comm (a := z.trim)]
  rfl

/-- A field was clamped exactly where one of the four lies beyond its limit (R5). -/
theorem zoneClamped_eq_true {e : List Byte} : zoneClamped e = true ↔
    1440 < wordAt e 12 ∨ 10000 < wordAt e 14 ∨ 5000 < wordAt e 16 ∨ 60 < natAt e 18 := by
  simp only [zoneClamped, Bool.or_eq_true, decide_eq_true_eq, or_assoc]

/-- What an accepted ZONE write leaves (R6). -/
theorem State.storeZone_eq (j : Zone) (r : ZoneRec) (s : State) :
    s.storeZone j r = { s with
      settings := { s.settings with zones := s.settings.zones.set j r }
      engine := if (s.settings.zones.get j).sameAlignment r = true then s.engine else s.engine.askAll } := by
  by_cases h : (s.settings.zones.get j).sameAlignment r = true
  · simp only [State.storeZone, if_pos h]
    rfl
  · simp only [State.storeZone, if_neg h]
    rfl

/-- The reply to a ZONE write of the right size, its checks in the order of R5. -/
theorem serveWriteZone_of_length (j : Zone) {e : List Byte} (he : e.length = 21) (s : State) :
    serveWriteZone (indexWord j) e s =
      if s.frozen = true ∧
          ¬(s.settings.zones.get j).sameGeometry (zoneOf e (s.settings.zones.get j).profile) = true then
        refuse s .frozen
      else if s.override.state ≠ .idle ∧ (s.settings.zones.get j).member ≠ (byteAt e 20).getLsbD 0 then
        refuse s .overrideActive
      else if h : 1 ≤ natAt e 19 ∧ natAt e 19 ≤ 4 then
        acceptClamped (zoneClamped e) (s.storeZone j (zoneOf e ⟨natAt e 19 - 1, by omega⟩))
      else refuse s .badValue := by
  rw [serveWriteZone, writeEntry_indexWord j (by decide) he]
  by_cases h : 1 ≤ natAt e 19 ∧ natAt e 19 ≤ 4
  · simp only [numbered_of_le h.1 h.2, dif_pos h]
    rfl
  · simp only [numbered_eq_none.mpr (by omega : natAt e 19 = 0 ∨ 4 < natAt e 19), dif_neg h]
    rfl

theorem exec_writeEntryZone {s : State} {p : Port} {index : BitVec 16} {e : List Byte}
    (h : Ready s p 0x02 (writeBody 2 index e)) :
    exec (.writeEntryZone p index e) s = .next (answering (serveWriteZone index e s).state p 0x02
      (serveWriteZone index e s).status (serveWriteZone index e s).body) :=
  occur_request h

end Sys2Proof.Machine
end

section
/-! PROOFS. Writes of the STATION and ZONE tables (R2, R3, R5, R6). -/

namespace Sys2Proof.Machine

open Sys2Proof.Safety

/-- Settles O10, check by check in the order of R2 and of R5: each case names the reply and what it leaves. -/
theorem stationAndZoneWrites : Obligations.StationAndZoneWrites := by
  unfold Obligations.StationAndZoneWrites
  constructor
  · intro s p k r ready
    rw [exec_writeEntryStation ready, serveWriteStation_entry]
    by_cases frozen : s.frozen = true ∧ r ≠ s.settings.stations.get k
    · simp only [if_pos frozen, refuse_state, refuse_status, refuse_body]
    · cases name : nameValid r.name with
      | false =>
        simp only [if_neg frozen, if_pos (nameValid_eq_false.mp name), Bool.false_eq_true, if_false, refuse_state,
          refuse_status, refuse_body]
      | true =>
        have fits : ¬∃ i, (r.name.get i).toNat < 32 ∨ 126 < (r.name.get i).toNat := by
          rw [← nameValid_eq_false, name]; decide
        simp only [if_neg frozen, if_neg fits, if_true, accept_state, accept_status, accept_body, State.storeStation_eq]
  · intro s p j e length ready
    simp only [exec_writeEntryZone ready, serveWriteZone_of_length j length,
      ← sameGeometry_zoneOf (k := (s.settings.zones.get j).profile), ne_comm (a := (byteAt e 20).getLsbD 0)]
    by_cases frozen :
        s.frozen = true ∧ ¬(s.settings.zones.get j).sameGeometry (zoneOf e (s.settings.zones.get j).profile) = true
    · simp only [if_pos frozen, refuse_state, refuse_status, refuse_body]
    · by_cases silenced : s.override.state ≠ .idle ∧ (s.settings.zones.get j).member ≠ (byteAt e 20).getLsbD 0
      · simp only [if_neg frozen, if_pos silenced, refuse_state, refuse_status, refuse_body]
      · by_cases profile : 1 ≤ natAt e 19 ∧ natAt e 19 ≤ 4
        · simp only [if_neg frozen, if_neg silenced, dif_pos profile, acceptClamped_state,
            acceptClamped_status, acceptClamped_body, State.storeZone_eq, sameAlignment_zoneOf,
            zoneClamped_eq_true]
          rfl
        · simp only [if_neg frozen, if_neg silenced, dif_neg profile, refuse_state, refuse_status, refuse_body]

end Sys2Proof.Machine
end

section
/-! SUPPORT. The search of chapter 2's arithmetic, the integer square root, rounding and clamping, and the rounding of
logarithms. -/

namespace Sys2Proof.Machine

open Sys2Proof.Safety

/-! ### The search bit by bit -/

/-- The search ends at a number that the test admits, where it begins at one. -/
theorem greatest_admitted {P : Nat → Bool} {k r : Nat} (h : P r = true) : P (greatest P k r) = true := by
  induction k generalizing r with
  | zero => exact h
  | succ k ih =>
    rw [greatest]
    by_cases up : P (r + 2 ^ k) = true
    · rw [if_pos up]; exact ih up
    · rw [if_neg up]; exact ih h

/-- The next number after the one that the search ends at is refused, where the end of its range is. -/
theorem greatest_succ_refused {P : Nat → Bool} {k r : Nat} (h : P (r + 2 ^ k) = false) :
    P (greatest P k r + 1) = false := by
  induction k generalizing r with
  | zero => exact h
  | succ k ih =>
    rw [greatest]
    by_cases up : P (r + 2 ^ k) = true
    · rw [if_pos up]
      refine ih ?_
      rwa [Nat.add_assoc, ← Nat.two_mul, ← Nat.pow_succ']
    · rw [if_neg up]; exact ih (Bool.not_eq_true _ ▸ up)

/-! ### Distances (R21) -/

/-- Over its range the square root of R21 is the library's. -/
theorem isqrt_eq_sqrt {m : Nat} (h : m < 2 ^ 34) : isqrt m = Nat.sqrt m := by
  have admitted := greatest_admitted (P := fun r => decide (r * r ≤ m)) (k := 17) (r := 0) (by simp)
  have refused := greatest_succ_refused (P := fun r => decide (r * r ≤ m)) (k := 17) (r := 0) (by simpa using h)
  rw [decide_eq_true_eq] at admitted
  rw [decide_eq_false_iff_not, not_le] at refused
  exact Nat.eq_sqrt.mpr ⟨admitted, refused⟩

theorem squaredGap_le (a b : BitVec 16) : squaredGap a b ≤ 65535 ^ 2 :=
  Nat.pow_le_pow_left (by omega) 2

theorem squaredGap_comm (a b : BitVec 16) : squaredGap a b = squaredGap b a := by
  rw [squaredGap, squaredGap, ← Int.natAbs_neg, neg_sub]

@[simp] theorem squaredGap_self (a : BitVec 16) : squaredGap a a = 0 := by simp [squaredGap]

/-- The sum of the squared coordinate differences of two points. -/
def squaredDistance (p q : Point) : Nat := squaredGap p.x q.x + squaredGap p.y q.y + squaredGap p.z q.z

theorem squaredDistance_le (p q : Point) : squaredDistance p q ≤ 12884508675 := by
  have hx := squaredGap_le p.x q.x
  have hy := squaredGap_le p.y q.y
  have hz := squaredGap_le p.z q.z
  rw [squaredDistance]
  omega

theorem distance_eq_sqrt (p q : Point) : distance p q = Nat.sqrt (squaredDistance p q) :=
  isqrt_eq_sqrt (m := squaredDistance p q) (by have := squaredDistance_le p q; omega)

theorem distance_comm (p q : Point) : distance p q = distance q p := by
  simp only [distance, squaredGap_comm q.x, squaredGap_comm q.y, squaredGap_comm q.z]

@[simp] theorem distance_self (p : Point) : distance p p = 0 := by simp [distance_eq_sqrt, squaredDistance]

theorem distance_le (p q : Point) : distance p q ≤ 113509 := by
  have : squaredDistance p q < 113510 * 113510 := by have := squaredDistance_le p q; omega
  rw [distance_eq_sqrt]
  exact Nat.le_of_lt_succ (Nat.sqrt_lt.mpr this)

/-- The square root of the largest sum of squares, between the squares of 113,509 and of 113,510. -/
theorem distance_oppositeCorners : distance ⟨0, 0, 0⟩ ⟨65535, 65535, 65535⟩ = 113509 := by
  have sum : squaredDistance ⟨0, 0, 0⟩ ⟨65535, 65535, 65535⟩ = 12884508675 := rfl
  rw [distance_eq_sqrt, sum]
  exact (Nat.eq_sqrt.mpr (by omega)).symm

/-! ### The speed of sound, rounding and clamping (R23, R25, R27) -/

/-- 606·t/10 is the division that rounds towards minus infinity. -/
theorem speedOfSound_bounds (t : Int) :
    10 * (speedOfSound t - 331300) ≤ 606 * t ∧ 606 * t < 10 * (speedOfSound t - 331300) + 10 := by
  rw [speedOfSound]
  omega

/-- The quotient that `roundAway` takes is the whole number nearest to a/b, halves upwards. -/
theorem roundedQuotient_bounds (a : Nat) {b : Nat} (hb : 0 < b) :
    2 * ((2 * a + b) / (2 * b) * b) ≤ 2 * a + b ∧ 2 * a < 2 * ((2 * a + b) / (2 * b) * b) + b := by
  have low := Nat.div_mul_le_self (2 * a + b) (2 * b)
  have high := Nat.lt_div_mul_add (a := 2 * a + b) (b := 2 * b) (by omega)
  have regroup : (2 * a + b) / (2 * b) * (2 * b) = 2 * ((2 * a + b) / (2 * b) * b) := Nat.mul_left_comm ..
  omega

/-- A rounded fraction times its denominator: the rounded magnitude with the numerator's sign. -/
theorem roundAway_mul (num : Int) (den : Nat) :
    roundAway num den * den = if num < 0 then -(((2 * num.natAbs + den) / (2 * den) * den : Nat) : Int)
      else (((2 * num.natAbs + den) / (2 * den) * den : Nat) : Int) := by
  rw [roundAway]
  by_cases negative : num < 0
  · rw [if_pos negative, if_pos negative, Int.neg_mul, Int.natCast_mul]
  · rw [if_neg negative, if_neg negative, Int.natCast_mul]

/-- The rounded fraction is nearest, and a half is rounded away from zero. -/
theorem roundAway_nearest (num : Int) {den : Nat} (hden : 0 < den) :
    2 * |num - roundAway num den * den| ≤ den ∧
      (2 * |num - roundAway num den * den| = den → |num| ≤ |roundAway num den * den|) := by
  have bounds := roundedQuotient_bounds num.natAbs hden
  rw [roundAway_mul]
  generalize (2 * num.natAbs + den) / (2 * den) * den = m at bounds
  simp only [Int.abs_eq_natAbs]
  split <;> omega

theorem clampDelay_delay (d : Int) (w : Nat) : (clampDelay d w).delay = (max 0 (min d ((w : Int) - 1))).toNat := by
  rw [clampDelay]
  split_ifs <;> simp only <;> omega

theorem clampDelay_low {d : Int} {w : Nat} : (clampDelay d w).low = true ↔ d < 0 := by
  rw [clampDelay]
  split_ifs <;> simp [*]

theorem clampDelay_high {d : Int} {w : Nat} :
    (clampDelay d w).high = true ↔ 0 ≤ d ∧ ((w : Int) ≤ d ∧ (0 < w ∨ 0 < d)) := by
  rw [clampDelay]
  split_ifs <;> simp only [decide_eq_true_eq, false_iff, true_iff] <;> omega

/-! ### The guard and the result (R19, R20, R28, R29) -/

theorem guardedAt_eq_true {z : ZoneRec} {d : Nat} :
    guardedAt z d = true ↔ z.guardRadius ≠ 0 ∧ d < z.guardRadius := by
  rw [guardedAt, Bool.and_eq_true, bne_iff_ne, decide_eq_true_eq]

theorem composeLevel_le (trim master proximity count : Nat) : composeLevel trim master proximity count ≤ 160 :=
  min_le_left ..

/-- Stage 5's outcome for a talker at a station. -/
def clampedAt (station : Point) (c : ChannelInputs) (z : ZoneRec) (t : Int) : Clamped :=
  clampDelay (rawDelay ((distance station z.listening : Int) - distance z.speaker z.listening) t + z.precedence)
    c.window

theorem computeAt_guarded {p : Point} {c : ChannelInputs} {z : ZoneRec} {t : Int}
    (h : guardedAt z (distance z.speaker p) = true) :
    computeAt p c z t =
      ⟨some (clampedAt p c z t).delay, none, 0, (clampedAt p c z t).low, (clampedAt p c z t).high, true⟩ := by
  simp only [computeAt, if_pos h, clampedAt]

theorem computeAt_unguarded {p : Point} {c : ChannelInputs} {z : ZoneRec} {t : Int}
    (h : ¬guardedAt z (distance z.speaker p) = true) :
    computeAt p c z t =
      let near := proximityPart z (distance p z.listening)
      ⟨some (clampedAt p c z t).delay, some (composeLevel z.trim c.master near c.openCount), near,
        (clampedAt p c z t).low, (clampedAt p c z t).high, false⟩ := by
  simp only [computeAt, if_neg h, clampedAt]

/-! ### Rounded logarithms (R30, R32) -/

/-- A whole number is not above c·log10(a/b) rounded with halves up exactly where powers of whole numbers say so. -/
theorem le_roundedLog_iff {a b : Nat} (ha : 0 < a) (hb : 0 < b) (c k : Nat) :
    (k : Int) ≤ ⌊(c : ℝ) * Real.logb 10 ((a : ℝ) / b) + 1 / 2⌋ ↔
      10 ^ (2 * k) * b ^ (2 * c) ≤ 10 * a ^ (2 * c) := by
  have ha' : (0 : ℝ) < a := Nat.cast_pos.mpr ha
  have hb' : (0 : ℝ) < b := Nat.cast_pos.mpr hb
  have logs : Real.logb 10 (10 * ((a : ℝ) / b) ^ (2 * c)) = 1 + (2 * c : ℕ) * Real.logb 10 ((a : ℝ) / b) := by
    rw [Real.logb_mul (by norm_num) (by positivity), Real.logb_self_eq_one (by norm_num), Real.logb_pow]
  calc (k : Int) ≤ ⌊(c : ℝ) * Real.logb 10 ((a : ℝ) / b) + 1 / 2⌋
      ↔ (k : ℝ) ≤ (c : ℝ) * Real.logb 10 ((a : ℝ) / b) + 1 / 2 := by rw [Int.le_floor, Int.cast_natCast]
    _ ↔ ((2 * k : ℕ) : ℝ) ≤ Real.logb 10 (10 * ((a : ℝ) / b) ^ (2 * c)) := by
      rw [logs]; push_cast; constructor <;> intro h <;> linarith
    _ ↔ (10 : ℝ) ^ (2 * k) ≤ 10 * ((a : ℝ) / b) ^ (2 * c) := by
      rw [Real.le_logb_iff_rpow_le (by norm_num) (by positivity), Real.rpow_natCast]
    _ ↔ (10 : ℝ) ^ (2 * k) * (b : ℝ) ^ (2 * c) ≤ 10 * (a : ℝ) ^ (2 * c) := by
      rw [div_pow, ← mul_div_assoc, le_div_iff₀ (by positivity)]
    _ ↔ 10 ^ (2 * k) * b ^ (2 * c) ≤ 10 * a ^ (2 * c) := by exact_mod_cast Iff.rfl

/-- c·log10(a/b) rounded with halves up is the whole number that lies between the two powers. -/
theorem roundedLog_eq {a b c k : Nat} (ha : 0 < a) (hb : 0 < b)
    (low : 10 ^ (2 * k) * b ^ (2 * c) ≤ 10 * a ^ (2 * c))
    (high : 10 * a ^ (2 * c) < 10 ^ (2 * (k + 1)) * b ^ (2 * c)) :
    (k : Int) = ⌊(c : ℝ) * Real.logb 10 ((a : ℝ) / b) + 1 / 2⌋ := by
  have atLeast := (le_roundedLog_iff ha hb c k).mpr low
  have below := mt (le_roundedLog_iff ha hb c (k + 1)).mp (not_le.mpr high)
  push_cast at below
  omega

/-- The first four entries are at the limit of R30. -/
theorem proximityTable_limited : ∀ i : Fin 64, i.val < 4 →
    proximityTable.getD i.val 0 = 48 ∧ 10 ^ (2 * 48) * (i.val + 1) ^ (2 * 40) ≤ 10 * 64 ^ (2 * 40) := by decide

/-- The other entries lie below the limit, each between the powers that `roundedLog_eq` asks for. -/
theorem proximityTable_between : ∀ i : Fin 64, 4 ≤ i.val →
    proximityTable.getD i.val 0 < 48 ∧
      10 ^ (2 * proximityTable.getD i.val 0) * (i.val + 1) ^ (2 * 40) ≤ 10 * 64 ^ (2 * 40) ∧
      10 * 64 ^ (2 * 40) < 10 ^ (2 * (proximityTable.getD i.val 0 + 1)) * (i.val + 1) ^ (2 * 40) := by decide

/-- R30's formula for an entry of the proximity table. -/
theorem proximityTable_eq_roundedLog (i : Fin 64) :
    (proximityTable.getD i.val 0 : Int) = min 48 ⌊40 * Real.logb 10 (64 / ((i.val : ℝ) + 1)) + 1 / 2⌋ := by
  rcases lt_or_ge i.val 4 with h | h
  · obtain ⟨entry, power⟩ := proximityTable_limited i h
    have := (le_roundedLog_iff (by decide) i.val.succ_pos 40 48).mpr power
    push_cast at this
    rw [entry, min_eq_left this]
    rfl
  · obtain ⟨limit, low, high⟩ := proximityTable_between i h
    have := roundedLog_eq (by decide) i.val.succ_pos low high
    push_cast at this
    rw [← this, min_eq_right (by omega)]

theorem proximityTable_falls : proximityTable.Pairwise (· ≥ ·) := by decide

theorem proximityTable_antitone {i j : Nat} (hij : i ≤ j) (hj : j < 64) :
    proximityTable.getD j 0 ≤ proximityTable.getD i 0 := by
  have inside {k : Nat} (hk : k < 64) : k < proximityTable.length := hk
  rcases hij.eq_or_lt with rfl | hlt
  · exact le_rfl
  · rw [List.getD_eq_getElem _ _ (inside hj), List.getD_eq_getElem _ _ (inside (hlt.trans hj))]
    exact List.pairwise_iff_getElem.mp proximityTable_falls i j _ _ hlt

/-- The open-count table lies between the powers that `roundedLog_eq` asks for. -/
theorem nom_between : ∀ n < 9, 1 ≤ n →
    10 ^ (2 * nom n) * 1 ^ (2 * 20) ≤ 10 * n ^ (2 * 20) ∧
      10 * n ^ (2 * 20) < 10 ^ (2 * (nom n + 1)) * 1 ^ (2 * 20) := by decide

/-- R32's formula for an open count of 1 to 8. -/
theorem nom_eq_roundedLog {n : Nat} (h1 : 1 ≤ n) (h8 : n ≤ 8) :
    (nom n : Int) = ⌊20 * Real.logb 10 (n : ℝ) + 1 / 2⌋ := by
  obtain ⟨low, high⟩ := nom_between n (by omega) h1
  have := roundedLog_eq h1 one_pos low high
  rwa [Nat.cast_one, div_one] at this

/-! ### Temperature reports (R38, R56) -/

/-- Two bytes read as a signed field are their 16-bit word in two's complement. -/
theorem intAt_pair (hi lo : Byte) : intAt [hi, lo] 0 = (hi ++ lo : BitVec 16).toInt := by
  have word : (hi ++ lo : BitVec 16).toNat = wordAt [hi, lo] 0 := by
    rw [BitVec.toNat_append, ← Nat.shiftLeft_add_eq_or_of_lt lo.isLt, Nat.shiftLeft_eq]
    rfl
  rw [intAt, BitVec.toInt_eq_toNat_cond, word]
  omega

theorem limitTemperature_eq_self {t : Int} : limitTemperature t = t ↔ -100 ≤ t ∧ t ≤ 400 := by
  rw [limitTemperature]
  omega

theorem beyondDeadband_eq_true {reported inUse : Int} :
    beyondDeadband reported inUse = true ↔ 5 ≤ |reported - inUse| := by
  rw [beyondDeadband, decide_eq_true_eq, Int.abs_eq_natAbs]
  omega

/-- A report moves the engine alone. -/
theorem State.reportTemperature_eq (t : Int) (s : State) :
    s.reportTemperature t = { s with
      engine := if 5 ≤ |t - s.engine.inUse| then
          { s.engine with reported := t, tempUnset := false, queue := [.all], aligned := .ofFn fun _ => false }
        else { s.engine with reported := t, tempUnset := false } } := by
  by_cases h : 5 ≤ |t - s.engine.inUse|
  · simp only [State.reportTemperature, beyondDeadband_eq_true, if_pos h]
    rfl
  · simp only [State.reportTemperature, beyondDeadband_eq_true, if_neg h]

/-- What a report of two bytes is answered: stored at its limits, and CLAMPED posted where it lies beyond them. -/
theorem serveSetTemperature_pair (hi lo : Byte) (s : State) :
    serveSetTemperature [hi, lo] s =
      let raw := (hi ++ lo : BitVec 16).toInt
      let told := s.reportTemperature (limitTemperature raw)
      if -100 ≤ raw ∧ raw ≤ 400 then accept told else acceptClamped true (told.post .clamped) := by
  rw [serveSetTemperature, sized_of_length (size := 2) rfl, intAt_pair]
  simp only [← limitTemperature_eq_self]
  split
  case isTrue within => rw [within]
  case isFalse => rfl

theorem exec_setTemperature {s : State} {p : Port} {body : List Byte} (h : Ready s p 0x05 body) :
    exec (.setTemperature p body) s = .next (answering (serveSetTemperature body s).state p 0x05
      (serveSetTemperature body s).status (serveSetTemperature body s).body) :=
  occur_request h

end Sys2Proof.Machine
end

section
/-! PROOFS. The arithmetic of a result (R19 to R33), the fixed tables (R30, R32) and temperature reports (R38, R56). -/

namespace Sys2Proof.Machine

/-- Settles O45, stage by stage; the guard decides between the two results at a station. -/
theorem computationOfAResult : Obligations.ComputationOfAResult := by
  unfold Obligations.ComputationOfAResult
  refine ⟨⟨?root, ?points, distance_oppositeCorners, ?sound, fun num den => roundAway_nearest num,
    fun d w => ⟨clampDelay_delay d w, clampDelay_low, clampDelay_high⟩, fun z d => guardedAt_eq_true,
    composeLevel_le⟩, fun c z t => ⟨?nowhere, ?station⟩⟩
  case root =>
    intro m hm
    rw [isqrt_eq_sqrt hm]
    exact ⟨Nat.sqrt_le' m, Nat.lt_succ_sqrt' m⟩
  case points =>
    intro p q
    change distance p q = isqrt (squaredDistance p q) ∧ distance p q ^ 2 ≤ squaredDistance p q ∧
      squaredDistance p q < (distance p q + 1) ^ 2 ∧ squaredDistance p q ≤ 12884508675 ∧ _
    refine ⟨rfl, ?_, ?_, squaredDistance_le p q, distance_comm p q, distance_self p, distance_le p q⟩
    · rw [distance_eq_sqrt]; exact Nat.sqrt_le' _
    · rw [distance_eq_sqrt]; exact Nat.lt_succ_sqrt' _
  case sound =>
    intro t cold hot
    have bounds := speedOfSound_bounds t
    omega
  case nowhere =>
    intro absent
    rw [fullResult, absent]
    rfl
  case station =>
    intro p here
    have full : fullResult c z t = computeAt p c z t := by rw [fullResult, here]
    refine ⟨fun guarded => ?_, fun clear => ?_⟩
    · rw [full, computeAt_guarded (guardedAt_eq_true.mpr guarded)]
      rfl
    · rw [full, computeAt_unguarded (by rw [guardedAt_eq_true]; omega)]
      rfl

/-- Settles O46: each table against the powers of ten between which its entries lie. -/
theorem fixedTables : Obligations.FixedTables := by
  unfold Obligations.FixedTables
  exact ⟨rfl, proximityTable_eq_roundedLog, fun _ _ => proximityTable_antitone, rfl, fun _ => nom_eq_roundedLog⟩

/-- Settles O21: the report within its limits, and beyond them. -/
theorem temperatureReports : Obligations.TemperatureReports := by
  unfold Obligations.TemperatureReports
  intro s p hi lo ready
  rw [exec_setTemperature ready, serveSetTemperature_pair]
  by_cases within : -100 ≤ (hi ++ lo : BitVec 16).toInt ∧ (hi ++ lo : BitVec 16).toInt ≤ 400
  · simp only [if_pos within, accept_state, accept_status, accept_body, State.reportTemperature_eq]
    rfl
  · simp only [if_neg within, acceptClamped_state, acceptClamped_status, acceptClamped_body,
      State.reportTemperature_eq]
    rfl

end Sys2Proof.Machine
end

section
/-! SUPPORT. What a command can do to the alignment engine, said once for every command: asks on the queue (R42, R43), a
report of the temperature (R38, R56), the start of the next item (R46, R47), and the two resets (R58). -/

namespace Sys2Proof.Machine

open Sys2Proof.Safety

/-! ### The operations that leave the engine alone, and those that ask -/

@[simp] theorem State.reEvaluate_engine (n : Channel) (s : State) : (s.reEvaluate n).engine = s.engine :=
  (OnlyMix.reEvaluate s n).engine

@[simp] theorem State.reEvaluateAll_engine (ns : List Channel) (s : State) :
    (s.reEvaluateAll ns).engine = s.engine :=
  (OnlyMix.reEvaluateAll ns s).engine

@[simp] theorem State.parkIneligible_engine (ns : List Channel) (s : State) :
    (s.parkIneligible ns).engine = s.engine :=
  (OnlyMix.parkIneligible ns s).engine

@[simp] theorem State.reMode_engine (n : Channel) (s : State) : (s.reMode n).engine = s.engine := rfl

@[simp] theorem State.reAct_engine (a : ContactAction) (s : State) : (s.reAct a).engine = s.engine := by
  cases a <;> rfl

@[simp] theorem State.setPortMode_engine (n : Channel) (mode : GateMode) (s : State) :
    (s.setPortMode n mode).engine = s.engine := by
  unfold State.setPortMode
  split <;> rfl

@[simp] theorem State.moveTo_engine (n : Channel) (st : Option Station) (s : State) :
    (s.moveTo n st).engine = s.engine.askChannel n := by
  simp [State.moveTo]

@[simp] theorem State.switchTo_engine (k : Arrangement) (s : State) : (s.switchTo k).engine = s.engine.askAll := by
  simp [State.switchTo]

@[simp] theorem State.moveWindow_engine (n : Channel) (c : ChannelRec) (s : State) :
    (s.moveWindow n c).engine = s.engine.askChannel n := by
  simp [State.moveWindow]

@[simp] theorem State.autoPowerOn_engine (n : Channel) (before c : ChannelRec) (s : State) :
    (s.autoPowerOn n before c).engine = s.engine := by
  unfold State.autoPowerOn
  split <;> rfl

@[simp] theorem State.groupDisabled_engine (g : Group) (s : State) : (s.groupDisabled g).engine = s.engine := by
  simp [State.groupDisabled]

@[simp] theorem State.groupResized_engine (g : Group) (before after : Nat) (s : State) :
    (s.groupResized g before after).engine = s.engine := by
  unfold State.groupResized
  split
  · rfl
  · split <;> rfl

@[simp] theorem State.groupHoldCleared_engine (g : Group) (s : State) : (s.groupHoldCleared g).engine = s.engine := rfl

/-- Of the effects of a GROUP write only a new master attenuation asks (R105). -/
@[simp] theorem State.groupEffects_engine (g : Group) (before after : GroupRec) (s : State) :
    (s.groupEffects g before after).engine =
      if before.master = after.master then s.engine else s.engine.askGroup g := by
  simp only [State.groupEffects, apply_ite State.engine, State.askGroup_engine, State.groupHoldCleared_engine,
    State.groupResized_engine, State.reEvaluateAll_engine, State.groupDisabled_engine, ite_self]

@[simp] theorem State.changeGroup_engine (n : Channel) (s : State) : (s.changeGroup n).engine =
    (s.engine.askCounts s.groups (s.onMix (Mix.leaveOldGroup s.settings n)).groups).askChannel n := by
  simp [State.changeGroup]

@[simp] theorem State.sendFeeds_engine (s : State) : s.sendFeeds.engine = s.engine := by
  unfold State.sendFeeds
  split <;> rfl

/-- A delivery of full results sets ALIGNED flags and leaves the rest of the engine (R55). -/
@[simp] theorem State.deliverFull_engine (chosen : Channel → Bool) (result : Channel → Zone → Result) (s : State) :
    (s.deliverFull chosen result).engine =
      { s.engine with aligned := s.engine.aligned.map fun n b => chosen n || b } := by
  unfold State.deliverFull
  split <;> rfl

/-! ### Asks -/

/-- What asks can make of a queue (R42, R43). -/
inductive AskedQueue (q : List Item) : List Item → Prop where
  | none : AskedQueue q q
  | merge {r : List Item} (i : Item) (notAll : i ≠ .all) (before : AskedQueue q r) : AskedQueue q (mergeItem i r)
  | all : AskedQueue q [.all]

/-- An engine that has been asked for items and nothing else: the item in flight and the temperatures stand (R42,
R43). -/
structure Engine.Asked (e e' : Engine) : Prop where
  queue : AskedQueue e.queue e'.queue
  flight : e'.flight = e.flight
  reported : e'.reported = e.reported
  inUse : e'.inUse = e.inUse

namespace Engine.Asked

variable {e f : Engine}

theorem refl (e : Engine) : e.Asked e := ⟨.none, rfl, rfl, rfl⟩

theorem of_eq (h : f = e) : e.Asked f := h ▸ refl e

theorem askChannel (h : e.Asked f) (n : Channel) : e.Asked (f.askChannel n) :=
  { h with queue := .merge (.channel n) nofun h.queue }

theorem askGroup (h : e.Asked f) (g : Group) : e.Asked (f.askGroup g) :=
  { h with queue := .merge (.group g) nofun h.queue }

theorem askAll (h : e.Asked f) : e.Asked f.askAll := { h with queue := .all }

/-- The GROUP asks of R111 are asks. -/
theorem askCounts (h : e.Asked f) (before after : Table 6 GroupState) : e.Asked (f.askCounts before after) := by
  unfold Engine.askCounts
  refine List.foldlRecOn (motive := e.Asked) _ _ h fun f h g _ => ?_
  split
  · exact h
  · exact h.askGroup g

/-- Setting ALIGNED flags leaves the queue, the item in flight and the temperatures. -/
theorem setAligned (e : Engine) (flags : Table 16 Bool) : e.Asked { e with aligned := flags } :=
  ⟨.none, rfl, rfl, rfl⟩

end Engine.Asked

theorem State.askChannels_asked (chosen : Channel → Bool) (s : State) :
    s.engine.Asked (s.askChannels chosen).engine :=
  List.foldlRecOn (motive := fun t : State => s.engine.Asked t.engine) _ _ (.refl _) fun _ h n _ => h.askChannel n

/-! ### Going on with the queue -/

/-- The engine goes on with its queue (R46): it becomes IDLE, or starts the head item; an ALL item takes the reported
temperature into use, and has it among its inputs (R47). -/
inductive Engine.GoesOn (e : Engine) : Engine → Prop where
  | idle (empty : e.queue = []) : GoesOn e { e with flight := none }
  | starts {i : Item} {rest : List Item} {f : Flight} (head : e.queue = i :: rest)
      (taken : i = .all → ∃ inputs zones, f = .all inputs zones e.reported) :
      GoesOn e { e.copyTemperature i with queue := rest, flight := some f }

/-- A start takes the head item, with the inputs as they stand (R47). -/
theorem State.startItem_goesOn {s : State} {i : Item} {rest : List Item} (head : s.engine.queue = i :: rest) :
    s.engine.GoesOn (s.startItem i rest).engine := by
  refine .starts head ?_
  rintro rfl
  exact ⟨_, _, rfl⟩

theorem State.nextItem_goesOn (s : State) : s.engine.GoesOn s.nextItem.engine := by
  unfold State.nextItem
  split
  case h_1 empty => exact .idle empty
  case h_2 i rest head => exact s.startItem_goesOn head

/-! ### Everything a step can do to the engine -/

/-- What a step that takes the command `front`, or none, can make of the engine. -/
inductive EngineStep (front : Option Instr) (e : Engine) : Engine → Prop where
  /-- asks alone, or nothing -/
  | asked {e' : Engine} (asks : e.Asked e') : EngineStep front e e'
  /-- a temperature stored at its limits, and ALL asked beyond the deadband (R38, R56) -/
  | told {e' : Engine} (inRange : TemperatureInRange e'.reported) (inUse : e'.inUse = e.inUse)
      (flight : e'.flight = e.flight)
      (queue : e'.queue = if beyondDeadband e'.reported e.inUse then [.all] else e.queue) : EngineStep front e e'
  /-- the next item, at a start or at the completion of the item in flight (R46) -/
  | wentOn {mid e' : Engine}
      (completes : ∀ inputs zones t, e.flight = some (.all inputs zones t) → front = some .allItemComplete)
      (asks : e.Asked mid) (next : mid.GoesOn e') : EngineStep front e e'
  /-- a runtime reset (R58) -/
  | restarted : EngineStep front e e.restart
  /-- a power-on reset (R58) -/
  | poweredOn (reset : front = some .powerOnReset) : EngineStep front e .powerOn

namespace EngineStep

variable {front : Option Instr} {e : Engine} {s : State}

theorem kept {e' : Engine} (h : e' = e) : EngineStep front e e' := .asked (.of_eq h)

theorem accepted {t : State} (h : EngineStep front e t.engine) : EngineStep front e (accept t).state.engine := h

/-- An event acts unless the part is held. -/
theorem occur {t : State} {f : State → State} (h : Machine.occur f s = .next t)
    (acts : EngineStep front s.engine (f s).engine) : EngineStep front s.engine t.engine := by
  cases held : s.held with
  | false => rw [occur_of_awake held] at h; cases h; exact acts
  | true => rw [occur_of_held held] at h; cases h; exact .kept rfl

/-- A request does to the engine what serving it does, or nothing. -/
theorem request {p : Port} {kind : Byte} {body : List Byte} {reset : Bool} {f : State → Reply}
    (served : EngineStep front s.engine (f s).state.engine) :
    EngineStep front s.engine (s.request p kind body reset f).engine := by
  obtain h | h | h := s.request_cases p kind body reset f <;> rw [h]
  · exact served
  · exact .kept rfl
  · exact .kept rfl

theorem requestEvent {t : State} {p : Port} {kind : Byte} {body : List Byte} {reset : Bool} {f : State → Reply}
    (h : Machine.occur (fun s => s.request p kind body reset f) s = .next t)
    (served : EngineStep front s.engine (f s).state.engine) : EngineStep front s.engine t.engine :=
  .occur h (.request served)

theorem naming {n size : Nat} {body : List Byte} {own : Fin n → Reply}
    (h : ∀ i, EngineStep front s.engine (own i).state.engine) :
    EngineStep front s.engine (Machine.naming size body s own).state.engine := by
  unfold Machine.naming
  split
  · exact .kept rfl
  · split
    · exact .kept rfl
    · exact h _

theorem sized {size : Nat} {body : List Byte} {own : Reply} (h : EngineStep front s.engine own.state.engine) :
    EngineStep front s.engine (Machine.sized size body s own).state.engine := by
  unfold Machine.sized
  split
  · exact .kept rfl
  · exact h

theorem writeEntry {n size : Nat} {index : BitVec 16} {entry : List Byte} {own : Fin n → Reply}
    (h : ∀ i, EngineStep front s.engine (own i).state.engine) :
    EngineStep front s.engine (Machine.writeEntry size index entry s own).state.engine := by
  unfold Machine.writeEntry
  split
  · exact .kept rfl
  · split
    · exact .kept rfl
    · exact h _

/-- The asks and the re-evaluation that end an event whose operations leave the engine alone (R63, R111). -/
theorem settle {u : State} (h : u.engine = s.engine) (before : State) :
    EngineStep front s.engine (u.settle before).engine :=
  .asked ((Engine.Asked.of_eq h).askCounts _ _)

theorem settleClock {u : State} (h : u.engine = s.engine) (before : State) (zones : Zone → Bool) :
    EngineStep front s.engine (u.settleClock before zones).engine :=
  .asked ((Engine.Asked.of_eq h).askCounts _ _)

theorem socketEvent {u : State} (h : u.engine = s.engine) (n : Channel) (before : State) :
    EngineStep front s.engine (u.socketEvent n before).engine :=
  .settle (by simpa using h) before

end EngineStep

end Sys2Proof.Machine
end

section
/-! SUPPORT. Every command makes of the engine one of the things that `EngineStep` lists: the tables, the requests, the
events, and the four commands of the engine itself. -/

namespace Sys2Proof.Machine

open Sys2Proof.Safety

variable {front : Option Instr} {s t : State}

/-! ### Writes (R184) -/

theorem serveReadEntry_state (body : List Byte) (s : State) : (serveReadEntry body s).state = s := by
  unfold serveReadEntry sized
  split
  · rfl
  · split
    · rfl
    · split
      · rfl
      · split <;> rfl

theorem serveWriteReadOnly_state (body : List Byte) (s : State) : (serveWriteReadOnly body s).state = s := by
  unfold serveWriteReadOnly
  split
  · rfl
  · split
    · rfl
    · split <;> rfl

theorem State.storeStation_asked (k : Station) (r : StationRec) (s : State) :
    s.engine.Asked (s.storeStation k r).engine := by
  unfold State.storeStation
  split
  · exact .refl _
  · exact State.askChannels_asked _ (s.onSettings _)

theorem State.storeZone_asked (j : Zone) (r : ZoneRec) (s : State) : s.engine.Asked (s.storeZone j r).engine := by
  unfold State.storeZone
  split
  · exact .refl _
  · exact (Engine.Asked.refl _).askAll

theorem State.storeChannel_asked (n : Channel) (c : ChannelRec) (s : State) :
    s.engine.Asked (s.storeChannel n c).engine := by
  rw [State.storeChannel, State.autoPowerOn_engine]
  split
  · exact .refl _
  · rw [State.moveWindow_engine]
    exact (Engine.Asked.refl _).askChannel n

theorem State.storeGroup_asked (k : Arrangement) (g : Group) (r : GroupRec) (s : State) :
    s.engine.Asked (s.storeGroup k g r).engine := by
  unfold State.storeGroup
  split
  · rw [State.settle_engine, State.groupEffects_engine]
    split
    · exact (Engine.Asked.refl _).askCounts _ _
    · exact ((Engine.Asked.refl _).askGroup g).askCounts _ _
  · exact .refl _

theorem State.storeMembership_asked (k : Arrangement) (x : Zone ⊕ Channel) (g : Option Group) (s : State) :
    s.engine.Asked (s.storeMembership k x g).engine := by
  unfold State.storeMembership
  split
  · exact .refl _
  · cases x with
    | inl j => exact (Engine.Asked.refl _).askCounts _ _
    | inr n =>
      rw [State.settle_engine, State.changeGroup_engine]
      exact (((Engine.Asked.refl _).askCounts _ _).askChannel n).askCounts _ _

theorem State.storeRouting_engine (q : Port) (r : Routing) (s : State) :
    (s.storeRouting q r).engine = s.engine := by
  unfold State.storeRouting
  split <;> rfl

theorem State.storeSystem_engine (r : SystemRec) (s : State) : (s.storeSystem r).engine = s.engine := by
  unfold State.storeSystem
  split <;> rfl

theorem serveWriteStation_engineStep (index : BitVec 16) (entry : List Byte) :
    EngineStep front s.engine (serveWriteStation index entry s).state.engine := by
  refine .writeEntry fun k => ?_
  split
  · exact .kept rfl
  · split
    · exact .asked (s.storeStation_asked k _)
    · exact .kept rfl

theorem serveWriteZone_engineStep (index : BitVec 16) (entry : List Byte) :
    EngineStep front s.engine (serveWriteZone index entry s).state.engine := by
  refine .writeEntry fun j => ?_
  dsimp only
  split
  · exact .kept rfl
  · split
    · exact .kept rfl
    · split
      · exact .kept rfl
      · exact .asked (s.storeZone_asked j _)

theorem serveWriteChannel_engineStep (index : BitVec 16) (entry : List Byte) :
    EngineStep front s.engine (serveWriteChannel index entry s).state.engine := by
  refine .writeEntry fun n => ?_
  dsimp only
  split_ifs
  · exact .kept rfl
  · exact .kept rfl
  · exact .kept rfl
  · exact .kept rfl
  · split
    · exact .kept rfl
    · exact .asked (s.storeChannel_asked n _)

theorem serveWriteGroup_engineStep (p : Port) (index : BitVec 16) (entry : List Byte) :
    EngineStep front s.engine (serveWriteGroup p index entry s).state.engine := by
  refine .writeEntry fun i => ?_
  dsimp only
  split_ifs
  · exact .kept rfl
  · exact .kept rfl
  · split
    · exact .kept rfl
    · exact .asked (s.storeGroup_asked _ _ _)

theorem serveWriteMembership_engineStep (p : Port) (index : BitVec 16) (entry : List Byte) :
    EngineStep front s.engine (serveWriteMembership p index entry s).state.engine := by
  refine .writeEntry fun i => ?_
  dsimp only
  split
  · exact .kept rfl
  · split
    · exact .kept rfl
    · exact .asked (s.storeMembership_asked _ _ _)

theorem serveWriteProfile_engineStep (index : BitVec 16) (entry : List Byte) :
    EngineStep front s.engine (serveWriteProfile index entry s).state.engine :=
  .writeEntry fun _ => .kept rfl

theorem serveWriteContactIn_engineStep (index : BitVec 16) (entry : List Byte) :
    EngineStep front s.engine (serveWriteContactIn index entry s).state.engine := by
  refine .writeEntry fun k => ?_
  split
  · exact .kept rfl
  · exact .accepted (.settle (by simp) s)

theorem serveWriteContactOut_engineStep (index : BitVec 16) (entry : List Byte) :
    EngineStep front s.engine (serveWriteContactOut index entry s).state.engine := by
  refine .writeEntry fun q => ?_
  split <;> exact .kept rfl

theorem serveWriteRouting_engineStep (index : BitVec 16) (entry : List Byte) :
    EngineStep front s.engine (serveWriteRouting index entry s).state.engine := by
  refine .writeEntry fun i => ?_
  split
  · exact .kept rfl
  · exact .kept (s.storeRouting_engine _ _)

theorem serveWriteSystem_engineStep (index : BitVec 16) (entry : List Byte) :
    EngineStep front s.engine (serveWriteSystem index entry s).state.engine := by
  refine .writeEntry fun _ => ?_
  split
  · exact .kept rfl
  · exact .kept (s.storeSystem_engine _)

theorem execWriteEntryReadOnly_engineStep {p : Port} {body : List Byte}
    (h : execWriteEntryReadOnly p body s = .next t) :
    EngineStep front s.engine t.engine := by
  refine .occur h ?_
  split
  · exact .kept rfl
  · exact .request (.kept (by rw [serveWriteReadOnly_state]))

/-! ### Requests -/

theorem serveMoveSource_engineStep (p : Port) (body : List Byte) :
    EngineStep front s.engine (serveMoveSource p body s).state.engine := by
  refine .naming fun n => ?_
  split
  · exact .kept rfl
  · split
    · exact .kept rfl
    · refine .asked ?_
      rw [accept_state, State.settle_engine, State.moveTo_engine]
      exact ((Engine.Asked.refl _).askChannel n).askCounts _ _

theorem serveSetGateMode_engineStep (p : Port) (body : List Byte) :
    EngineStep front s.engine (serveSetGateMode p body s).state.engine := by
  refine .naming fun n => ?_
  split_ifs
  · exact .kept rfl
  · exact .kept rfl
  · split
    · exact .kept rfl
    · exact .accepted (.settle (by simp) s)

theorem limitTemperature_inRange (t : Int) : TemperatureInRange (limitTemperature t) := by
  unfold limitTemperature TemperatureInRange
  omega

/-- A report is stored as it is, and asks for ALL beyond the deadband (R38, R56). -/
theorem State.reportTemperature_engineStep {v : Int} (inRange : TemperatureInRange v) :
    EngineStep front s.engine (s.reportTemperature v).engine := by
  unfold State.reportTemperature
  cases beyond : beyondDeadband v s.engine.inUse <;> exact .told inRange rfl rfl (by simp [beyond, Engine.askAll])

theorem serveSetTemperature_engineStep (body : List Byte) :
    EngineStep front s.engine (serveSetTemperature body s).state.engine := by
  refine .sized ?_
  split
  case isTrue within =>
    exact State.reportTemperature_engineStep (within ▸ limitTemperature_inRange _)
  case isFalse => exact State.reportTemperature_engineStep (limitTemperature_inRange _)

theorem serveSelectArrangement_engineStep (p : Port) (body : List Byte) :
    EngineStep front s.engine (serveSelectArrangement p body s).state.engine := by
  refine .sized ?_
  split
  · exact .kept rfl
  · split
    · exact .kept rfl
    · split
      · exact .kept rfl
      · refine .asked ?_
        rw [accept_state, State.settle_engine, State.switchTo_engine]
        exact (Engine.Asked.refl _).askAll.askCounts _ _

theorem serveHoldGroup_engineStep (p : Port) (body : List Byte) :
    EngineStep front s.engine (serveHoldGroup p body s).state.engine := by
  refine .naming fun g => ?_
  split
  · exact .kept rfl
  · split <;> exact .kept rfl

theorem serveReleaseGroup_engineStep (p : Port) (body : List Byte) :
    EngineStep front s.engine (serveReleaseGroup p body s).state.engine := by
  refine .naming fun g => ?_
  split <;> exact .kept rfl

theorem serveBreakHold_engineStep (body : List Byte) :
    EngineStep front s.engine (serveBreakHold body s).state.engine := by
  refine .naming fun g => ?_
  split <;> exact .kept rfl

theorem serveZoneMute_engineStep (p : Port) (body : List Byte) :
    EngineStep front s.engine (serveZoneMute p body s).state.engine := by
  refine .naming fun j => ?_
  split
  · exact .kept rfl
  · split
    · exact .kept rfl
    · exact .accepted (.settle (by rfl) s)

theorem serveSocketPowerOn_engineStep (body : List Byte) :
    EngineStep front s.engine (serveSocketPowerOn body s).state.engine := by
  refine .naming fun n => ?_
  split
  · exact .kept rfl
  · split
    · exact .kept rfl
    · split
      · exact .kept rfl
      · exact .accepted (.socketEvent (by rfl) n s)
    · exact .kept rfl

theorem serveSocketPowerOff_engineStep (body : List Byte) :
    EngineStep front s.engine (serveSocketPowerOff body s).state.engine :=
  .naming fun n => .accepted (.socketEvent (by rfl) n s)

theorem execSetSocketPowerOn_engineStep {p : Port} {body : List Byte} (h : execSetSocketPowerOn p body s = .next t) :
    EngineStep front s.engine t.engine := by
  refine .occur h ?_
  split
  · exact .kept rfl
  · exact .request (serveSocketPowerOn_engineStep ..)

theorem execSetSocketPowerOff_engineStep {p : Port} {body : List Byte} (h : execSetSocketPowerOff p body s = .next t) :
    EngineStep front s.engine t.engine := by
  refine .occur h ?_
  split
  · exact .kept rfl
  · exact .request (serveSocketPowerOff_engineStep ..)

theorem serveResense_engineStep (body : List Byte) :
    EngineStep front s.engine (serveResense body s).state.engine := by
  refine .naming fun n => ?_
  split_ifs
  · exact .kept rfl
  · exact .kept rfl
  · exact .accepted (.socketEvent (by rfl) n s)

theorem serveClearEvents_engineStep (p : Port) (body : List Byte) :
    EngineStep front s.engine (serveClearEvents p body s).state.engine := by
  refine .sized ?_
  split <;> exact .kept rfl

theorem serveForceEvents_engineStep (p : Port) (body : List Byte) :
    EngineStep front s.engine (serveForceEvents p body s).state.engine := by
  refine .sized ?_
  split <;> exact .kept rfl

theorem serveResume_engineStep (body : List Byte) :
    EngineStep front s.engine (serveResume body s).state.engine := by
  refine .sized ?_
  split
  · exact .kept rfl
  · exact .kept rfl
  · exact .accepted (.settle (by rfl) s)

theorem serveRearm_engineStep (body : List Byte) :
    EngineStep front s.engine (serveRearm body s).state.engine := by
  refine .sized ?_
  split
  · exact .accepted (.settleClock (by rfl) s _)
  · exact .kept rfl

theorem State.enterStandby_engineStep (s : State) : EngineStep front s.engine s.enterStandby.engine := by
  unfold State.enterStandby
  extract_lets silenced told
  exact .settleClock (by simp [told, silenced]) s _

theorem State.leaveStandby_engineStep (s : State) : EngineStep front s.engine s.leaveStandby.engine := by
  unfold State.leaveStandby
  extract_lets told
  exact .settle (by simp [told]) s

theorem serveStandby_engineStep (body : List Byte) :
    EngineStep front s.engine (serveStandby body s).state.engine := by
  refine .sized ?_
  split
  · exact .kept rfl
  · exact .accepted s.enterStandby_engineStep

theorem serveWake_engineStep (body : List Byte) :
    EngineStep front s.engine (serveWake body s).state.engine := by
  refine .sized ?_
  split
  · exact .accepted s.leaveStandby_engineStep
  · exact .kept rfl

theorem execUnknownRequest_engineStep {p : Port} {kind : Byte} {body : List Byte}
    (h : execUnknownRequest p kind body s = .next t) :
    EngineStep front s.engine t.engine := by
  refine .occur h ?_
  split
  · exact .kept rfl
  · exact .request (.kept rfl)

/-! ### Events -/

theorem State.takeMeasurement_engineStep (n : Channel) (l : Nat) :
    EngineStep front s.engine (s.takeMeasurement n l).engine := by
  unfold State.takeMeasurement
  exact .settle (by rfl) s

/-- The action of a contact input asks where it moves a source or switches the arrangement (R198, R199). -/
theorem State.applyContact_asked (k : ContactIn) (s : State) : s.engine.Asked (s.applyContact k).engine := by
  unfold State.applyContact
  split
  · split
    · rw [State.moveTo_engine]
      exact (Engine.Asked.refl _).askChannel _
    · exact .refl _
  · split
    · rw [State.switchTo_engine]
      exact (Engine.Asked.refl _).askAll
    · exact .refl _
  · exact .of_eq (State.reAct_engine ..)

theorem State.receive_engine (p : Port) (c : RxChar) (s : State) : (s.receive p c).engine = s.engine := by
  unfold State.receive
  split
  · split <;> rfl
  · split
    · rfl
    · split <;> rfl
  · rfl
  · rfl

/-- The end of a response may be that of a RESET_RUNTIME (R169). -/
theorem State.endResponse_engineStep (p : Port) : EngineStep front s.engine (s.endResponse p).engine := by
  unfold State.endResponse
  split
  · exact .restarted
  · exact .kept rfl
  · exact .kept rfl

theorem execBadCheck_engineStep {p : Port} {frame : List Byte} (h : execBadCheck p frame s = .next t) :
    EngineStep front s.engine t.engine := by
  refine .occur h ?_
  split
  · split <;> exact .kept rfl
  · exact .kept rfl

theorem execFrameAbandoned_engineStep {p : Port} {c : RxChar} (h : execFrameAbandoned p c s = .next t) :
    EngineStep front s.engine t.engine := by
  refine .occur h ?_
  split <;> exact .kept rfl

theorem execInterByteTimeout_engineStep {p : Port} (h : execInterByteTimeout p s = .next t) :
    EngineStep front s.engine t.engine := by
  refine .occur h ?_
  split <;> exact .kept rfl

theorem execByteDuringService_engineStep {p : Port} (h : execByteDuringService p s = .next t) :
    EngineStep front s.engine t.engine := by
  refine .occur h ?_
  split <;> exact .kept rfl

theorem execInsertion_engineStep {n : Channel} (h : execInsertion n s = .next t) :
    EngineStep front s.engine t.engine := by
  refine .occur h ?_
  split <;> exact .kept rfl

theorem execSensingEnd_engineStep {n : Channel} {r : SenseReading} (h : execSensingEnd n r s = .next t) :
    EngineStep front s.engine t.engine := by
  refine .occur h ?_
  split
  · split <;> exact .socketEvent (by rfl) n s
  · exact .kept rfl

theorem execPhantomRampEnd_engineStep {n : Channel} (h : execPhantomRampEnd n s = .next t) :
    EngineStep front s.engine t.engine := by
  refine .occur h ?_
  split
  · exact .socketEvent (by rfl) n s
  · exact .kept rfl

theorem execOvercurrent_engineStep {x : PhantomCurrent} (h : execOvercurrent x s = .next t) :
    EngineStep front s.engine t.engine := by
  refine .occur h ?_
  split
  · exact .socketEvent (by rfl) _ s
  · exact .kept rfl

theorem execRemoval_engineStep {n : Channel} (h : execRemoval n s = .next t) :
    EngineStep front s.engine t.engine := by
  refine .occur h ?_
  split
  · split <;> exact .socketEvent (by rfl) n s
  · exact .kept rfl

theorem execOverrideAssertion_engineStep (h : execOverrideAssertion s = .next t) :
    EngineStep front s.engine t.engine := by
  refine .occur h ?_
  split
  · split
    · exact .kept rfl
    · exact .settle (by rfl) s
  · exact .kept rfl

theorem execOverrideDeassertion_engineStep (h : execOverrideDeassertion s = .next t) :
    EngineStep front s.engine t.engine := by
  refine .occur h ?_
  split
  · split
    · exact .kept rfl
    · exact .settle (by rfl) s
  · exact .kept rfl

theorem execQualificationComplete_engineStep (h : execQualificationComplete s = .next t) :
    EngineStep front s.engine t.engine := by
  refine .occur h ?_
  split <;> exact .kept rfl

theorem execClockGap_engineStep (h : execClockGap s = .next t) : EngineStep front s.engine t.engine := by
  refine .occur h ?_
  split
  · split
    · exact .kept rfl
    · exact .kept rfl
    · exact .kept rfl
    · split
      · exact .settleClock (by rfl) s _
      · exact .kept rfl
  · exact .kept rfl

theorem execContactChange_engineStep {k : ContactIn} (h : execContactChange k s = .next t) :
    EngineStep front s.engine t.engine := by
  refine .occur h ?_
  split
  · refine .asked (.askCounts ?_ _ _)
    exact State.applyContact_asked k ((s.onContact k _).post .contactChange)
  · exact .kept rfl

theorem execPulseEnd_engineStep {p : Port} (h : execPulseEnd p s = .next t) :
    EngineStep front s.engine t.engine := by
  refine .occur h ?_
  split <;> exact .kept rfl

theorem execOutputSample_engineStep (h : execOutputSample s = .next t) : EngineStep front s.engine t.engine :=
  .occur h (.kept (by simp))

theorem execInputSample_engineStep {slots : Table 17 Sample} (h : execInputSample slots s = .next t) :
    EngineStep front s.engine t.engine :=
  .occur h (.kept rfl)

theorem execMeasurementComplete_engineStep {n : Channel} (h : execMeasurementComplete n s = .next t) :
    EngineStep front s.engine t.engine := by
  refine .occur h ?_
  split
  · exact .kept rfl
  · exact State.takeMeasurement_engineStep n _

theorem execHoldCountdownEnd_engineStep {n : Channel} (h : execHoldCountdownEnd n s = .next t) :
    EngineStep front s.engine t.engine := by
  refine .occur h ?_
  split
  · exact .kept rfl
  · split
    · exact State.takeMeasurement_engineStep n _
    · exact .kept rfl

theorem execRuntimeReset_engineStep {p : Port} (h : execRuntimeReset p s = .next t) :
    EngineStep front s.engine t.engine := by
  refine .occur h ?_
  split
  · exact .restarted
  · exact .kept rfl

/-! ### The engine's own commands (R46, R50 to R52) -/

/-- A start is due only in an IDLE engine (R46). -/
theorem execItemStart_engineStep (h : execItemStart s = .next t) : EngineStep front s.engine t.engine := by
  refine .occur h ?_
  split
  case h_1 i rest idle head =>
    exact .wentOn (by simp [idle]) (.refl _) (s.startItem_goesOn head)
  case h_2 => exact .kept rfl

theorem execChannelItemComplete_engineStep {n : Channel} (h : execChannelItemComplete n s = .next t) :
    EngineStep front s.engine t.engine := by
  refine .occur h ?_
  split
  case h_1 inFlight =>
    split_ifs
    · exact .wentOn (by simp [inFlight]) (.refl _) s.nextItem_goesOn
    · refine .wentOn (by simp [inFlight]) ?_ (State.nextItem_goesOn _)
      rw [State.settle_engine, State.reEvaluate_engine, State.deliverFull_engine]
      exact (Engine.Asked.setAligned _ _).askCounts _ _
    · exact .kept rfl
  case h_2 => exact .kept rfl

theorem execAllItemComplete_engineStep (h : execAllItemComplete s = .next t) :
    EngineStep (some .allItemComplete) s.engine t.engine := by
  refine .occur h ?_
  split
  case h_1 =>
    split
    · exact .wentOn (fun _ _ _ _ => rfl) (.refl _) s.nextItem_goesOn
    · refine .wentOn (fun _ _ _ _ => rfl) ?_ (State.nextItem_goesOn _)
      rw [State.settle_engine, State.reEvaluateAll_engine, State.deliverFull_engine]
      exact (Engine.Asked.setAligned _ _).askCounts _ _
  case h_2 => exact .kept rfl

theorem execGroupItemComplete_engineStep {g : Group} (h : execGroupItemComplete g s = .next t) :
    EngineStep front s.engine t.engine := by
  refine .occur h ?_
  split
  case h_1 inFlight =>
    split
    · refine .wentOn (by simp [inFlight]) ?_ (State.nextItem_goesOn _)
      exact List.foldlRecOn (motive := fun t : State => s.engine.Asked t.engine) _ _ (.refl _) fun _ h _ _ => h
    · exact .kept rfl
  case h_2 => exact .kept rfl

/-! ### Every command -/

/-- What a command makes of the engine is one of the things that `EngineStep` lists. -/
theorem exec_engineStep {i : Instr} (h : exec i s = .next t) : EngineStep (some i) s.engine t.engine := by
  cases i with
  | readEntry p body => exact .requestEvent h (.kept (by rw [serveReadEntry_state]))
  | writeEntryStation p index entry => exact .requestEvent h (serveWriteStation_engineStep ..)
  | writeEntryZone p index entry => exact .requestEvent h (serveWriteZone_engineStep ..)
  | writeEntryChannel p index entry => exact .requestEvent h (serveWriteChannel_engineStep ..)
  | writeEntryGroup p index entry => exact .requestEvent h (serveWriteGroup_engineStep ..)
  | writeEntryMembership p index entry => exact .requestEvent h (serveWriteMembership_engineStep ..)
  | writeEntryProfile p index entry => exact .requestEvent h (serveWriteProfile_engineStep ..)
  | writeEntryContactIn p index entry => exact .requestEvent h (serveWriteContactIn_engineStep ..)
  | writeEntryContactOut p index entry => exact .requestEvent h (serveWriteContactOut_engineStep ..)
  | writeEntryPortRouting p index entry => exact .requestEvent h (serveWriteRouting_engineStep ..)
  | writeEntrySystem p index entry => exact .requestEvent h (serveWriteSystem_engineStep ..)
  | writeEntryReadOnly p body => exact execWriteEntryReadOnly_engineStep h
  | moveSource p body => exact .requestEvent h (serveMoveSource_engineStep ..)
  | setGateMode p body => exact .requestEvent h (serveSetGateMode_engineStep ..)
  | setTemperature p body => exact .requestEvent h (serveSetTemperature_engineStep ..)
  | selectArrangement p body => exact .requestEvent h (serveSelectArrangement_engineStep ..)
  | holdGroup p body => exact .requestEvent h (serveHoldGroup_engineStep ..)
  | releaseGroup p body => exact .requestEvent h (serveReleaseGroup_engineStep ..)
  | breakHold p body => exact .requestEvent h (serveBreakHold_engineStep ..)
  | zoneMute p body => exact .requestEvent h (serveZoneMute_engineStep ..)
  | setSocketPowerOn p body => exact execSetSocketPowerOn_engineStep h
  | setSocketPowerOff p body => exact execSetSocketPowerOff_engineStep h
  | resenseSocket p body => exact .requestEvent h (serveResense_engineStep ..)
  | readEvents p body => exact .requestEvent h (.sized (.kept rfl))
  | clearEvents p body => exact .requestEvent h (serveClearEvents_engineStep ..)
  | forceEvents p body => exact .requestEvent h (serveForceEvents_engineStep ..)
  | resumeAfterOverride p body => exact .requestEvent h (serveResume_engineStep ..)
  | rearmOutputs p body => exact .requestEvent h (serveRearm_engineStep ..)
  | freezeGeometry p body => exact .requestEvent h (.sized (.kept rfl))
  | standby p body => exact .requestEvent h (serveStandby_engineStep ..)
  | wake p body => exact .requestEvent h (serveWake_engineStep ..)
  | resetRuntime p body => exact .requestEvent h (.sized (.kept rfl))
  | runtimeReset p => exact execRuntimeReset_engineStep h
  | powerOnReset => cases h; exact .poweredOn rfl
  | unknownRequest p kind body => exact execUnknownRequest_engineStep h
  | badCheck p frame => exact execBadCheck_engineStep h
  | frameAbandoned p c => exact execFrameAbandoned_engineStep h
  | interByteTimeout p => exact execInterByteTimeout_engineStep h
  | byteDuringService p => exact execByteDuringService_engineStep h
  | responseEnd p => exact .occur h (State.endResponse_engineStep p)
  | itemStart => exact execItemStart_engineStep h
  | channelItemComplete n => exact execChannelItemComplete_engineStep h
  | allItemComplete => exact execAllItemComplete_engineStep h
  | groupItemComplete g => exact execGroupItemComplete_engineStep h
  | rampEnd n j => exact .occur h (.kept rfl)
  | crossfadeEnd n j => exact .occur h (.kept rfl)
  | measurementComplete n => exact execMeasurementComplete_engineStep h
  | holdCountdownEnd n => exact execHoldCountdownEnd_engineStep h
  | insertion n => exact execInsertion_engineStep h
  | sensingEnd n r => exact execSensingEnd_engineStep h
  | phantomRampEnd n => exact execPhantomRampEnd_engineStep h
  | overcurrent x => exact execOvercurrent_engineStep h
  | removal n => exact execRemoval_engineStep h
  | overrideAssertion => exact execOverrideAssertion_engineStep h
  | overrideDeassertion => exact execOverrideDeassertion_engineStep h
  | wordClockEdge periodNs => exact .occur h (.kept rfl)
  | qualificationComplete => exact execQualificationComplete_engineStep h
  | clockGap => exact execClockGap_engineStep h
  | contactChange k => exact execContactChange_engineStep h
  | pulseEnd p => exact execPulseEnd_engineStep h
  | outputSample => exact execOutputSample_engineStep h
  | inputSample slots => exact execInputSample_engineStep h
  | byteReceived p c => exact .occur h (.kept (State.receive_engine ..))
  | heldInReset => cases h; exact .kept rfl
  | rawPresenceChange n closed => cases h; exact .kept rfl
  | rawLineChange microamps => cases h; exact .kept rfl
  | rawContactChange k closed => cases h; exact .kept rfl

/-- A step takes the command at the front of the queue; without one it leaves the engine. -/
theorem step_engineStep (h : step s = .next t) : EngineStep s.pending.head? s.engine t.engine := by
  unfold step at h
  split at h
  case h_1 => cases h; exact .kept rfl
  case h_2 i rest front => rw [front]; exact exec_engineStep (s := s.setPending rest) h

end Sys2Proof.Machine
end

section
/-! PROOFS. The law of the retune queue (R44) and the law of the temperatures (R57). -/

namespace Sys2Proof.Machine

open Sys2Proof.Safety

/-! ### The queue (R44) -/

/-- No item twice, and ALL alone: the law of R44 for a queue. -/
def ItemsApart (q : List Item) : Prop := q.Nodup ∧ (Item.all ∈ q → q = [.all])

theorem queueLaw_iff (s : State) : QueueLaw s ↔ ItemsApart s.engine.queue := Iff.rfl

theorem ItemsApart.onlyAll : ItemsApart [.all] := ⟨List.nodup_singleton _, fun _ => rfl⟩

theorem ItemsApart.tail {i : Item} {q : List Item} (h : ItemsApart (i :: q)) : ItemsApart q := by
  obtain ⟨apart, alone⟩ := h
  refine ⟨apart.of_cons, fun queued => ?_⟩
  have empty : q = [] := (List.cons.inj (alone (List.mem_cons_of_mem i queued))).2
  simp [empty] at queued

/-- A merged item is new to the queue, and does not stand beside ALL (R42). -/
theorem ItemsApart.mergeItem {i : Item} {q : List Item} (h : ItemsApart q) (notAll : i ≠ .all) :
    ItemsApart (Machine.mergeItem i q) := by
  obtain ⟨kept, -⟩ | ⟨appended, noAll, isNew⟩ := mergeItem_cases i q
  · rwa [kept]
  · rw [appended]
    refine ⟨List.nodup_append.mpr ⟨h.1, List.nodup_singleton i, ?_⟩, fun queued => ?_⟩
    · rintro a queued b new rfl
      exact isNew (List.mem_singleton.mp new ▸ queued)
    · simp [noAll, notAll.symm] at queued

theorem AskedQueue.itemsApart {q r : List Item} (h : AskedQueue q r) (apart : ItemsApart q) : ItemsApart r := by
  induction h with
  | none => exact apart
  | merge i notAll _ ih => exact ih.mergeItem notAll
  | all => exact .onlyAll

theorem Engine.GoesOn.itemsApart {e e' : Engine} (h : e.GoesOn e') (apart : ItemsApart e.queue) :
    ItemsApart e'.queue := by
  cases h with
  | idle => exact apart
  | starts head => rw [head] at apart; exact apart.tail

theorem EngineStep.itemsApart {front : Option Instr} {e e' : Engine} (h : EngineStep front e e')
    (apart : ItemsApart e.queue) : ItemsApart e'.queue := by
  cases h with
  | asked asks => exact asks.queue.itemsApart apart
  | told _ _ _ queue =>
    rw [queue]
    split
    · exact .onlyAll
    · exact apart
  | wentOn _ asks next => exact next.itemsApart (asks.queue.itemsApart apart)
  | restarted => exact .onlyAll
  | poweredOn => exact .onlyAll

/-- The items other than ALL: one for each channel and one for each group. -/
def partialItems : List Item := (List.finRange 16).map .channel ++ (List.finRange 6).map .group

theorem mem_partialItems {i : Item} (h : i ≠ .all) : i ∈ partialItems := by
  cases i with
  | channel n => simp [partialItems]
  | group g => simp [partialItems]
  | all => exact absurd rfl h

/-- A queue without ALL holds at most one item for each channel and each group. -/
theorem ItemsApart.length_le {q : List Item} (h : ItemsApart q) : q.length ≤ 22 := by
  by_cases queued : Item.all ∈ q
  · simp [h.2 queued]
  · have listed : q ⊆ partialItems := fun i hi => mem_partialItems fun isAll => queued (isAll ▸ hi)
    simpa [partialItems] using (h.1.subperm listed).length_le

/-- Settles O50: each thing that a step can do to the engine keeps its queue free of repeats and ALL alone. -/
theorem everyStepKeepsTheQueueLaw : Obligations.EveryStepKeepsTheQueueLaw := by
  unfold Obligations.EveryStepKeepsTheQueueLaw
  exact ⟨fun s t law h => (queueLaw_iff t).mpr ((step_engineStep h).itemsApart law),
    fun s law => ((queueLaw_iff s).mp law).length_le⟩

/-! ### ALL in the queue and in flight (R43, R46) -/

theorem AskedQueue.all_mem {q r : List Item} (h : AskedQueue q r) (queued : Item.all ∈ q) : Item.all ∈ r := by
  induction h with
  | none => exact queued
  | merge i _ _ ih =>
    obtain ⟨kept, -⟩ | ⟨appended, -⟩ := mergeItem_cases i _
    · rwa [kept]
    · rw [appended]; exact List.mem_append_left _ ih
  | all => exact List.mem_singleton_self _

theorem Engine.GoesOn.all_queued_or_started {e e' : Engine} (h : e.GoesOn e') (queued : Item.all ∈ e.queue) :
    Item.all ∈ e'.queue ∨ ∃ inputs zones temp, e'.flight = some (.all inputs zones temp) := by
  cases h with
  | idle => exact .inl queued
  | starts head taken =>
    rw [head] at queued
    obtain isAll | later := List.mem_cons.mp queued
    · obtain ⟨inputs, zones, rfl⟩ := taken isAll.symm
      exact .inr ⟨inputs, zones, e.reported, rfl⟩
    · exact .inl later

/-- A queued ALL stays queued until it starts. -/
theorem EngineStep.all_queued_or_started {front : Option Instr} {e e' : Engine} (h : EngineStep front e e')
    (queued : Item.all ∈ e.queue) :
    Item.all ∈ e'.queue ∨ ∃ inputs zones temp, e'.flight = some (.all inputs zones temp) := by
  cases h with
  | asked asks => exact .inl (asks.queue.all_mem queued)
  | told _ _ _ queue =>
    rw [queue]
    split
    · exact .inl (List.mem_singleton_self _)
    · exact .inl queued
  | wentOn _ asks next => exact next.all_queued_or_started (asks.queue.all_mem queued)
  | restarted => exact .inl (List.mem_singleton_self _)
  | poweredOn => exact .inl (List.mem_singleton_self _)

/-- An ALL in flight stays until it completes, or until a reset queues ALL. -/
theorem EngineStep.all_in_flight {front : Option Instr} {e e' : Engine} (h : EngineStep front e e')
    {inputs : Table 16 ChannelInputs} {zones : Table 24 ZoneRec} {temp : Int}
    (inFlight : e.flight = some (.all inputs zones temp)) :
    e'.flight = e.flight ∨ Item.all ∈ e'.queue ∨ front = some .allItemComplete := by
  cases h with
  | asked asks => exact .inl asks.flight
  | told _ _ flight => exact .inl flight
  | wentOn completes => exact .inr (.inr (completes _ _ _ inFlight))
  | restarted => exact .inr (.inl (List.mem_singleton_self _))
  | poweredOn => exact .inr (.inl (List.mem_singleton_self _))

/-! ### The temperatures (R38, R56, R57) -/

/-- The law of R57 for an engine. -/
def Engine.TemperaturesTogether (e : Engine) : Prop :=
  TemperatureInRange e.reported ∧ TemperatureInRange e.inUse ∧
    (Item.all ∉ e.queue → beyondDeadband e.reported e.inUse = false)

theorem temperatureLaw_iff (s : State) : TemperatureLaw s ↔ s.engine.TemperaturesTogether := Iff.rfl

theorem Engine.Asked.temperaturesTogether {e e' : Engine} (h : e.Asked e') (law : e.TemperaturesTogether) :
    e'.TemperaturesTogether := by
  obtain ⟨reported, inUse, together⟩ := law
  unfold Engine.TemperaturesTogether
  rw [h.reported, h.inUse]
  exact ⟨reported, inUse, fun noAll => together fun queued => noAll (h.queue.all_mem queued)⟩

/-- The start of ALL makes the temperatures equal; without ALL in the queue they were together before (R47). -/
theorem Engine.GoesOn.temperaturesTogether {e e' : Engine} (h : e.GoesOn e') (law : e.TemperaturesTogether) :
    e'.TemperaturesTogether := by
  obtain ⟨reported, inUse, together⟩ := law
  cases h with
  | idle => exact ⟨reported, inUse, together⟩
  | @starts i rest f head taken =>
    by_cases isAll : i = .all
    · subst isAll
      exact ⟨reported, reported, fun _ => by simp [copyTemperature, beyondDeadband]⟩
    · have copied : e.copyTemperature i = e := if_neg isAll
      rw [copied]
      refine ⟨reported, inUse, fun noAll => together ?_⟩
      rw [head]
      simpa [Ne.symm isAll] using noAll

theorem EngineStep.temperaturesTogether {front : Option Instr} {e e' : Engine} (h : EngineStep front e e')
    (law : e.TemperaturesTogether) : e'.TemperaturesTogether := by
  have ⟨reported, inUse, _⟩ := law
  cases h with
  | asked asks => exact asks.temperaturesTogether law
  | told inRange stays _ queue =>
    refine ⟨inRange, stays ▸ inUse, fun noAll => ?_⟩
    rw [stays]
    by_contra beyond
    rw [queue, if_pos (Bool.not_eq_false _ ▸ beyond)] at noAll
    exact noAll (List.mem_singleton_self _)
  | wentOn _ asks next => exact next.temperaturesTogether (asks.temperaturesTogether law)
  | restarted => exact ⟨reported, inUse, fun noAll => absurd (List.mem_singleton_self _) noAll⟩
  | poweredOn => exact ⟨by decide, by decide, fun _ => by decide⟩

theorem Engine.GoesOn.inUse_cases {e e' : Engine} (h : e.GoesOn e') :
    e'.inUse = e.inUse ∨
      (e'.inUse = e.reported ∧ ∃ inputs zones, e'.flight = some (.all inputs zones e'.inUse)) := by
  cases h with
  | idle => exact .inl rfl
  | @starts i rest f head taken =>
    by_cases isAll : i = .all
    · obtain ⟨inputs, zones, rfl⟩ := taken isAll
      subst isAll
      exact .inr ⟨rfl, inputs, zones, rfl⟩
    · have copied : e.copyTemperature i = e := if_neg isAll
      exact .inl (by rw [copied])

/-- Where the temperature in use comes from (R57). -/
theorem EngineStep.inUse_cases {front : Option Instr} {e e' : Engine} (h : EngineStep front e e') :
    e'.inUse = e.inUse ∨
      (e'.inUse = e.reported ∧ ∃ inputs zones, e'.flight = some (.all inputs zones e'.inUse)) ∨
      (front = some .powerOnReset ∧ e'.inUse = 150 ∧ e'.reported = 150) := by
  cases h with
  | asked asks => exact .inl asks.inUse
  | told _ inUse => exact .inl inUse
  | wentOn _ asks next =>
    obtain kept | started := next.inUse_cases
    · exact .inl (kept.trans asks.inUse)
    · exact .inr (.inl (asks.reported ▸ started))
  | restarted => exact .inl rfl
  | poweredOn reset => exact .inr (.inr ⟨reset, rfl, rfl⟩)

/-- A runtime reset keeps both temperatures (R58). -/
theorem execRuntimeReset_temperatures {p : Port} {s t : State} (h : execRuntimeReset p s = .next t) :
    t.engine.inUse = s.engine.inUse ∧ t.engine.reported = s.engine.reported := by
  cases held : s.held with
  | true => rw [execRuntimeReset, occur_of_held held] at h; cases h; exact ⟨rfl, rfl⟩
  | false =>
    rw [execRuntimeReset, occur_of_awake held] at h
    cases h
    split <;> exact ⟨rfl, rfl⟩

/-- Settles O51: part by part, each read off what a step can do to the engine. -/
theorem everyStepKeepsTheTemperaturesTogether : Obligations.EveryStepKeepsTheTemperaturesTogether := by
  unfold Obligations.EveryStepKeepsTheTemperaturesTogether
  refine ⟨fun s t law h => (temperatureLaw_iff t).mpr ((step_engineStep h).temperaturesTogether law),
    fun s t h => ?inUse, fun s t h => ?powerOn, fun s t p h => execRuntimeReset_temperatures h,
    fun s t h => ⟨(step_engineStep h).all_queued_or_started, fun _ _ _ inFlight => ?inFlight⟩⟩
  case inUse => simpa only [List.head?_eq_some_iff] using (step_engineStep h).inUse_cases
  case powerOn => cases h; exact ⟨rfl, rfl⟩
  case inFlight => simpa only [List.head?_eq_some_iff] using (step_engineStep h).all_in_flight inFlight

end Sys2Proof.Machine
end

section
/-! SUPPORT. One crosspoint: what each of its operations (R63 to R68, R74, R75) keeps of the laws of R61, R63, R71 and
R75, and the straight line of a fade (R65, R67). -/

namespace Sys2Proof.Machine

open Sys2Proof.Safety

/-! ### Attenuations -/

theorem attenuationInRange_natCast {a : Nat} (h : a ≤ 160) : AttenuationInRange (a : Nat) :=
  ⟨Nat.cast_nonneg a, by exact_mod_cast h⟩

theorem attenuationInRange_160 : AttenuationInRange 160 := by
  constructor <;> norm_num

theorem attenuationInRange_fadeGoal {t : Option Nat} (h : LevelInRange t) : AttenuationInRange (fadeGoal t) := by
  cases t with
  | none => exact attenuationInRange_natCast le_rfl
  | some a => exact attenuationInRange_natCast (h a rfl)

/-- One sample's step takes a level to the mean of the goal and of the level counted once for each later sample. -/
theorem stepLevel_succ (level goal : Rat) (rem : Nat) :
    stepLevel level goal (rem + 1) = (level * rem + goal) / (rem + 1) := by
  have positive : (rem : Rat) + 1 ≠ 0 := by positivity
  rw [stepLevel]
  push_cast
  field_simp
  ring

/-- A step towards a goal within range stays within range (R71). -/
theorem attenuationInRange_stepLevel {level goal : Rat} (rem : Nat) (hlevel : AttenuationInRange level)
    (hgoal : AttenuationInRange goal) : AttenuationInRange (stepLevel level goal (rem + 1)) := by
  obtain ⟨level_nonneg, level_le⟩ := hlevel
  obtain ⟨goal_nonneg, goal_le⟩ := hgoal
  rw [stepLevel_succ]
  refine ⟨by positivity, ?_⟩
  rw [div_le_iff₀ (by positivity)]
  have : level * rem ≤ 160 * rem := mul_le_mul_of_nonneg_right level_le (Nat.cast_nonneg rem)
  linarith

/-! ### Phases under a target -/

/-- A fade has a level of its own, which a new target does not contradict (R61). -/
theorem phaseLaw_react {old new : Option Nat} {ph : Phase} (len : Nat) (level : LevelInRange old)
    (law : PhaseLaw old ph) : PhaseLaw new (ph.react len new) := by
  cases ph with
  | silent =>
    cases new with
    | none => rfl
    | some a => exact ⟨attenuationInRange_160, le_rfl⟩
  | steady l =>
    rw [Phase.react]
    split
    case isTrue same => exact same
    case isFalse => exact ⟨attenuationInRange_natCast (level l law), le_rfl⟩
  | ramping l fl rem => exact ⟨law.1, le_rfl⟩
  | crossfading l od ol q fl rem => exact law

theorem phaseLaw_shorten {t : Option Nat} {ph : Phase} (law : PhaseLaw t ph) : PhaseLaw t ph.shorten := by
  cases ph with
  | silent => exact law
  | steady l => exact law
  | ramping l fl rem =>
    obtain ⟨level, remaining⟩ := law
    exact ⟨level, (min_le_right _ _).trans remaining⟩
  | crossfading l od ol q fl rem =>
    obtain ⟨level, oldLevel, remaining⟩ := law
    exact ⟨level, oldLevel, (min_le_right _ _).trans remaining⟩

/-- The state that an ended fade leaves agrees with its target (R65, R68). -/
theorem phaseLaw_settledPhase (t : Option Nat) : PhaseLaw t (settledPhase t) := by
  cases t <;> rfl

theorem phaseLaw_advance {t : Option Nat} {ph : Phase} (level : LevelInRange t) (law : PhaseLaw t ph) :
    PhaseLaw t (ph.advance (fadeGoal t)) := by
  have goal := attenuationInRange_fadeGoal level
  cases ph with
  | silent => exact law
  | steady l => exact law
  | ramping l fl rem =>
    cases rem with
    | zero => exact law
    | succ rem =>
      obtain ⟨now, remaining⟩ := law
      exact ⟨attenuationInRange_stepLevel rem now goal, Nat.le_of_succ_le remaining⟩
  | crossfading l od ol q fl rem =>
    cases rem with
    | zero => exact law
    | succ rem =>
      obtain ⟨now, outgoing, remaining⟩ := law
      exact ⟨attenuationInRange_stepLevel rem now goal,
        attenuationInRange_stepLevel rem outgoing attenuationInRange_160, Nat.le_of_succ_le remaining⟩

/-! ### The fields that re-evaluation and delivery write -/

theorem Crosspoint.retarget_target (len : Nat) (t : Option Nat) (x : Crosspoint) : (x.retarget len t).target = t := by
  unfold Crosspoint.retarget
  split
  case isTrue same => exact same.symm
  case isFalse => rfl

theorem Crosspoint.retarget_computedLevel (len : Nat) (t : Option Nat) (x : Crosspoint) :
    (x.retarget len t).computedLevel = x.computedLevel := by
  unfold Crosspoint.retarget
  split <;> rfl

@[simp] theorem Crosspoint.deliverDelay_target (len d : Nat) (x : Crosspoint) :
    (x.deliverDelay len d).target = x.target := by
  unfold Crosspoint.deliverDelay
  split
  · rfl
  · split <;> rfl
  · split <;> rfl
  · rfl

@[simp] theorem Crosspoint.deliverDelay_computedLevel (len d : Nat) (x : Crosspoint) :
    (x.deliverDelay len d).computedLevel = x.computedLevel := by
  unfold Crosspoint.deliverDelay
  split
  · rfl
  · split <;> rfl
  · split <;> rfl
  · rfl

theorem Crosspoint.phaseLaw_retarget {x : Crosspoint} (len : Nat) (t : Option Nat) (level : LevelInRange x.target)
    (law : PhaseLaw x.target x.phase) : PhaseLaw t (x.retarget len t).phase := by
  unfold Crosspoint.retarget
  split
  case isTrue same => exact same ▸ law
  case isFalse => exact phaseLaw_react len level law

/-! ### What a crosspoint keeps -/

/-- R61, R71, R75: the levels of a crosspoint are in range, its phase agrees with its target, and where its zone is
taken over it is SILENT. -/
structure Crosspoint.Lawful (taken : Bool) (x : Crosspoint) : Prop where
  computed : LevelInRange x.computedLevel
  level : LevelInRange x.target
  phase : PhaseLaw x.target x.phase
  takeover : taken = true → x.phase = .silent

/-- R63 as well: its target is the one that its live test gives it. -/
structure Crosspoint.OnTarget (live taken : Bool) (x : Crosspoint) : Prop extends Crosspoint.Lawful taken x where
  target : x.target = if live then x.computedLevel else none

namespace Crosspoint

variable {live taken : Bool} {x y : Crosspoint}

/-- A SILENT crosspoint has no target (R61). -/
theorem Lawful.target_of_silent (h : x.Lawful taken) (silent : x.phase = .silent) : x.target = none := by
  simpa only [silent] using h.phase

/-- Re-evaluated to off, a crosspoint of a zone taken over stands as it is (R75). -/
theorem Lawful.retarget_of_taken (h : x.Lawful taken) (seized : taken = true) (len : Nat) :
    x.retarget len none = x := by
  rw [Crosspoint.retarget, h.target_of_silent (h.takeover seized), if_pos rfl]

theorem levelInRange_gated {l : Option Nat} (h : LevelInRange l) : LevelInRange (if live then l else none) := by
  cases live with
  | true => exact h
  | false => nofun

/-- A re-evaluation to the target that the live test gives (R63); no crosspoint of a zone taken over is live. -/
theorem Lawful.retarget (h : x.Lawful taken) (len : Nat) (dead : taken = true → live = false) :
    (x.retarget len (if live then x.computedLevel else none)).OnTarget live taken where
  computed := by rw [retarget_computedLevel]; exact h.computed
  level := by rw [retarget_target]; exact levelInRange_gated h.computed
  phase := by rw [retarget_target]; exact phaseLaw_retarget len _ h.level h.phase
  takeover seized := by
    rw [dead seized]
    exact (h.retarget_of_taken seized len).symm ▸ h.takeover seized
  target := by rw [retarget_target, retarget_computedLevel]

/-- The same at an event that gave or took CLOCK or STANDBY (R74). -/
theorem Lawful.retargetClock (h : x.Lawful taken) (dead : taken = true → live = false) :
    (x.retargetClock (if live then x.computedLevel else none)).OnTarget live taken where
  computed := (h.retarget _ dead).computed
  level := (h.retarget _ dead).level
  phase := phaseLaw_shorten (h.retarget _ dead).phase
  takeover seized := by
    change Phase.shorten _ = _
    rw [(h.retarget _ dead).takeover seized]
    rfl
  target := (h.retarget _ dead).target

/-- A delivered delay starts a crossfade, or waits for its end, only where the crosspoint is not SILENT (R66). -/
theorem Lawful.deliverDelay (h : x.Lawful taken) (len d : Nat) : (x.deliverDelay len d).Lawful taken where
  computed := by simpa using h.computed
  level := by simpa using h.level
  phase := by
    have law := h.phase
    rw [deliverDelay_target]
    cases ph : x.phase with
    | silent =>
      simp only [ph, Crosspoint.deliverDelay] at law ⊢
      exact law
    | steady l =>
      simp only [ph, Crosspoint.deliverDelay] at law ⊢
      split
      · rw [ph]; exact law
      · exact ⟨attenuationInRange_160, attenuationInRange_natCast (h.level l law), le_rfl⟩
    | ramping l fl rem =>
      simp only [ph, Crosspoint.deliverDelay] at law ⊢
      split
      · rw [ph]; exact law
      · exact ⟨attenuationInRange_160, law.1, le_rfl⟩
    | crossfading l od ol q fl rem =>
      simp only [ph, Crosspoint.deliverDelay] at law ⊢
      exact law
  takeover seized := by
    simp only [Crosspoint.deliverDelay, h.takeover seized]

/-- The delivery of a full result whose level is in range (R53, R66). -/
theorem Lawful.deliver (h : x.Lawful taken) {r : Result} (inRange : LevelInRange r.level) (len : Nat)
    (dead : taken = true → live = false) : (x.deliver live len r).OnTarget live taken := by
  have written (d : Nat) : ({ x with
      computedDelay := d
      computedLevel := r.level
      proximity := r.proximity
      clampedLow := r.clampedLow
      clampedHigh := r.clampedHigh
      guarded := r.guarded } : Crosspoint).Lawful taken := { h with computed := inRange }
  unfold Crosspoint.deliver
  cases r.delay with
  | none => exact (written _).retarget len dead
  | some d => simpa only [deliverDelay_computedLevel] using ((written _).deliverDelay len d).retarget len dead

/-- The delivery of a level-only result in range (R53, R66). -/
theorem Lawful.deliverLevel (h : x.Lawful taken) {l : Option Nat} (inRange : LevelInRange l) (len : Nat)
    (dead : taken = true → live = false) : (x.deliverLevel live len l).OnTarget live taken :=
  have written : ({ x with computedLevel := l } : Crosspoint).Lawful taken := { h with computed := inRange }
  written.retarget len dead

/-- What moves neither target nor computed level keeps a crosspoint on target, where the phase still agrees and SILENT
stays SILENT. -/
theorem OnTarget.of_phase (h : x.OnTarget live taken) (target : y.target = x.target)
    (computed : y.computedLevel = x.computedLevel) (phase : PhaseLaw x.target y.phase)
    (silent : x.phase = .silent → y.phase = .silent) : y.OnTarget live taken where
  computed := computed ▸ h.computed
  level := target ▸ h.level
  phase := target ▸ phase
  takeover seized := silent (h.takeover seized)
  target := by rw [target, computed, h.target]

/-- The end of a ramp (R65). -/
theorem OnTarget.endRamp (h : x.OnTarget live taken) : x.endRamp.OnTarget live taken := by
  unfold Crosspoint.endRamp
  split
  case h_1 ph => exact h.of_phase rfl rfl (phaseLaw_settledPhase _) (by simp [ph])
  case h_2 => exact h

/-- The end of a crossfade, and the further crossfade that a pending delay begins (R68). -/
theorem OnTarget.endCrossfade (h : x.OnTarget live taken) (len : Nat) : (x.endCrossfade len).OnTarget live taken := by
  unfold Crosspoint.endCrossfade
  split
  case h_1 pend fl ph =>
    have notSilent {p : Phase} : x.phase = .silent → p = .silent := by simp [ph]
    have settled : ({ x with phase := settledPhase x.target } : Crosspoint).OnTarget live taken :=
      h.of_phase rfl rfl (phaseLaw_settledPhase _) notSilent
    cases pend with
    | none => exact settled
    | some d =>
      dsimp only
      split
      · exact settled
      · split
        case h_1 off => exact h.of_phase rfl rfl (phaseLaw_settledPhase _) notSilent
        case h_2 a on =>
          have outgoing := attenuationInRange_natCast (h.level a on)
          exact h.of_phase rfl rfl ⟨attenuationInRange_160, outgoing, le_rfl⟩ notSilent
  case h_2 => exact h

theorem OnTarget.endFade (h : x.OnTarget live taken) (len : Nat) : (x.endFade len).OnTarget live taken :=
  h.endRamp.endCrossfade len

/-- One output sample of a fade (R65, R67). -/
theorem OnTarget.advance (h : x.OnTarget live taken) : x.advance.OnTarget live taken :=
  h.of_phase rfl rfl (phaseLaw_advance h.level h.phase) fun silent => by
    simp [Crosspoint.advance, silent, Phase.advance]

/-- A crosspoint taken over (R75). -/
theorem Lawful.seize (h : x.Lawful taken) : x.seize.Lawful true := ⟨h.computed, nofun, rfl, fun _ => rfl⟩

/-- A crosspoint after a reset, which leaves no channel in an open set (R76). -/
theorem onTarget_reset (taken : Bool) : Crosspoint.reset.OnTarget false taken :=
  ⟨⟨nofun, nofun, rfl, fun _ => rfl⟩, rfl⟩

end Crosspoint

/-! ### The straight line of a fade (R65, R67) -/

/-- A sample's step on a straight line leads to the line's next point. -/
theorem stepLevel_line (level goal : Rat) {k rem : Nat} (h : k < rem) :
    stepLevel (level + k * ((goal - level) / rem)) goal (rem - k) =
      level + (k + 1 : Nat) * ((goal - level) / rem) := by
  obtain ⟨left, rfl⟩ := Nat.exists_eq_add_of_lt h
  have later : k + left + 1 - k = left + 1 := by omega
  have leftPositive : (left : Rat) + 1 ≠ 0 := by positivity
  have wholePositive : (k : Rat) + left + 1 ≠ 0 := by positivity
  rw [later, stepLevel]
  push_cast
  field_simp
  ring

theorem advance_iterate_ramping (goal level : Rat) (fl : Nat) {k rem : Nat} (h : k ≤ rem) :
    (Phase.advance goal)^[k] (.ramping level fl rem) =
      .ramping (level + k * ((goal - level) / rem)) fl (rem - k) := by
  induction k with
  | zero => simp
  | succ k ih =>
    have left : rem - k = rem - (k + 1) + 1 := by omega
    rw [Function.iterate_succ_apply', ih (by omega), ← stepLevel_line level goal h, left]
    rfl

theorem advance_iterate_crossfading (goal level oldLevel : Rat) (od : Nat) (q : Option Nat) (fl : Nat) {k rem : Nat}
    (h : k ≤ rem) :
    (Phase.advance goal)^[k] (.crossfading level od oldLevel q fl rem) =
      .crossfading (level + k * ((goal - level) / rem)) od (oldLevel + k * ((160 - oldLevel) / rem)) q fl
        (rem - k) := by
  induction k with
  | zero => simp
  | succ k ih =>
    have left : rem - k = rem - (k + 1) + 1 := by omega
    rw [Function.iterate_succ_apply', ih (by omega), ← stepLevel_line level goal h, ← stepLevel_line oldLevel 160 h,
      left]
    rfl

/-! ### The ends of a fade (R65, R68) -/

theorem Crosspoint.endRamp_of_ended {x : Crosspoint} {l : Rat} {fl : Nat} (h : x.phase = .ramping l fl 0) :
    x.endRamp = { x with phase := settledPhase x.target } := by
  simp only [Crosspoint.endRamp, h]

/-- The rows of R68's table. -/
theorem Crosspoint.endCrossfade_of_ended {x : Crosspoint} {l ol : Rat} {od fl : Nat} {q : Option Nat} (len : Nat) :
    x.phase = .crossfading l od ol q fl 0 → x.endCrossfade len =
      match x.target, q with
      | none, none => { x with phase := .silent }
      | none, some e => { x with phase := .silent, activeDelay := e }
      | some a, none => { x with phase := .steady a }
      | some a, some e =>
        if e = x.activeDelay then { x with phase := .steady a }
        else { x with phase := .crossfading 160 x.activeDelay (a : Nat) none len len, activeDelay := e } := by
  intro h
  simp only [Crosspoint.endCrossfade, h]
  cases x.target with
  | none =>
    cases q with
    | none => rfl
    | some e =>
      dsimp only
      split
      case isTrue same => rw [same]; rfl
      case isFalse => rfl
  | some a => cases q <;> rfl

/-- A change of one crosspoint replaces its record and nothing else. -/
theorem State.onCrosspoint_of_eq {s : State} {n : Channel} {j : Zone} {f : Crosspoint → Crosspoint} {y : Crosspoint}
    (h : f ((s.crosspoints.get n).get j) = y) :
    s.onCrosspoint n j f = { s with crosspoints := s.crosspoints.set n ((s.crosspoints.get n).set j y) } := by
  rw [← h]
  rfl

end Sys2Proof.Machine
end

section
/-! PROOFS. The line and the end of a fade (R65, R67, R68). -/

namespace Sys2Proof.Machine

/-- Settles O35: the straight line by induction on the samples, and the ends by the rows of their tables. -/
theorem fadesRunStraightAndEnd : Obligations.FadesRunStraightAndEnd := by
  unfold Obligations.FadesRunStraightAndEnd
  refine ⟨fun goal l ol od fl rem k q hk positive =>
    ⟨advance_iterate_ramping goal l fl hk, advance_iterate_crossfading goal l ol od q fl hk, ?arrives⟩,
    fun s n j awake => ⟨fun l fl ended => ?rampEnd, fun l d ol q fl ended => ?crossfadeEnd⟩⟩
  case arrives =>
    have whole : (rem : Rat) ≠ 0 := by positivity
    rw [advance_iterate_ramping goal l fl le_rfl, Nat.sub_self, mul_div_cancel₀ _ whole, add_sub_cancel]
  case rampEnd =>
    exact (occur_of_awake awake).trans
      (congrArg _ (State.onCrosspoint_of_eq (Crosspoint.endRamp_of_ended ended)))
  case crossfadeEnd =>
    exact (occur_of_awake awake).trans
      (congrArg _ (State.onCrosspoint_of_eq (Crosspoint.endCrossfade_of_ended _ ended)))

end Sys2Proof.Machine
end

section
/-! SUPPORT. The array of crosspoints: the operations that keep it lawful, and the re-evaluations and deliveries that
bring every target to what the live test gives (R61, R63, R71, R75). -/

namespace Sys2Proof.Machine

open Sys2Proof.Safety

/-! ### The live test -/

/-- No crosspoint of a zone taken over is live (R62). -/
theorem State.live_of_taken {s : State} {j : Zone} (h : (s.zones.get j).taken = true) (n : Channel) :
    s.live n j = false := by
  unfold State.live
  split
  · rfl
  · simp [h]

/-- The live test reads the group of a zone, the members of its open set, the zones and standby (R62). -/
theorem State.live_eq_of_members {s t : State} (zoneGroup : t.settings.zoneGroup = s.settings.zoneGroup)
    (members : ∀ g, (t.groups.get g).members = (s.groups.get g).members) (zones : t.zones = s.zones)
    (standby : t.standby = s.standby) : t.live = s.live := by
  funext n j
  simp only [State.live, GroupState.holds, zoneGroup, members, zones, standby]

@[simp] theorem State.parkIneligible_crosspoints (ns : List Channel) (s : State) :
    (s.parkIneligible ns).crosspoints = s.crosspoints :=
  (OnlyMix.parkIneligible ns s).crosspoints

@[simp] theorem State.parkIneligible_zones (ns : List Channel) (s : State) :
    (s.parkIneligible ns).zones = s.zones :=
  (OnlyMix.parkIneligible ns s).zones

/-! ### The law of the array, crosspoint by crosspoint -/

/-- Every crosspoint keeps R61, R71 and R75. -/
def State.Lawful (s : State) : Prop := ∀ n j, ((s.crosspoints.get n).get j).Lawful (s.zones.get j).taken

/-- The laws of the array are that every crosspoint is lawful and on target. -/
theorem arrayLaw_iff (s : State) :
    ArrayLaw s ↔ ∀ n j, ((s.crosspoints.get n).get j).OnTarget (s.live n j) (s.zones.get j).taken := by
  constructor
  · rintro ⟨law, target, takeover⟩ n j
    obtain ⟨computed, level, phase⟩ := law n j
    exact ⟨⟨computed, level, phase, takeover n j⟩, target n j⟩
  · intro h
    exact ⟨fun n j => ⟨(h n j).computed, (h n j).level, (h n j).phase⟩, fun n j => (h n j).target,
      fun n j => (h n j).takeover⟩

theorem lawful_of_arrayLaw {s : State} (h : ArrayLaw s) : s.Lawful := fun n j =>
  ((arrayLaw_iff s).mp h n j).toLawful

/-- Where no open set has a member, a silent array keeps its laws (R76, R127). -/
theorem arrayLaw_of_reset {t : State} (crosspoints : ∀ n j, (t.crosspoints.get n).get j = .reset)
    (groups : ∀ g, t.groups.get g = .reset) : ArrayLaw t := by
  rw [arrayLaw_iff]
  intro n j
  have dead : t.live n j = false := by
    unfold State.live
    split
    · rfl
    · simp [groups, GroupState.reset, GroupState.holds]
  rw [dead, crosspoints]
  exact Crosspoint.onTarget_reset _

/-! ### Operations within an event -/

/-- What leads from `s` to `u` within an event keeps every crosspoint lawful; its target may have to be re-evaluated. -/
structure KeepsLawful (s u : State) : Prop where
  keeps : s.Lawful → u.Lawful

namespace KeepsLawful

variable {s u v : State}

/-- The crosspoints stand, and no zone is taken over. -/
theorem stands (crosspoints : u.crosspoints = s.crosspoints)
    (taken : ∀ j, (u.zones.get j).taken = true → (s.zones.get j).taken = true) : KeepsLawful s u := by
  refine ⟨fun law n j => ?_⟩
  rw [crosspoints]
  exact { law n j with takeover := fun seized => (law n j).takeover (taken j seized) }

/-- The crosspoints and the zones stand. -/
theorem same (h : (u.crosspoints, u.zones) = (s.crosspoints, s.zones)) : KeepsLawful s u :=
  have ⟨crosspoints, zones⟩ := Prod.mk.inj h
  .stands crosspoints fun j => by rw [zones]; exact id

theorem trans (h : KeepsLawful s u) (k : KeepsLawful u v) : KeepsLawful s v :=
  ⟨fun law => k.keeps (h.keeps law)⟩

/-- The gate unit and the arbiter move no crosspoint. -/
theorem onlyMix (k : OnlyMix u v) (h : KeepsLawful s u) : KeepsLawful s v :=
  h.trans (.same (by rw [k.crosspoints, k.zones]))

theorem ite {c : Prop} [Decidable c] (h : KeepsLawful s u) (k : KeepsLawful s v) :
    KeepsLawful s (if c then u else v) := by
  split
  · exact h
  · exact k

/-- Zones change without a takeover. -/
theorem onZones (h : KeepsLawful s u) {f : Zone → ZoneState → ZoneState}
    (taken : ∀ j z, (f j z).taken = true → z.taken = true) :
    KeepsLawful s (u.onZones f) := by
  refine h.trans (.stands rfl fun j => ?_)
  rw [State.onZones_zones, Table.get_map]
  exact taken j _

/-- A zone changes without a takeover. -/
theorem onZone (h : KeepsLawful s u) (j : Zone) {f : ZoneState → ZoneState}
    (taken : ∀ z, (f z).taken = true → z.taken = true) :
    KeepsLawful s (u.onZone j f) := by
  refine h.trans (.stands rfl fun k => ?_)
  rw [State.onZone_zones, Table.modify, Table.get_set]
  split
  case isTrue this => subst this; exact taken _
  case isFalse => exact id

/-- A takeover silences every crosspoint of its zones (R75). -/
theorem takeOver (h : KeepsLawful s u) (zones : Zone → Bool) : KeepsLawful s (u.takeOver zones) := by
  refine ⟨fun law n j => ?_⟩
  have now := h.keeps law n j
  simp only [State.takeOver, Table.get_map]
  cases zones j with
  | true => exact now.seize
  | false => exact now

theorem moveTo (h : KeepsLawful s u) (n : Channel) (st : Option Station) : KeepsLawful s (u.moveTo n st) :=
  .onlyMix (.reEvaluate _ n) (h.trans (.same (by rfl)))

theorem setPortMode (h : KeepsLawful s u) (n : Channel) (mode : GateMode) : KeepsLawful s (u.setPortMode n mode) :=
  h.trans (.ite (.same (by rfl)) (.same (by rfl)))

theorem reAct (h : KeepsLawful s u) (a : ContactAction) : KeepsLawful s (u.reAct a) := by
  cases a with
  | zoneMuteWhile j => exact h.onZone j fun _ now => now
  | forceOpenWhile n => exact h.trans (.same (by rfl))
  | forceClosedWhile n => exact h.trans (.same (by rfl))
  | none => exact h
  | move n st => exact h
  | arrange k => exact h

theorem switchTo (h : KeepsLawful s u) (k : Arrangement) : KeepsLawful s (u.switchTo k) :=
  h.trans (.same (by simp [State.switchTo]))

theorem applyContact (h : KeepsLawful s u) (k : ContactIn) : KeepsLawful s (u.applyContact k) := by
  unfold State.applyContact
  split
  · exact .ite (h.moveTo _ _) h
  · exact .ite (h.switchTo _) h
  · exact h.reAct _

theorem changeGroup (h : KeepsLawful s u) (n : Channel) : KeepsLawful s (u.changeGroup n) :=
  .onlyMix (.onMix _ _) (.onlyMix (.reEvaluate _ n) (h.trans (.same (by rfl))))

theorem groupDisabled (h : KeepsLawful s u) (g : Group) : KeepsLawful s (u.groupDisabled g) :=
  .onlyMix (.parkIneligible _ _) (h.trans (.same (by rfl)))

theorem groupResized (h : KeepsLawful s u) (g : Group) (before after : Nat) :
    KeepsLawful s (u.groupResized g before after) :=
  .ite h (.ite (h.trans (.same (by rfl))) (h.trans (.same (by rfl))))

theorem groupEffects (h : KeepsLawful s u) (g : Group) (before after : GroupRec) :
    KeepsLawful s (u.groupEffects g before after) := by
  unfold State.groupEffects
  extract_lets disabled enabled resized released
  have disabledLawful : KeepsLawful s disabled := .ite (h.groupDisabled g) h
  have enabledLawful : KeepsLawful s enabled := .ite (.onlyMix (.reEvaluateAll _ _) disabledLawful) disabledLawful
  have resizedLawful : KeepsLawful s resized := enabledLawful.groupResized g _ _
  have releasedLawful : KeepsLawful s released := .ite (resizedLawful.trans (.same (by rfl))) resizedLawful
  exact .ite releasedLawful (releasedLawful.trans (.same (by rfl)))

end KeepsLawful

/-! ### Re-evaluations and deliveries -/

/-- The re-evaluation of R63 brings a lawful array onto its targets. -/
theorem State.Lawful.retarget {u : State} (h : u.Lawful) : ArrayLaw u.retarget := by
  rw [arrayLaw_iff]
  intro n j
  simp only [State.retarget_crosspoints, Table.get_map]
  exact (h n j).retarget _ fun seized => State.live_of_taken seized n

/-- So does that of R74. -/
theorem State.Lawful.retargetClock {u : State} (h : u.Lawful) (zones : Zone → Bool) :
    ArrayLaw (u.retargetClock zones) := by
  rw [arrayLaw_iff]
  intro n j
  have dead (seized : (u.zones.get j).taken = true) : u.live n j = false := State.live_of_taken seized n
  simp only [State.retargetClock, Table.get_map]
  cases zones j with
  | true => exact (h n j).retargetClock dead
  | false => exact (h n j).retarget _ dead

/-- The level of a result is a sum of parts limited to 160, or off (R20, R28, R33). -/
theorem fullResult_inRange (c : ChannelInputs) (z : ZoneRec) (t : Int) : LevelInRange (fullResult c z t).level := by
  unfold fullResult
  split
  · nofun
  · unfold computeAt
    dsimp only
    split
    · nofun
    · rintro a ⟨⟩
      exact composeLevel_le ..

theorem levelOnly_inRange (hasStation : Bool) (stored : Nat × Bool) (trim master openCount : Nat) :
    LevelInRange (levelOnly hasStation stored trim master openCount) := by
  unfold levelOnly
  split
  · nofun
  · split
    · nofun
    · rintro a ⟨⟩
      exact composeLevel_le ..

/-- A delivery of full results in range (R53, R66). -/
theorem KeepsLawful.deliverFull (s : State) {chosen : Channel → Bool} {result : Channel → Zone → Result}
    (inRange : ∀ n j, LevelInRange (result n j).level) : KeepsLawful s (s.deliverFull chosen result) := by
  unfold State.deliverFull
  extract_lets engine written
  have writtenLawful : KeepsLawful s written := by
    refine ⟨fun law n j => ?_⟩
    simp only [written, Table.get_map]
    cases chosen n with
    | true =>
      simp only [if_true, Table.get_map]
      exact ((law n j).deliver (inRange n j) _ fun seized => State.live_of_taken seized n).toLawful
    | false => exact law n j
  exact .ite (writtenLawful.trans (.same (by rfl))) writtenLawful

/-! ### Whole events -/

/-- What leads from `s` to `t` keeps the laws of the array. -/
structure KeepsArray (s t : State) : Prop where
  keeps : ArrayLaw s → ArrayLaw t

namespace KeepsArray

variable {s t u : State}

theorem trans (h : KeepsArray s t) (k : KeepsArray t u) : KeepsArray s u :=
  ⟨fun law => k.keeps (h.keeps law)⟩

/-- Nothing that the laws speak of is moved. -/
theorem kept (h : (t.crosspoints, t.zones, t.live) = (s.crosspoints, s.zones, s.live)) : KeepsArray s t := by
  simp only [Prod.mk.injEq] at h
  obtain ⟨crosspoints, zones, live⟩ := h
  refine ⟨fun law => ?_⟩
  rw [arrayLaw_iff] at law ⊢
  rw [crosspoints, live, zones]
  exact law

/-- The members of the open sets stand, and all else that the live test reads. -/
theorem members (h : ∀ g, (t.groups.get g).members = (s.groups.get g).members)
    (same : (t.crosspoints, t.zones, t.settings.zoneGroup, t.standby) =
      (s.crosspoints, s.zones, s.settings.zoneGroup, s.standby)) : KeepsArray s t := by
  simp only [Prod.mk.injEq] at same
  obtain ⟨crosspoints, zones, zoneGroup, standby⟩ := same
  exact .kept (by rw [crosspoints, zones, State.live_eq_of_members zoneGroup h zones standby])

theorem refl (s : State) : KeepsArray s s := ⟨id⟩

theorem accepted (h : KeepsArray s t) : KeepsArray s (accept t).state := h

theorem ite {c : Prop} [Decidable c] (h : KeepsArray s t) (k : KeepsArray s u) :
    KeepsArray s (if c then t else u) := by
  split
  · exact h
  · exact k

/-- Crosspoints are changed that stay on their targets. -/
theorem pointwise (live : t.live = s.live) (zones : t.zones = s.zones)
    (each : ∀ n j, ((s.crosspoints.get n).get j).OnTarget (s.live n j) (s.zones.get j).taken →
      ((t.crosspoints.get n).get j).OnTarget (s.live n j) (s.zones.get j).taken) : KeepsArray s t := by
  refine ⟨fun law => ?_⟩
  rw [arrayLaw_iff] at law ⊢
  rw [live, zones]
  exact fun n j => each n j (law n j)

theorem onCrosspoints {f : Nat → Crosspoint → Crosspoint}
    (each : ∀ {live taken x} len, Crosspoint.OnTarget live taken x → (f len x).OnTarget live taken) (s : State) :
    KeepsArray s (s.onCrosspoints f) := by
  refine .pointwise rfl rfl fun n j now => ?_
  simp only [State.onCrosspoints_crosspoints, Table.get_map]
  exact each _ now

theorem onCrosspoint {f : Crosspoint → Crosspoint}
    (each : ∀ {live taken x}, Crosspoint.OnTarget live taken x → (f x).OnTarget live taken) (n : Channel) (j : Zone)
    (s : State) : KeepsArray s (s.onCrosspoint n j f) := by
  refine .pointwise rfl rfl fun m k now => ?_
  rw [State.onCrosspoint_of_eq rfl, Table.get_set]
  split
  case isTrue channel =>
    subst channel
    rw [Table.get_set]
    split
    case isTrue zone => subst zone; exact each now
    case isFalse => exact now
  case isFalse => exact now

/-- A delivery of level-only results in range (R52, R53). -/
theorem deliverLevels (m : MemberInputs) {level : Zone → Option Nat} (inRange : ∀ j, LevelInRange (level j))
    (s : State) : KeepsArray s (s.deliverLevels m level) := by
  refine .pointwise rfl rfl fun n j now => ?_
  rw [State.deliverLevels, Table.modify, Table.get_set]
  split
  case isTrue channel =>
    subst channel
    rw [Table.get_map]
    exact now.deliverLevel (inRange j) _ fun seized => State.live_of_taken seized _
  case isFalse => exact now

/-- The re-evaluation that ends an event (R63). -/
theorem settle (h : KeepsLawful s u) (before : State) : KeepsArray s (u.settle before) :=
  ⟨fun law => State.Lawful.retarget (u := u.askCounts before) (h.keeps (lawful_of_arrayLaw law))⟩

theorem settleClock (h : KeepsLawful s u) (before : State) (zones : Zone → Bool) :
    KeepsArray s (u.settleClock before zones) :=
  ⟨fun law => State.Lawful.retargetClock (u := u.askCounts before) (h.keeps (lawful_of_arrayLaw law)) zones⟩

theorem socketEvent (h : KeepsLawful s u) (n : Channel) (before : State) : KeepsArray s (u.socketEvent n before) :=
  .settle (.onlyMix (.reEvaluate u n) h) before

/-- An event acts unless the part is held. -/
theorem occur {f : State → State} (h : Machine.occur f s = .next t) (acts : KeepsArray s (f s)) : KeepsArray s t := by
  cases held : s.held with
  | false => rw [occur_of_awake held] at h; cases h; exact acts
  | true => rw [occur_of_held held] at h; cases h; exact .refl s

/-- A request does to the array what serving it does, or nothing. -/
theorem request {p : Port} {kind : Byte} {body : List Byte} {reset : Bool} {f : State → Reply}
    (served : KeepsArray s (f s).state) : KeepsArray s (s.request p kind body reset f) := by
  obtain h | h | h := s.request_cases p kind body reset f <;> rw [h]
  · exact served.trans (.kept (by rfl))
  · exact .kept rfl
  · exact .refl s

theorem requestEvent {p : Port} {kind : Byte} {body : List Byte} {reset : Bool} {f : State → Reply}
    (h : Machine.occur (fun s => s.request p kind body reset f) s = .next t) (served : KeepsArray s (f s).state) :
    KeepsArray s t :=
  .occur h (.request served)

theorem naming {n size : Nat} {body : List Byte} {own : Fin n → Reply} (h : ∀ i, KeepsArray s (own i).state) :
    KeepsArray s (Machine.naming size body s own).state := by
  unfold Machine.naming
  split
  · exact .refl s
  · split
    · exact .refl s
    · exact h _

theorem sized {size : Nat} {body : List Byte} {own : Reply} (h : KeepsArray s own.state) :
    KeepsArray s (Machine.sized size body s own).state := by
  unfold Machine.sized
  split
  · exact .refl s
  · exact h

theorem writeEntry {n size : Nat} {index : BitVec 16} {entry : List Byte} {own : Fin n → Reply}
    (h : ∀ i, KeepsArray s (own i).state) : KeepsArray s (Machine.writeEntry size index entry s own).state := by
  unfold Machine.writeEntry
  split
  · exact .refl s
  · split
    · exact .refl s
    · exact h _

end KeepsArray

end Sys2Proof.Machine
end

section
/-! SUPPORT. Every command keeps the laws of the array: the tables, the requests, the events, and the commands that move
crosspoints themselves. -/

namespace Sys2Proof.Machine

open Sys2Proof.Safety

variable {s t : State}

/-! ### Writes (R184) -/

theorem State.storeStation_keepsArray (k : Station) (r : StationRec) (s : State) :
    KeepsArray s (s.storeStation k r) := by
  rw [State.storeStation_eq]
  exact .kept rfl

theorem State.storeZone_keepsArray (j : Zone) (r : ZoneRec) (s : State) : KeepsArray s (s.storeZone j r) := by
  rw [State.storeZone_eq]
  exact .kept rfl

/-- A window write takes its channel off the forced-wait lists, but out of no open set (R12, R13). -/
theorem State.moveWindow_keepsArray (n : Channel) (c : ChannelRec) (s : State) : KeepsArray s (s.moveWindow n c) := by
  refine .members (fun g => ?_) rfl
  simp [State.moveWindow, Mix.unwait, State.mix]

theorem State.autoPowerOn_keepsArray (n : Channel) (before c : ChannelRec) (s : State) :
    KeepsArray s (s.autoPowerOn n before c) :=
  .ite (.kept (by rfl)) (.refl s)

theorem State.storeChannel_keepsArray (n : Channel) (c : ChannelRec) (s : State) :
    KeepsArray s (s.storeChannel n c) := by
  unfold State.storeChannel
  extract_lets before stored moved
  have storedKeeps : KeepsArray s stored := .kept rfl
  have movedKeeps : KeepsArray s moved := .ite storedKeeps (storedKeeps.trans (stored.moveWindow_keepsArray n c))
  exact movedKeeps.trans (moved.autoPowerOn_keepsArray n before c)

theorem State.storeGroup_keepsArray (k : Arrangement) (g : Group) (r : GroupRec) (s : State) :
    KeepsArray s (s.storeGroup k g r) := by
  unfold State.storeGroup
  extract_lets stored
  exact .ite (.settle (.groupEffects (.same (by rfl)) g _ r) s) (.kept (by rfl))

/-- A membership of an arrangement that is not active, or one written as it stands, moves no zone's group. -/
theorem Settings.zoneGroup_setMembership {c : Settings} {k : Arrangement} {x : Zone ⊕ Channel} {g : Option Group}
    (h : k ≠ c.active ∨ g = c.membership k x) : (c.setMembership k x g).zoneGroup = c.zoneGroup := by
  funext j
  cases x with
  | inr n => rfl
  | inl i =>
    change ((c.zoneGroups.modify k fun t => t.set i g).get c.active).get j = _
    obtain inactive | stands := h
    · rw [Table.get_modify_other _ _ inactive]
      rfl
    · have same : (c.zoneGroups.get k).set i g = c.zoneGroups.get k := by
        rw [stands]
        exact Table.set_get_self _ i
      rw [Table.modify, same, Table.set_get_self]
      rfl

theorem State.storeMembership_keepsArray (k : Arrangement) (x : Zone ⊕ Channel) (g : Option Group) (s : State) :
    KeepsArray s (s.storeMembership k x g) := by
  unfold State.storeMembership
  extract_lets stored
  split
  case isTrue idle =>
    have zoneGroup : stored.settings.zoneGroup = s.settings.zoneGroup := Settings.zoneGroup_setMembership idle
    exact .members (fun _ => rfl) (by rw [zoneGroup]; rfl)
  case isFalse =>
    have storedLawful : KeepsLawful s stored := .same rfl
    cases x with
    | inl j => exact .settle storedLawful s
    | inr n => exact .settle (storedLawful.changeGroup n) s

theorem State.storeContactIn_keepsArray (k : ContactIn) (b : ContactBinding) (s : State) :
    KeepsArray s (s.storeContactIn k b) :=
  have storedLawful : KeepsLawful s (s.onSettings fun c => { c with contactIn := c.contactIn.set k b }) :=
    (.same (by rfl))
  .settle ((storedLawful.reAct _).reAct _) s

theorem serveWriteStation_keepsArray (index : BitVec 16) (entry : List Byte) :
    KeepsArray s (serveWriteStation index entry s).state := by
  refine .writeEntry fun k => ?_
  split
  · exact .refl s
  · split
    · exact s.storeStation_keepsArray k _
    · exact .refl s

theorem serveWriteZone_keepsArray (index : BitVec 16) (entry : List Byte) :
    KeepsArray s (serveWriteZone index entry s).state := by
  refine .writeEntry fun j => ?_
  dsimp only
  split
  · exact .refl s
  · split
    · exact .refl s
    · split
      · exact .refl s
      · exact s.storeZone_keepsArray j _

theorem serveWriteChannel_keepsArray (index : BitVec 16) (entry : List Byte) :
    KeepsArray s (serveWriteChannel index entry s).state := by
  refine .writeEntry fun n => ?_
  dsimp only
  split_ifs
  · exact .refl s
  · exact .refl s
  · exact .refl s
  · exact .refl s
  · split
    · exact .refl s
    · exact s.storeChannel_keepsArray n _

theorem serveWriteGroup_keepsArray (p : Port) (index : BitVec 16) (entry : List Byte) :
    KeepsArray s (serveWriteGroup p index entry s).state := by
  refine .writeEntry fun i => ?_
  dsimp only
  split_ifs
  · exact .refl s
  · exact .refl s
  · split
    · exact .refl s
    · exact s.storeGroup_keepsArray _ _ _

theorem serveWriteMembership_keepsArray (p : Port) (index : BitVec 16) (entry : List Byte) :
    KeepsArray s (serveWriteMembership p index entry s).state := by
  refine .writeEntry fun i => ?_
  dsimp only
  split
  · exact .refl s
  · split
    · exact .refl s
    · exact s.storeMembership_keepsArray _ _ _

theorem serveWriteProfile_keepsArray (index : BitVec 16) (entry : List Byte) :
    KeepsArray s (serveWriteProfile index entry s).state :=
  .writeEntry fun _ => .kept (by rfl)

theorem serveWriteContactIn_keepsArray (index : BitVec 16) (entry : List Byte) :
    KeepsArray s (serveWriteContactIn index entry s).state := by
  refine .writeEntry fun k => ?_
  split
  · exact .refl s
  · exact s.storeContactIn_keepsArray k _

theorem serveWriteContactOut_keepsArray (index : BitVec 16) (entry : List Byte) :
    KeepsArray s (serveWriteContactOut index entry s).state := by
  refine .writeEntry fun q => ?_
  split
  · exact .refl s
  · exact .kept rfl

theorem State.storeRouting_keepsArray (q : Port) (r : Routing) (s : State) : KeepsArray s (s.storeRouting q r) :=
  .ite (.kept (by rfl)) (.kept (by rfl))

theorem serveWriteRouting_keepsArray (index : BitVec 16) (entry : List Byte) :
    KeepsArray s (serveWriteRouting index entry s).state := by
  refine .writeEntry fun i => ?_
  split
  · exact .refl s
  · exact s.storeRouting_keepsArray _ _

theorem State.storeSystem_keepsArray (r : SystemRec) (s : State) : KeepsArray s (s.storeSystem r) :=
  .ite (.kept (by rfl)) (.kept (by rfl))

theorem serveWriteSystem_keepsArray (index : BitVec 16) (entry : List Byte) :
    KeepsArray s (serveWriteSystem index entry s).state := by
  refine .writeEntry fun _ => ?_
  split
  · exact .refl s
  · exact s.storeSystem_keepsArray _

theorem execWriteEntryReadOnly_keepsArray {p : Port} {body : List Byte}
    (h : execWriteEntryReadOnly p body s = .next t) : KeepsArray s t :=
  .occur h (.ite (.refl s) (.request (by rw [serveWriteReadOnly_state]; exact .refl s)))

/-! ### Requests -/

theorem serveMoveSource_keepsArray (p : Port) (body : List Byte) :
    KeepsArray s (serveMoveSource p body s).state := by
  refine .naming fun n => ?_
  split
  · exact .refl s
  · split
    · exact .refl s
    · exact .accepted (.settle (.moveTo (.same (by rfl)) n _) s)

theorem serveSetGateMode_keepsArray (p : Port) (body : List Byte) :
    KeepsArray s (serveSetGateMode p body s).state := by
  refine .naming fun n => ?_
  split_ifs
  · exact .refl s
  · exact .refl s
  · split
    · exact .refl s
    · exact .accepted (.settle (.setPortMode (.same (by rfl)) n _) s)

theorem State.reportTemperature_keepsArray (v : Int) (s : State) : KeepsArray s (s.reportTemperature v) :=
  .ite (.kept (by rfl)) (.kept (by rfl))

theorem serveSetTemperature_keepsArray (body : List Byte) : KeepsArray s (serveSetTemperature body s).state := by
  refine .sized ?_
  split
  · exact s.reportTemperature_keepsArray _
  · exact (s.reportTemperature_keepsArray _).trans (.kept (by rfl))

theorem serveSelectArrangement_keepsArray (p : Port) (body : List Byte) :
    KeepsArray s (serveSelectArrangement p body s).state := by
  refine .sized ?_
  split
  · exact .refl s
  · split
    · exact .refl s
    · split
      · exact .refl s
      · exact .accepted (.settle (.switchTo (.same (by rfl)) _) s)

/-- A hold moves no open set (R122). -/
theorem State.setHolder_keepsArray (g : Group) (h : Option Port) (s : State) : KeepsArray s (s.setHolder g h) := by
  refine .members (fun k => ?_) rfl
  rw [State.setHolder_groups, Table.modify, Table.get_set]
  split
  case isTrue this => subst this; rfl
  case isFalse => rfl

theorem serveHoldGroup_keepsArray (p : Port) (body : List Byte) : KeepsArray s (serveHoldGroup p body s).state := by
  refine .naming fun g => ?_
  split
  · exact s.setHolder_keepsArray g _
  · split <;> exact .refl s

theorem serveReleaseGroup_keepsArray (p : Port) (body : List Byte) :
    KeepsArray s (serveReleaseGroup p body s).state := by
  refine .naming fun g => ?_
  split
  · exact s.setHolder_keepsArray g none
  · exact .refl s

theorem serveBreakHold_keepsArray (body : List Byte) : KeepsArray s (serveBreakHold body s).state := by
  refine .naming fun g => ?_
  split
  · exact .refl s
  · exact (s.setHolder_keepsArray g none).trans (.kept (by rfl))

theorem serveZoneMute_keepsArray (p : Port) (body : List Byte) : KeepsArray s (serveZoneMute p body s).state := by
  refine .naming fun j => ?_
  split
  · exact .refl s
  · split
    · exact .refl s
    · exact .accepted (.settle (.onZone (.same (by rfl)) j (by exact fun _ now => now)) s)

theorem serveSocketPowerOn_keepsArray (body : List Byte) : KeepsArray s (serveSocketPowerOn body s).state := by
  refine .naming fun n => ?_
  split
  · exact .refl s
  · split
    · exact .refl s
    · split
      · exact .refl s
      · exact .accepted (.socketEvent (.same (by rfl)) n s)
    · exact .kept rfl

theorem serveSocketPowerOff_keepsArray (body : List Byte) : KeepsArray s (serveSocketPowerOff body s).state :=
  .naming fun n => .accepted (.socketEvent (.same (by rfl)) n s)

theorem execSetSocketPowerOn_keepsArray {p : Port} {body : List Byte} (h : execSetSocketPowerOn p body s = .next t) :
    KeepsArray s t :=
  .occur h (.ite (.refl s) (.request (serveSocketPowerOn_keepsArray ..)))

theorem execSetSocketPowerOff_keepsArray {p : Port} {body : List Byte}
    (h : execSetSocketPowerOff p body s = .next t) : KeepsArray s t :=
  .occur h (.ite (.refl s) (.request (serveSocketPowerOff_keepsArray ..)))

theorem serveResense_keepsArray (body : List Byte) : KeepsArray s (serveResense body s).state := by
  refine .naming fun n => ?_
  split_ifs
  · exact .refl s
  · exact .refl s
  · exact .accepted (.socketEvent (.same (by rfl)) n s)

theorem serveClearEvents_keepsArray (p : Port) (body : List Byte) :
    KeepsArray s (serveClearEvents p body s).state := by
  refine .sized ?_
  split <;> exact .kept rfl

theorem serveForceEvents_keepsArray (p : Port) (body : List Byte) :
    KeepsArray s (serveForceEvents p body s).state := by
  refine .sized ?_
  split <;> exact .kept rfl

theorem serveResume_keepsArray (body : List Byte) : KeepsArray s (serveResume body s).state := by
  refine .sized ?_
  split
  · exact .refl s
  · exact .refl s
  · have resumed : KeepsLawful s ((s.onOverride fun o => { o with state := .idle }).onZones
        fun _ z => { z with overrideLatch := false }) := .onZones (.same (by rfl)) fun _ _ now => now
    exact .accepted (.settle (resumed.trans (.same (by rfl))) s)

theorem serveRearm_keepsArray (body : List Byte) : KeepsArray s (serveRearm body s).state := by
  refine .sized ?_
  split
  · exact .accepted (.settleClock (.onZones (.same (by rfl)) (by exact fun _ _ now => now)) s _)
  · exact .refl s

theorem State.enterStandby_keepsArray (s : State) : KeepsArray s s.enterStandby := by
  unfold State.enterStandby
  extract_lets silenced told
  have silencedLawful : KeepsLawful s silenced := .onZones (.same (by rfl)) fun _ _ now => now
  have toldLawful : KeepsLawful s told := silencedLawful.trans (.same (by rfl))
  exact .settleClock (.onlyMix (.parkIneligible _ _) toldLawful) s _

theorem State.leaveStandby_keepsArray (s : State) : KeepsArray s s.leaveStandby := by
  unfold State.leaveStandby
  extract_lets told
  have heard : KeepsLawful s
      (({ s with standby := false, delay := .silent } : State).onZones fun _ z => { z with standby := false }) :=
    .onZones (.same (by rfl)) fun _ _ now => now
  have toldLawful : KeepsLawful s told := heard.trans (.same (by rfl))
  have woken (zones : Zone → Bool) : KeepsLawful s (told.retargetClock zones) :=
    ⟨fun law => lawful_of_arrayLaw ((toldLawful.keeps law).retargetClock zones)⟩
  exact .settle (.onlyMix (.reEvaluateAll _ _) (woken _)) s

theorem serveStandby_keepsArray (body : List Byte) : KeepsArray s (serveStandby body s).state := by
  refine .sized ?_
  split
  · exact .refl s
  · exact .accepted s.enterStandby_keepsArray

theorem serveWake_keepsArray (body : List Byte) : KeepsArray s (serveWake body s).state := by
  refine .sized ?_
  split
  · exact .accepted s.leaveStandby_keepsArray
  · exact .refl s

theorem execUnknownRequest_keepsArray {p : Port} {kind : Byte} {body : List Byte}
    (h : execUnknownRequest p kind body s = .next t) : KeepsArray s t :=
  .occur h (.ite (.refl s) (.request (.refl s)))

/-! ### Events at the ports -/

theorem State.receive_keepsArray (p : Port) (c : RxChar) (s : State) : KeepsArray s (s.receive p c) := by
  unfold State.receive
  split
  · exact .ite (.kept (by rfl)) (.refl s)
  · split
    · exact .kept rfl
    · split <;> exact .kept rfl
  · exact .kept rfl
  · exact .kept rfl

theorem State.runtimeReset_keepsArray (p : Port) (s : State) : KeepsArray s (s.runtimeReset p) :=
  ⟨fun _ => arrayLaw_of_reset (fun n j => by simp [State.runtimeReset]) fun g => by simp [State.runtimeReset]⟩

/-- The end of a response may be that of a RESET_RUNTIME (R169). -/
theorem State.endResponse_keepsArray (p : Port) (s : State) : KeepsArray s (s.endResponse p) := by
  unfold State.endResponse
  split
  · exact s.runtimeReset_keepsArray p
  · exact .kept rfl
  · exact .refl s

theorem execRuntimeReset_keepsArray {p : Port} (h : execRuntimeReset p s = .next t) : KeepsArray s t := by
  refine .occur h ?_
  split
  · exact s.runtimeReset_keepsArray p
  · exact .refl s

theorem execPowerOnReset_keepsArray (h : execPowerOnReset s = .next t) : KeepsArray s t := by
  cases h
  exact ⟨fun _ => arrayLaw_of_reset (fun n j => by simp [State.powerOn]) fun g => by simp [State.powerOn]⟩

theorem execBadCheck_keepsArray {p : Port} {frame : List Byte} (h : execBadCheck p frame s = .next t) :
    KeepsArray s t := by
  refine .occur h ?_
  split
  · split <;> exact .kept rfl
  · exact .refl s

theorem execFrameAbandoned_keepsArray {p : Port} {c : RxChar} (h : execFrameAbandoned p c s = .next t) :
    KeepsArray s t :=
  .occur h (.ite (.kept (by rfl)) (.refl s))

theorem execInterByteTimeout_keepsArray {p : Port} (h : execInterByteTimeout p s = .next t) : KeepsArray s t := by
  refine .occur h ?_
  split <;> exact .kept rfl

theorem execByteDuringService_keepsArray {p : Port} (h : execByteDuringService p s = .next t) :
    KeepsArray s t := by
  refine .occur h ?_
  split <;> exact .kept rfl

/-! ### Events at the gates, the sockets, the line, the clock and the contacts -/

theorem State.takeMeasurement_keepsArray (n : Channel) (l : Nat) (s : State) :
    KeepsArray s (s.takeMeasurement n l) :=
  .settle (.same (by rfl)) s

theorem execMeasurementComplete_keepsArray {n : Channel} (h : execMeasurementComplete n s = .next t) :
    KeepsArray s t := by
  refine .occur h ?_
  split
  · exact .refl s
  · exact s.takeMeasurement_keepsArray n _

theorem execHoldCountdownEnd_keepsArray {n : Channel} (h : execHoldCountdownEnd n s = .next t) :
    KeepsArray s t := by
  refine .occur h ?_
  split
  · exact .refl s
  · exact .ite (s.takeMeasurement_keepsArray n _) (.refl s)

theorem execInsertion_keepsArray {n : Channel} (h : execInsertion n s = .next t) : KeepsArray s t :=
  .occur h (.ite (.kept (by rfl)) (.refl s))

theorem execSensingEnd_keepsArray {n : Channel} {r : SenseReading} (h : execSensingEnd n r s = .next t) :
    KeepsArray s t :=
  .occur h (.ite (.socketEvent (.ite (.same (by rfl)) (.same (by rfl))) n s) (.refl s))

theorem execPhantomRampEnd_keepsArray {n : Channel} (h : execPhantomRampEnd n s = .next t) : KeepsArray s t :=
  .occur h (.ite (.socketEvent (.same (by rfl)) n s) (.refl s))

theorem execOvercurrent_keepsArray {x : PhantomCurrent} (h : execOvercurrent x s = .next t) : KeepsArray s t :=
  .occur h (.ite (.socketEvent (.same (by rfl)) _ s) (.refl s))

theorem execRemoval_keepsArray {n : Channel} (h : execRemoval n s = .next t) : KeepsArray s t :=
  .occur h (.ite (.socketEvent (.ite (.same (by rfl)) (.same (by rfl))) n s) (.refl s))

/-- The takeover silences its zones before the targets are re-evaluated (R75, R150). -/
theorem execOverrideAssertion_keepsArray (h : execOverrideAssertion s = .next t) : KeepsArray s t := by
  refine .occur h (.ite (.ite (.kept (by rfl)) ?_) (.refl s))
  have active : KeepsLawful s
      ((s.onOverride (Override.take true)).onOverride fun o => { o with state := .active }) := .same rfl
  exact .settle ((active.takeOver _).trans (.same (by rfl))) s

theorem ZoneState.taken_of_release {z : ZoneState} (h : z.release.taken = true) : z.taken = true := by
  by_contra free
  simp [ZoneState.release, free] at h

theorem execOverrideDeassertion_keepsArray (h : execOverrideDeassertion s = .next t) : KeepsArray s t := by
  refine .occur h (.ite (.ite (.kept (by rfl)) ?_) (.refl s))
  have latched : KeepsLawful s
      ((s.onOverride (Override.take false)).onOverride fun o => { o with state := .latched }) := .same rfl
  exact .settle ((latched.onZones fun _ _ => ZoneState.taken_of_release).trans (.same (by rfl))) s

theorem execQualificationComplete_keepsArray (h : execQualificationComplete s = .next t) : KeepsArray s t :=
  .occur h (.ite (.kept (by rfl)) (.refl s))

theorem execClockGap_keepsArray (h : execClockGap s = .next t) : KeepsArray s t := by
  refine .occur h (.ite ?_ (.refl s))
  split
  · exact .refl s
  · exact .kept rfl
  · exact .kept rfl
  · refine .ite (.settleClock ?_ s _) (.kept (by rfl))
    exact .onZones (.same (by rfl)) fun _ _ now => now

theorem execContactChange_keepsArray {k : ContactIn} (h : execContactChange k s = .next t) : KeepsArray s t :=
  .occur h (.ite (.settle (.applyContact (.same (by rfl)) k) s) (.refl s))

theorem execPulseEnd_keepsArray {p : Port} (h : execPulseEnd p s = .next t) : KeepsArray s t :=
  .occur h (.ite (.kept (by rfl)) (.refl s))

/-! ### The engine's commands and the fades -/

theorem State.nextItem_keepsArray (s : State) : KeepsArray s s.nextItem := by
  unfold State.nextItem
  split <;> exact .kept rfl

theorem execItemStart_keepsArray (h : execItemStart s = .next t) : KeepsArray s t := by
  refine .occur h ?_
  split <;> exact .kept rfl

theorem execChannelItemComplete_keepsArray {n : Channel} (h : execChannelItemComplete n s = .next t) :
    KeepsArray s t := by
  refine .occur h ?_
  split
  · refine .ite (.ite s.nextItem_keepsArray (.trans (.settle ?_ s) (State.nextItem_keepsArray _))) (.refl s)
    exact .onlyMix (.reEvaluate _ n) (.deliverFull s fun _ _ => fullResult_inRange _ _ _)
  · exact .refl s

theorem execAllItemComplete_keepsArray (h : execAllItemComplete s = .next t) : KeepsArray s t := by
  refine .occur h ?_
  split
  · refine .ite s.nextItem_keepsArray (.trans (.settle ?_ s) (State.nextItem_keepsArray _))
    exact .onlyMix (.reEvaluateAll _ _) (.deliverFull s fun _ _ => fullResult_inRange _ _ _)
  · exact .refl s

theorem execGroupItemComplete_keepsArray {g : Group} (h : execGroupItemComplete g s = .next t) :
    KeepsArray s t := by
  refine .occur h ?_
  split
  · refine .ite (.trans ?_ (State.nextItem_keepsArray _)) (.refl s)
    exact List.foldlRecOn (motive := KeepsArray s) _ _ (.refl s) fun u delivered m _ =>
      delivered.trans (.deliverLevels m (fun _ => levelOnly_inRange _ _ _ _ _) u)
  · exact .refl s

theorem State.sendFeeds_keepsArray (s : State) : KeepsArray s s.sendFeeds :=
  .ite (.kept (by rfl)) (.kept (by rfl))

theorem execInputSample_keepsArray {slots : Table 17 Sample} (h : execInputSample slots s = .next t) :
    KeepsArray s t :=
  .occur h (.kept (by rfl))

theorem execOutputSample_keepsArray (h : execOutputSample s = .next t) : KeepsArray s t := by
  refine .occur h ?_
  have ended : KeepsArray s (s.onCrosspoints fun len x => x.endFade len) :=
    .onCrosspoints (fun len now => now.endFade len) s
  have advanced := ended.trans (.onCrosspoints (f := fun _ x => x.advance) (fun _ now => now.advance) _)
  exact (advanced.trans (State.sendFeeds_keepsArray _)).trans (.kept (by rfl))

/-! ### Every command -/

theorem exec_keepsArray {i : Instr} (h : exec i s = .next t) : KeepsArray s t := by
  cases i with
  | readEntry p body => exact .requestEvent h (by rw [serveReadEntry_state]; exact .refl s)
  | writeEntryStation p index entry => exact .requestEvent h (serveWriteStation_keepsArray ..)
  | writeEntryZone p index entry => exact .requestEvent h (serveWriteZone_keepsArray ..)
  | writeEntryChannel p index entry => exact .requestEvent h (serveWriteChannel_keepsArray ..)
  | writeEntryGroup p index entry => exact .requestEvent h (serveWriteGroup_keepsArray ..)
  | writeEntryMembership p index entry => exact .requestEvent h (serveWriteMembership_keepsArray ..)
  | writeEntryProfile p index entry => exact .requestEvent h (serveWriteProfile_keepsArray ..)
  | writeEntryContactIn p index entry => exact .requestEvent h (serveWriteContactIn_keepsArray ..)
  | writeEntryContactOut p index entry => exact .requestEvent h (serveWriteContactOut_keepsArray ..)
  | writeEntryPortRouting p index entry => exact .requestEvent h (serveWriteRouting_keepsArray ..)
  | writeEntrySystem p index entry => exact .requestEvent h (serveWriteSystem_keepsArray ..)
  | writeEntryReadOnly p body => exact execWriteEntryReadOnly_keepsArray h
  | moveSource p body => exact .requestEvent h (serveMoveSource_keepsArray ..)
  | setGateMode p body => exact .requestEvent h (serveSetGateMode_keepsArray ..)
  | setTemperature p body => exact .requestEvent h (serveSetTemperature_keepsArray ..)
  | selectArrangement p body => exact .requestEvent h (serveSelectArrangement_keepsArray ..)
  | holdGroup p body => exact .requestEvent h (serveHoldGroup_keepsArray ..)
  | releaseGroup p body => exact .requestEvent h (serveReleaseGroup_keepsArray ..)
  | breakHold p body => exact .requestEvent h (serveBreakHold_keepsArray ..)
  | zoneMute p body => exact .requestEvent h (serveZoneMute_keepsArray ..)
  | setSocketPowerOn p body => exact execSetSocketPowerOn_keepsArray h
  | setSocketPowerOff p body => exact execSetSocketPowerOff_keepsArray h
  | resenseSocket p body => exact .requestEvent h (serveResense_keepsArray ..)
  | readEvents p body => exact .requestEvent h (.sized (.refl s))
  | clearEvents p body => exact .requestEvent h (serveClearEvents_keepsArray ..)
  | forceEvents p body => exact .requestEvent h (serveForceEvents_keepsArray ..)
  | resumeAfterOverride p body => exact .requestEvent h (serveResume_keepsArray ..)
  | rearmOutputs p body => exact .requestEvent h (serveRearm_keepsArray ..)
  | freezeGeometry p body => exact .requestEvent h (.sized (.kept (by rfl)))
  | standby p body => exact .requestEvent h (serveStandby_keepsArray ..)
  | wake p body => exact .requestEvent h (serveWake_keepsArray ..)
  | resetRuntime p body => exact .requestEvent h (.sized (.refl s))
  | runtimeReset p => exact execRuntimeReset_keepsArray h
  | powerOnReset => exact execPowerOnReset_keepsArray h
  | unknownRequest p kind body => exact execUnknownRequest_keepsArray h
  | badCheck p frame => exact execBadCheck_keepsArray h
  | frameAbandoned p c => exact execFrameAbandoned_keepsArray h
  | interByteTimeout p => exact execInterByteTimeout_keepsArray h
  | byteDuringService p => exact execByteDuringService_keepsArray h
  | responseEnd p => exact .occur h (s.endResponse_keepsArray p)
  | itemStart => exact execItemStart_keepsArray h
  | channelItemComplete n => exact execChannelItemComplete_keepsArray h
  | allItemComplete => exact execAllItemComplete_keepsArray h
  | groupItemComplete g => exact execGroupItemComplete_keepsArray h
  | rampEnd n j => exact .occur h (.onCrosspoint (fun now => now.endRamp) n j s)
  | crossfadeEnd n j => exact .occur h (.onCrosspoint (fun now => now.endCrossfade _) n j s)
  | measurementComplete n => exact execMeasurementComplete_keepsArray h
  | holdCountdownEnd n => exact execHoldCountdownEnd_keepsArray h
  | insertion n => exact execInsertion_keepsArray h
  | sensingEnd n r => exact execSensingEnd_keepsArray h
  | phantomRampEnd n => exact execPhantomRampEnd_keepsArray h
  | overcurrent x => exact execOvercurrent_keepsArray h
  | removal n => exact execRemoval_keepsArray h
  | overrideAssertion => exact execOverrideAssertion_keepsArray h
  | overrideDeassertion => exact execOverrideDeassertion_keepsArray h
  | wordClockEdge periodNs => exact .occur h (.kept (by rfl))
  | qualificationComplete => exact execQualificationComplete_keepsArray h
  | clockGap => exact execClockGap_keepsArray h
  | contactChange k => exact execContactChange_keepsArray h
  | pulseEnd p => exact execPulseEnd_keepsArray h
  | outputSample => exact execOutputSample_keepsArray h
  | inputSample slots => exact execInputSample_keepsArray h
  | byteReceived p c => exact .occur h (s.receive_keepsArray p c)
  | heldInReset => cases h; exact .kept rfl
  | rawPresenceChange n closed => cases h; exact .kept rfl
  | rawLineChange microamps => cases h; exact .kept rfl
  | rawContactChange k closed => cases h; exact .kept rfl

end Sys2Proof.Machine
end

section
/-! PROOFS. The laws of the array of crosspoints (R61, R63, R71, R75). -/

namespace Sys2Proof.Machine

/-- Settles O52: the command at the front of the queue keeps the laws; what waits behind it is no matter of theirs. -/
theorem everyStepKeepsTheCrosspointLaws : Obligations.EveryStepKeepsTheCrosspointLaws := by
  unfold Obligations.EveryStepKeepsTheCrosspointLaws
  intro s t law h
  unfold step at h
  split at h
  case h_1 => cases h; exact law
  case h_2 c rest front => exact (exec_keepsArray (s := s.setPending rest) h).keeps law

end Sys2Proof.Machine
end

section
/-! SUPPORT. A request of one byte that names a thing, and the replies to the three requests for the hold of a group. -/

namespace Sys2Proof.Machine

open Sys2Proof.Safety

/-- A body of one byte goes to the thing that the byte numbers. -/
theorem naming_numberByte {n : Nat} {s : State} {own : Fin n → Reply} (i : Fin n) (hn : n < 256) :
    naming 1 [numberByte i] s own = own i :=
  naming_of_some rfl (numbered_numberByte i hn)

/-- A body of one byte that numbers nothing is refused (R180, step 5). -/
theorem naming_outside {n : Nat} {s : State} {own : Fin n → Reply} {v : Byte} (h : v.toNat = 0 ∨ n < v.toNat) :
    naming 1 [v] s own = refuse s .badIndex :=
  naming_of_index rfl (numbered_eq_none.mpr h)

/-- A holder set moves the record of its group alone. -/
theorem State.setHolder_eq (g : Group) (h : Option Port) (s : State) :
    s.setHolder g h = { s with groups := s.groups.set g { s.groups.get g with holder := h } } := rfl

section
variable {s : State} {p q : Port} {g : Group}

/-! ### The replies of HOLD_GROUP, RELEASE_GROUP and BREAK_HOLD by the present holder -/

theorem serveHoldGroup_free (free : (s.groups.get g).holder = none) :
    serveHoldGroup p [numberByte g] s = accept (s.setHolder g (some p)) := by
  rw [serveHoldGroup, naming_numberByte g (by decide), free]

theorem serveHoldGroup_own (held : (s.groups.get g).holder = some p) :
    serveHoldGroup p [numberByte g] s = accept s := by
  rw [serveHoldGroup, naming_numberByte g (by decide), held]
  exact if_pos rfl

theorem serveHoldGroup_elsewhere (held : (s.groups.get g).holder = some q) (other : q ≠ p) :
    serveHoldGroup p [numberByte g] s = refuse s .heldElsewhere := by
  rw [serveHoldGroup, naming_numberByte g (by decide), held]
  exact if_neg other

theorem serveReleaseGroup_own (held : (s.groups.get g).holder = some p) :
    serveReleaseGroup p [numberByte g] s = accept (s.setHolder g none) := by
  rw [serveReleaseGroup, naming_numberByte g (by decide), if_pos held]

theorem serveReleaseGroup_other (other : (s.groups.get g).holder ≠ some p) :
    serveReleaseGroup p [numberByte g] s = refuse s .notHolder := by
  rw [serveReleaseGroup, naming_numberByte g (by decide), if_neg other]

theorem serveBreakHold_free (free : (s.groups.get g).holder = none) :
    serveBreakHold [numberByte g] s = refuse s .notHeld := by
  rw [serveBreakHold, naming_numberByte g (by decide), free]

theorem serveBreakHold_held (held : (s.groups.get g).holder = some q) :
    serveBreakHold [numberByte g] s = accept ((s.setHolder g none).postTo q EventKind.holdBroken.mask) := by
  rw [serveBreakHold, naming_numberByte g (by decide), held]

/-! ### The three requests served -/

variable {body : List Byte}

theorem exec_holdGroup (h : Ready s p 0x07 body) :
    exec (.holdGroup p body) s = .next (answering (serveHoldGroup p body s).state p 0x07
      (serveHoldGroup p body s).status (serveHoldGroup p body s).body) :=
  occur_request h

theorem exec_releaseGroup (h : Ready s p 0x08 body) :
    exec (.releaseGroup p body) s = .next (answering (serveReleaseGroup p body s).state p 0x08
      (serveReleaseGroup p body s).status (serveReleaseGroup p body s).body) :=
  occur_request h

theorem exec_breakHold (h : Ready s p 0x09 body) :
    exec (.breakHold p body) s = .next (answering (serveBreakHold body s).state p 0x09
      (serveBreakHold body s).status (serveBreakHold body s).body) :=
  occur_request h

end

end Sys2Proof.Machine
end

section
/-! PROOFS. The hold of a group (R122, R123). -/

namespace Sys2Proof.Machine

/-- Settles O23: each request by the group's present holder, and then the numbers that name no group. -/
theorem holdsAreTakenReleasedAndBroken : Obligations.HoldsAreTakenReleasedAndBroken := by
  unfold Obligations.HoldsAreTakenReleasedAndBroken
  intro s p
  refine ⟨fun g => ⟨fun ready => ?taken, fun ready => ?released, fun ready => ?broken⟩,
    fun v outside => ⟨fun ready => ?takeNothing, fun ready => ?releaseNothing, fun ready => ?breakNothing⟩⟩
  case taken =>
    rw [exec_holdGroup ready]
    cases holder : (s.groups.get g).holder with
    | none =>
      rw [serveHoldGroup_free holder, State.setHolder_eq]
      rfl
    | some q =>
      by_cases own : q = p
      · subst own
        simp only [serveHoldGroup_own holder, if_true, accept_state, accept_status, accept_body]
      · simp only [serveHoldGroup_elsewhere holder own, if_neg own, refuse_state, refuse_status, refuse_body]
  case released =>
    rw [exec_releaseGroup ready]
    by_cases own : (s.groups.get g).holder = some p
    · rw [serveReleaseGroup_own own, if_pos own, State.setHolder_eq]
      rfl
    · rw [serveReleaseGroup_other own, if_neg own]
      rfl
  case broken =>
    rw [exec_breakHold ready]
    cases holder : (s.groups.get g).holder with
    | none =>
      rw [serveBreakHold_free holder]
      rfl
    | some q =>
      rw [serveBreakHold_held holder, State.setHolder_eq]
      rfl
  case takeNothing => rw [exec_holdGroup ready, serveHoldGroup, naming_outside outside]; rfl
  case releaseNothing => rw [exec_releaseGroup ready, serveReleaseGroup, naming_outside outside]; rfl
  case breakNothing => rw [exec_breakHold ready, serveBreakHold, naming_outside outside]; rfl

end Sys2Proof.Machine
end

section
/-! SUPPORT. What an event at the zones' causes or at the line makes of the array: the re-evaluation that ends it
moves no crosspoint of a zone left alone, and a SILENT crosspoint that it brings in ramps from 160 (R63, R64, R74). -/

namespace Sys2Proof.Machine

open Sys2Proof.Safety

/-! ### One crosspoint -/

/-- A target re-evaluated to its own value moves nothing (R63). -/
theorem Crosspoint.retarget_of_same {x : Crosspoint} {t : Option Nat} (len : Nat) (same : t = x.target) :
    x.retarget len t = x := if_pos same

section
variable {x : Crosspoint} {taken : Bool} {t : Option Nat}

/-- A SILENT crosspoint given a level ramps in from 160 (R64). -/
theorem Crosspoint.Lawful.retarget_silent (law : x.Lawful taken) (silent : x.phase = .silent) (on : t ≠ none)
    (len : Nat) : (x.retarget len t).phase = .ramping 160 len len := by
  have new : t ≠ x.target := law.target_of_silent silent ▸ on
  rw [Crosspoint.retarget, if_neg new, silent]
  exact if_neg (by rwa [Option.isNone_iff_eq_none])

/-- At an event that gives or takes CLOCK or STANDBY it does so over 240 samples (R74). -/
theorem Crosspoint.Lawful.retargetClock_silent (law : x.Lawful taken) (silent : x.phase = .silent) (on : t ≠ none) :
    (x.retargetClock t).phase = .ramping 160 240 240 := by
  rw [Crosspoint.retargetClock, law.retarget_silent silent on]
  rfl

end

/-! ### The re-evaluation that ends an event -/

/-- The re-evaluation of R63 is that of R74 where no zone has gained or lost CLOCK or STANDBY. -/
theorem State.settle_eq_settleClock (u before : State) : u.settle before = u.settleClock before fun _ => false := by
  simp [State.settle, State.settleClock, State.retarget, State.retargetClock]

/-- What the end of an event makes of one crosspoint (R63, R74). -/
theorem State.settleClock_get (u before : State) (zones : Zone → Bool) (n : Channel) (j : Zone) :
    ((u.settleClock before zones).crosspoints.get n).get j =
      let x := (u.crosspoints.get n).get j
      if zones j then x.retargetClock (u.targetOf n j x)
      else x.retarget (u.settings.fadeLength j) (u.targetOf n j x) := by
  simp [State.retargetClock]

/-! ### Events at the zones and the line -/

/-- What an event at the zones or the line has made of `s` before the re-evaluation that ends it: within the frame, and
no crosspoint has moved. -/
structure ZoneChange (s u : State) : Prop extends ZoneFrame s u where
  crosspoints : u.crosspoints = s.crosspoints

theorem ZoneChange.refl (s : State) : ZoneChange s s :=
  ⟨⟨rfl, rfl, rfl, rfl, rfl, rfl, rfl, rfl, rfl, rfl, rfl, rfl, rfl⟩, rfl⟩

namespace ZoneChange

variable {s u : State} {n : Channel} {j : Zone} {zones : Zone → Bool}

theorem onZones (h : ZoneChange s u) (f : Zone → ZoneState → ZoneState) : ZoneChange s (u.onZones f) := { h with }

theorem onOverride (h : ZoneChange s u) (f : Override → Override) : ZoneChange s (u.onOverride f) := { h with }

theorem post (h : ZoneChange s u) (k : EventKind) : ZoneChange s (u.post k) := { h with }

/-- No open count has changed, so the end of the event asks nothing of the engine (R111). -/
theorem settleClock (h : ZoneChange s u) (zones : Zone → Bool) : ZoneFrame s (u.settleClock s zones) :=
  have engine : (u.settleClock s zones).engine = s.engine := by
    rw [State.settleClock_engine, h.groups, Engine.askCounts_of_same _ fun _ => rfl, h.engine]
  { h with engine }

/-- The live test of a crosspoint whose zone stands as it was (R62). -/
theorem live_eq (h : ZoneChange s u) (zone : u.zones.get j = s.zones.get j) (n : Channel) :
    u.live n j = s.live n j := by
  simp only [State.live, h.settings, h.groups, h.standby, zone]

/-- The end of the event moves no crosspoint of a zone whose causes stand (R63). -/
theorem settleClock_get_of_zone (h : ZoneChange s u) (law : TargetLaw s) (unmarked : zones j = false)
    (zone : u.zones.get j = s.zones.get j) (n : Channel) :
    ((u.settleClock s zones).crosspoints.get n).get j = (s.crosspoints.get n).get j := by
  have same : u.targetOf n j ((s.crosspoints.get n).get j) = ((s.crosspoints.get n).get j).target := by
    rw [law n j, State.targetOf, h.live_eq zone, State.targetOf]
  simp only [State.settleClock_get, h.crosspoints, unmarked]
  exact Crosspoint.retarget_of_same _ same

/-- A SILENT crosspoint with a target at the end of the event ramps in from 160: over 240 samples in a zone of `zones`,
which has gained or lost CLOCK or STANDBY, and over its zone's profile elsewhere (R64, R73, R74). -/
theorem settleClock_phase_of_silent (h : ZoneChange s u) (law : ArrayLaw s)
    (silent : ((s.crosspoints.get n).get j).phase = .silent)
    (on : (((u.settleClock s zones).crosspoints.get n).get j).target ≠ none) :
    (((u.settleClock s zones).crosspoints.get n).get j).phase =
      let len := if zones j then 240 else s.settings.fadeLength j
      .ramping 160 len len := by
  have lawful := lawful_of_arrayLaw law n j
  simp only [State.settleClock_get, h.crosspoints, h.settings] at on ⊢
  cases marked : zones j with
  | true =>
    simp only [marked, if_true, Crosspoint.retargetClock, Crosspoint.retarget_target] at on
    exact lawful.retargetClock_silent silent on
  | false =>
    simp only [marked, Bool.false_eq_true, if_false, Crosspoint.retarget_target] at on
    exact lawful.retarget_silent silent on _

end ZoneChange

/-- The answer to a request moves no block of the frame. -/
theorem zoneFrame_answering {s t : State} (h : ZoneFrame s t) (p : Port) (kind : Byte) (st : Status)
    (body : List Byte) : ZoneFrame s (answering t p kind st body) := { h with }

/-! ### RESUME_AFTER_OVERRIDE and REARM_OUTPUTS -/

/-- The latches lifted in LATCHED, before the re-evaluation (R153). -/
def State.resumed (s : State) : State :=
  ((s.onOverride fun o => { o with state := .idle }).onZones
    fun _ z => { z with overrideLatch := false }).post .overrideChange

/-- CLOCK removed from every zone, before the re-evaluation (R164). -/
def State.rearmed (s : State) : State := s.onZones fun _ z => { z with clock := false }

theorem State.zoneChange_resumed (s : State) : ZoneChange s s.resumed :=
  (((ZoneChange.refl s).onOverride _).onZones _).post _

theorem State.zoneChange_rearmed (s : State) : ZoneChange s s.rearmed := (ZoneChange.refl s).onZones _

theorem State.resumed_zones_get (s : State) (j : Zone) :
    s.resumed.zones.get j = { s.zones.get j with overrideLatch := false } := by
  simp [State.resumed]

theorem State.rearmed_zones_get (s : State) (j : Zone) :
    s.rearmed.zones.get j = { s.zones.get j with clock := false } := by
  simp [State.rearmed]

section
variable {s : State} {p : Port} {body : List Byte}

theorem exec_resumeAfterOverride (h : Ready s p 0x10 body) :
    exec (.resumeAfterOverride p body) s = .next (answering (serveResume body s).state p 0x10
      (serveResume body s).status (serveResume body s).body) :=
  occur_request h

theorem exec_rearmOutputs (h : Ready s p 0x11 body) :
    exec (.rearmOutputs p body) s = .next (answering (serveRearm body s).state p 0x11
      (serveRearm body s).status (serveRearm body s).body) :=
  occur_request h

theorem serveResume_idle (idle : s.override.state = .idle) : serveResume [] s = accept s := by
  rw [serveResume, sized_of_length List.length_nil, idle]

theorem serveResume_active (active : s.override.state = .active) :
    serveResume [] s = refuse s .overrideActive := by
  rw [serveResume, sized_of_length List.length_nil, active]

theorem serveResume_latched (latched : s.override.state = .latched) :
    serveResume [] s = accept (s.resumed.settleClock s fun _ => false) := by
  rw [serveResume, sized_of_length List.length_nil, latched, ← State.settle_eq_settleClock]
  rfl

theorem serveRearm_ready (ready : s.clock.state = .locked ∨ s.clock.state = .internal) :
    serveRearm [] s = accept (s.rearmed.settleClock s fun j => (s.zones.get j).clock) := by
  rw [serveRearm, sized_of_length List.length_nil, if_pos ready]
  rfl

theorem serveRearm_unready (unready : s.clock.state = .locking ∨ s.clock.state = .holdover) :
    serveRearm [] s = refuse s .clockNotReady := by
  rw [serveRearm, sized_of_length List.length_nil, if_neg]
  rcases unready with locking | holdover
  · simp [locking]
  · simp [holdover]

end

end Sys2Proof.Machine
end

section
/-! PROOFS. The two requests that end a silencing: RESUME_AFTER_OVERRIDE (R153) and REARM_OUTPUTS (R164). -/

namespace Sys2Proof.Machine

open Sys2Proof.Safety

/-- Settles O26: the answers by the state of the monitors; where causes are lifted, the crosspoints by the re-evaluation
that ends the event. -/
theorem resumeAndRearm : Obligations.ResumeAndRearm := by
  unfold Obligations.ResumeAndRearm
  refine ⟨fun s p ready => ⟨fun idle => ?idle, fun active => ?active, fun latched law => ?latched⟩,
    fun s p ready => ⟨fun unready => ?unready, fun locked law => ?rearmed⟩⟩
  case idle => rw [exec_resumeAfterOverride ready, serveResume_idle idle]; rfl
  case active => rw [exec_resumeAfterOverride ready, serveResume_active active]; rfl
  case unready => rw [exec_rearmOutputs ready, serveRearm_unready unready]; rfl
  case latched =>
    have run := exec_resumeAfterOverride ready
    rw [serveResume_latched latched] at run
    have change := s.zoneChange_resumed
    have ⟨_, targetBefore, _⟩ := law
    have ⟨_, target, _⟩ := (exec_keepsArray run).keeps law
    refine ⟨_, run, rfl, rfl, s.resumed_zones_get, target, fun n j unlatched => ?_, fun n j silent on => ?_,
      zoneFrame_answering (change.settleClock _) .., rfl, rfl⟩
    · have zone : s.resumed.zones.get j = s.zones.get j := by rw [s.resumed_zones_get, ← unlatched]
      exact change.settleClock_get_of_zone targetBefore rfl zone n
    · exact change.settleClock_phase_of_silent law silent on
  case rearmed =>
    have run := exec_rearmOutputs ready
    rw [serveRearm_ready locked] at run
    have change := s.zoneChange_rearmed
    have ⟨_, targetBefore, _⟩ := law
    have stands (n : Channel) (j : Zone) (unmarked : (s.zones.get j).clock = false) :
        ((s.rearmed.settleClock s fun j => (s.zones.get j).clock).crosspoints.get n).get j =
          (s.crosspoints.get n).get j :=
      have zone : s.rearmed.zones.get j = s.zones.get j := by rw [s.rearmed_zones_get, ← unmarked]
      change.settleClock_get_of_zone targetBefore unmarked zone n
    have ⟨_, target, _⟩ := (exec_keepsArray run).keeps law
    refine ⟨_, run, rfl, s.rearmed_zones_get, target, stands, fun n j silent on => ?_,
      zoneFrame_answering (change.settleClock _) .., rfl, rfl, rfl⟩
    cases clock : (s.zones.get j).clock with
    | true =>
      refine (change.settleClock_phase_of_silent law silent on).trans ?_
      simp only [clock, if_true]
    | false =>
      have off := (lawful_of_arrayLaw law n j).target_of_silent silent
      exact absurd ((congrArg Crosspoint.target (stands n j clock)).trans off) on

end Sys2Proof.Machine
end

section
/-! SUPPORT. What a command makes of the state, said once for every command: `Act` has one constructor for each accepted
request and each event that is due, with the checks that it has passed; a command that is refused or not due is
`Act.nothing`, and a character that is lost `Act.faulted`. -/

namespace Sys2Proof.Machine

open Sys2Proof.Safety

/-- The window of a CHANNEL entry is the stored one. -/
def ChannelRec.sameWindow (a b : ChannelRec) : Prop := b.start = a.start ∧ b.length = a.length

/-- What a command makes of a state but for the request handlers: nothing, or the effect of the request that it is, once
every check has passed, or of the event that it is, once it is due. -/
inductive Act : Instr → State → State → Prop
  | nothing {c s} : Act c s s
  | faulted {c s} (p : Port) : Act c s (s.postTo p EventKind.portFault.mask)
  -- the writes
  | station {p index entry s k} (freeze : s.frozen = true → stationOf entry = s.settings.stations.get k) :
      Act (.writeEntryStation p index entry) s (s.storeStation k (stationOf entry))
  | zone {p index entry s j r} (freeze : s.frozen = true → (s.settings.zones.get j).sameGeometry r = true)
      (range : ZoneInRange r) : Act (.writeEntryZone p index entry) s (s.storeZone j r)
  | channel {p index entry s n r} (freeze : s.frozen = true → (s.settings.channels.get n).sameWindow r)
      (window : (s.settings.channels.get n).sameWindow r ∨
        (s.windowBusy n = false ∧ s.settings.overlapsAnother n r.start r.length = false ∧
          windowInRange r.start r.length = true))
      (range : ChannelInRange r) : Act (.writeEntryChannel p index entry) s (s.storeChannel n r)
  | group {p index entry s k g r} (size : k = s.settings.active → (s.groups.get g).forcedCount ≤ r.maxOpen)
      (range : GroupInRange r) : Act (.writeEntryGroup p index entry) s (s.storeGroup k g r)
  | membership {p index entry s k x g} : Act (.writeEntryMembership p index entry) s (s.storeMembership k x g)
  | profile {p index entry s k v} (range : 240 ≤ v ∧ v ≤ 9600) :
      Act (.writeEntryProfile p index entry) s (s.onSettings fun c => { c with profiles := c.profiles.set k v })
  | contactIn {p index entry s k b} (range : 10 ≤ b.debounceMs ∧ b.debounceMs ≤ 500) :
      Act (.writeEntryContactIn p index entry) s (s.storeContactIn k b)
  | contactOut {p index entry s q b} :
      Act (.writeEntryContactOut p index entry) s (s.onSettings fun c => { c with contactOut := c.contactOut.set q b })
  | routing {p index entry s q r} (range : maskValid r.mask = true) :
      Act (.writeEntryPortRouting p index entry) s (s.storeRouting q r)
  | system {p index entry s r} (range : r.overrideAttenuation ≤ 60) :
      Act (.writeEntrySystem p index entry) s (s.storeSystem r)
  -- the other requests
  | moveSource {p body s n st} : Act (.moveSource p body) s ((s.moveTo n st).settle s)
  | gateMode {p body s n mode} (ask : s.forcedAskFails n (some mode) = false) :
      Act (.setGateMode p body) s ((s.setPortMode n mode).settle s)
  | temperature {p body s t} : Act (.setTemperature p body) s (s.reportTemperature t)
  | temperatureClamped {p body s t} : Act (.setTemperature p body) s ((s.reportTemperature t).post .clamped)
  | arrangement {p body s k} (other : k ≠ s.settings.active) :
      Act (.selectArrangement p body) s ((s.switchTo k).settle s)
  | hold {p body s g} (free : (s.groups.get g).holder = none) : Act (.holdGroup p body) s (s.setHolder g (some p))
  | release {p body s g} (own : (s.groups.get g).holder = some p) : Act (.releaseGroup p body) s (s.setHolder g none)
  | breakHold {p body s g q} : Act (.breakHold p body) s ((s.setHolder g none).postTo q EventKind.holdBroken.mask)
  | mute {p body s j mute} :
      Act (.zoneMute p body) s ((s.onZone j fun z => { z with requestMute := mute }).settle s)
  | socketOn {p body s n} (condenser : (s.sockets.get n).phase.sensedClass = some .condenser) (awake : s.standby = false) :
      Act (.setSocketPowerOn p body) s ((s.onSocket n Socket.powerOnRequest).socketEvent n s)
  | socketRefused {p body s} : Act (.setSocketPowerOn p body) s (s.post .powerRefused)
  | socketOff {p body s n} :
      Act (.setSocketPowerOff p body) s ((s.onSocket n Socket.powerOffRequest).socketEvent n s)
  | resense {p body s n} : Act (.resenseSocket p body) s ((s.onSocket n fun x =>
      { x with phase := .sensing Config.sensingTime, wish := false, suppressed := false }).socketEvent n s)
  | clearEvents {p body s kinds} (valid : maskValid kinds = true) : Act (.clearEvents p body) s (s.clearKinds p kinds)
  | forceEvents {p body s kinds} (valid : maskValid kinds = true) : Act (.forceEvents p body) s (s.postTo p kinds)
  | resume {p body s} (latched : s.override.state = .latched) : Act (.resumeAfterOverride p body) s
      ((((s.onOverride fun o => { o with state := .idle }).onZones fun _ z => { z with overrideLatch := false }).post
        .overrideChange).settle s)
  | rearm {p body s} : Act (.rearmOutputs p body) s
      ((s.onZones fun _ z => { z with clock := false }).settleClock s fun j => (s.zones.get j).clock)
  | freeze {p body s} : Act (.freezeGeometry p body) s { s with frozen := true }
  | standby {p body s} (awake : s.standby = false) : Act (.standby p body) s s.enterStandby
  | wake {p body s} (asleep : s.standby = true) : Act (.wake p body) s s.leaveStandby
  -- the resets
  | runtimeReset {p s} : Act (.runtimeReset p) s (s.runtimeReset p)
  | resetAtEnd {p s} : Act (.responseEnd p) s (s.runtimeReset p)
  | powerOnReset {s} : Act .powerOnReset s (.powerOn s.settings (s.sockets.map fun _ x => x.raw) s.override.raw
      (s.contacts.map fun _ c => c.raw) s.pending)
  | held {s} : Act .heldInReset s { s with held := true, ports := ⟨.idle, .idle, .idle⟩, feeds := .ofFn fun _ => 0 }
  -- the alignment engine and the fades
  | itemStart {s i rest} (idle : s.engine.flight = none) (head : s.engine.queue = i :: rest) :
      Act .itemStart s (s.startItem i rest)
  | channelDropped {s n inputs zones t} (due : s.engine.flight = some (.channel n inputs zones t))
      (overtaken : Requeued s n) : Act (.channelItemComplete n) s s.nextItem
  | channelDelivered {s n inputs zones t} (due : s.engine.flight = some (.channel n inputs zones t))
      (stands : ¬ Requeued s n) : Act (.channelItemComplete n) s
      (((s.deliverFull (fun k => k == n) fun _ j => fullResult inputs (zones.get j) t).reEvaluate n).settle s).nextItem
  | allDropped {s inputs zones t} (due : s.engine.flight = some (.all inputs zones t))
      (overtaken : Item.all ∈ s.engine.queue) : Act .allItemComplete s s.nextItem
  | allDelivered {s inputs zones t} (due : s.engine.flight = some (.all inputs zones t))
      (stands : Item.all ∉ s.engine.queue) : Act .allItemComplete s
      (((s.deliverFull (fun n => !s.engine.queue.contains (.channel n))
        fun n j => fullResult (inputs.get n) (zones.get j) t).reEvaluateAll (List.finRange 16)).settle s).nextItem
  | groupDelivered {s g members trims master count}
      (due : s.engine.flight = some (.group g members trims master count)) : Act (.groupItemComplete g) s
      (members.foldl (fun s m => s.deliverLevels m fun j =>
        levelOnly m.hasStation (m.stored.get j) (trims.get j) master count) s).nextItem
  | rampEnd {s n j} : Act (.rampEnd n j) s (s.onCrosspoint n j Crosspoint.endRamp)
  | crossfadeEnd {s n j} :
      Act (.crossfadeEnd n j) s (s.onCrosspoint n j (Crosspoint.endCrossfade (s.settings.fadeLength j)))
  -- gating
  | measurement {c s n l} (which : c = .measurementComplete n ∨ c = .holdCountdownEnd n) : Act c s (s.takeMeasurement n l)
  -- sockets
  | insertion {s n} : Act (.insertion n) s (s.onSocket n fun x =>
      { x with
        presence := true
        debounce := none
        suppressed := false
        phase := if x.phase = .empty then .sensing Config.sensingTime else x.phase })
  | sensingEnd {s n r} : Act (.sensingEnd n r) s
      ((if s.standby then (s.setPhase n (.present (latchedClass r))).post .socketChange
        else ((s.setPhase n (.present (latchedClass r))).post .socketChange).onSocket n
          (Socket.powerUp (s.settings.channels.get n).autoPower)).socketEvent n s)
  | rampedUp {s n} (ramping : (s.sockets.get n).phase = .ramping 0) :
      Act (.phantomRampEnd n) s (((s.setPhase n .powered).post .powerReady).socketEvent n s)
  | overcurrent {s x} :
      Act (.overcurrent x) s (((s.setPhase x.socket .fault).post .powerFault).socketEvent x.socket s)
  | removal {s n} : Act (.removal n) s
      ((if (memberGroup s.groups n).isSome then ((s.onSocket n fun x =>
          { x with phase := .empty, wish := false, suppressed := false, presence := false, debounce := none }).post
            .socketChange).post .liveRemoval
        else (s.onSocket n fun x =>
          { x with phase := .empty, wish := false, suppressed := false, presence := false, debounce := none }).post
            .socketChange).socketEvent n s)
  -- the life-safety line
  | lineHeard {s} (active : s.override.state = .active) :
      Act .overrideAssertion s (s.onOverride (Override.take true))
  | asserted {s} (idle : s.override.state ≠ .active) : Act .overrideAssertion s
      (((((s.onOverride (Override.take true)).onOverride fun o => { o with state := .active }).takeOver
        fun j => (s.settings.zones.get j).member).post .overrideChange).settle s)
  | lineReleased {s} (inactive : s.override.state ≠ .active) :
      Act .overrideDeassertion s (s.onOverride (Override.take false))
  | deasserted {s} (active : s.override.state = .active) : Act .overrideDeassertion s
      (((((s.onOverride (Override.take false)).onOverride fun o => { o with state := .latched }).onZones
        fun _ z => z.release).post .overrideChange).settle s)
  -- the clock, the contacts, the attention lines
  | clockEdge {s ns} : Act (.wordClockEdge ns) s (s.onClock (Clock.edge ns))
  | qualified {s} :
      Act .qualificationComplete s ((s.onClock fun c => { c with state := .locked, run := none }).post .clockLocked)
  | gapPassed {s} (f : Clock → Clock) : Act .clockGap s (s.onClock f)
  | clockLost {s} (f : Clock → Clock) : Act .clockGap s ((s.onClock f).post .clockLost)
  | clockSilenced {s} (f : Clock → Clock) : Act .clockGap s
      ((((s.onClock f).post .clockLost).onZones fun _ z => { z with clock := true }).settleClock s
        fun j => !(s.zones.get j).clock)
  | contact {s k} : Act (.contactChange k) s
      ((((s.onContact k fun c => { c with debounced := c.raw, debounce := none }).post .contactChange).applyContact
        k).settle s)
  | pulseEnd {s p} : Act (.pulseEnd p) s (s.endPulse p)
  -- the links and the raw pins
  | output {s} : Act .outputSample s
      (((s.onCrosspoints fun len x => x.endFade len).onCrosspoints fun _ x => x.advance).sendFeeds).tick
  | input {slots s} : Act (.inputSample slots) s
      { s with
        delay := s.delay.storeAll s.settings slots
        gates := if s.standby then s.gates
          else s.gates.map fun n g => { g with detector := g.detector.take (slots.get (slotOf n)) }
        announcement := slots.get 16 }
  | rawPresence {s n closed} : Act (.rawPresenceChange n closed) s (s.onSocket n (Socket.follow closed))
  | rawLine {s microamps} : Act (.rawLineChange microamps) s
      (s.onOverride (Override.follow (decide (Config.lineThresholdMicroamps ≤ microamps))))
  | rawContact {s k closed} : Act (.rawContactChange k closed) s
      (s.onContact k (Contact.follow (s.settings.contactIn.get k) closed))

/-- What a command leaves is what it makes of the state, with one request handler set; the handler keeps R173, R175 and
R180 where they all did. -/
def Acts (c : Instr) (s t : State) : Prop :=
  ∃ u, Act c s u ∧ (t = u ∨ ∃ p x, (PortLaw s → HandlerLaw x) ∧ t = u.setPort p x)

/-- A reply to the request `c`: what it makes of the state, and a body that fits and is empty but with OK (R180). -/
structure Served (c : Instr) (s : State) (r : Reply) : Prop where
  act : Act c s r.state
  fits : r.body.length ≤ 248 ∧ (r.status ≠ .ok → r.body = [])

namespace Acts

variable {c : Instr} {s t u : State}

theorem act (h : Act c s t) : Acts c s t := ⟨t, h, .inl rfl⟩

theorem nothing : Acts c s s := .act .nothing

theorem setPort (p : Port) {x : Handler} (law : PortLaw s → HandlerLaw x) : Acts c s (s.setPort p x) :=
  ⟨s, .nothing, .inr ⟨p, x, law, rfl⟩⟩

theorem collide (p : Port) : Acts c s (s.collide p) := .act (.faulted p)

theorem abandon (p : Port) : Acts c s (s.abandon p) := ⟨_, .faulted p, .inr ⟨p, .idle, fun _ => trivial, rfl⟩⟩

theorem ite {x : Prop} [Decidable x] {v w : State} (h : x → Acts c s v) (k : ¬ x → Acts c s w) :
    Acts c s (if x then v else w) := by
  split
  · exact h ‹_›
  · exact k ‹_›

theorem occur {f : State → State} (h : Machine.occur f s = .next t) (acts : Acts c s (f s)) : Acts c s t := by
  cases held : s.held with
  | false => rw [occur_of_awake held] at h; cases h; exact acts
  | true => rw [occur_of_held held] at h; cases h; exact nothing

theorem request {p : Port} {kind : Byte} {body : List Byte} {reset : Bool} {f : State → Reply}
    (served : Served c s (f s)) : Acts c s (s.request p kind body reset f) := by
  obtain h | h | h := s.request_cases p kind body reset f <;> rw [h]
  · exact ⟨_, served.act, .inr ⟨p, _, fun _ => served.fits, rfl⟩⟩
  · exact collide p
  · exact nothing

theorem requestEvent {p : Port} {kind : Byte} {body : List Byte} {reset : Bool} {f : State → Reply}
    (h : Machine.occur (fun s => s.request p kind body reset f) s = .next t) (served : Served c s (f s)) :
    Acts c s t :=
  .occur h (.request served)

end Acts

namespace Served

variable {c : Instr} {s t : State}

theorem refuse {st : Status} : Served c s (Machine.refuse s st) := ⟨.nothing, Nat.zero_le _, fun _ => rfl⟩

theorem refuseAfter {st : Status} (h : Act c s t) : Served c s (Machine.refuse t st) := ⟨h, Nat.zero_le _, fun _ => rfl⟩

theorem accept (h : Act c s t) : Served c s (Machine.accept t) := ⟨h, Nat.zero_le _, fun _ => rfl⟩

theorem acceptClamped {b : Bool} (h : Act c s t) : Served c s (Machine.acceptClamped b t) :=
  ⟨h, Nat.zero_le _, fun _ => rfl⟩

theorem naming {n size : Nat} {body : List Byte} {own : Fin n → Reply} (h : ∀ i, Served c s (own i)) :
    Served c s (Machine.naming size body s own) := by
  unfold Machine.naming
  split
  · exact refuse
  · split
    · exact refuse
    · exact h _

theorem sized {size : Nat} {body : List Byte} {own : Reply} (h : Served c s own) :
    Served c s (Machine.sized size body s own) := by
  unfold Machine.sized
  split
  · exact refuse
  · exact h

theorem writeEntry {n size : Nat} {index : BitVec 16} {entry : List Byte} {own : Fin n → Reply}
    (h : ∀ i, Served c s (own i)) : Served c s (Machine.writeEntry size index entry s own) := by
  unfold Machine.writeEntry
  split
  · exact refuse
  · split
    · exact refuse
    · exact h _

end Served

/-! ### The requests that act -/

variable {s t : State}

theorem clampNat_bounds {lo hi : Nat} (v : Nat) (h : lo ≤ hi) : lo ≤ clampNat lo hi v ∧ clampNat lo hi v ≤ hi := by
  simp only [clampNat]
  omega

theorem serveWriteStation_served {p : Port} {index : BitVec 16} {entry : List Byte} :
    Served (.writeEntryStation p index entry) s (serveWriteStation index entry s) := by
  refine .writeEntry fun k => ?_
  split
  · exact .refuse
  case isFalse unfrozen =>
    split
    · exact .accept (.station fun frozen => Classical.not_not.mp fun other => unfrozen ⟨frozen, other⟩)
    · exact .refuse

theorem serveWriteZone_served {p : Port} {index : BitVec 16} {entry : List Byte} :
    Served (.writeEntryZone p index entry) s (serveWriteZone index entry s) := by
  refine .writeEntry fun j => ?_
  dsimp only
  split
  · exact .refuse
  case isFalse unfrozen =>
    split
    · exact .refuse
    · split
      · exact .refuse
      case h_2 k =>
        refine .acceptClamped (.zone (fun frozen => ?_) ⟨?_, ?_, ?_, ?_⟩)
        · exact Classical.not_not.mp fun other => unfrozen ⟨frozen, other⟩
        all_goals exact Nat.min_le_left _ _

/-- What a CHANNEL entry carries: its window as it is written, and T and H within their ranges (R84). -/
theorem channelOf_some {entry : List Byte} {r : ChannelRec} (h : channelOf entry = some r) :
    r.start = wordAt entry 0 ∧ r.length = wordAt entry 2 ∧ ChannelInRange r := by
  unfold channelOf at h
  split at h
  · cases h
    have threshold := clampNat_bounds (natAt entry 5) (show 20 ≤ 140 by decide)
    have hold := clampNat_bounds (wordAt entry 6) (show 10 ≤ 500 by decide)
    exact ⟨rfl, rfl, threshold.1, threshold.2, hold.1, hold.2⟩
  · cases h

theorem serveWriteChannel_served {p : Port} {index : BitVec 16} {entry : List Byte} :
    Served (.writeEntryChannel p index entry) s (serveWriteChannel index entry s) := by
  refine .writeEntry fun n => ?_
  dsimp only
  split
  · exact .refuse
  case isFalse unfrozen =>
  split
  · exact .refuse
  case isFalse idle =>
  split
  · exact .refuse
  case isFalse apart =>
  split
  · exact .refuse
  case isFalse inRange =>
  split
  · exact .refuse
  case h_2 r written =>
    obtain ⟨start, length, range⟩ := channelOf_some written
    simp only [← start, ← length] at unfrozen idle apart inRange
    have same : ¬(r.start != (s.settings.channels.get n).start || r.length != (s.settings.channels.get n).length) = true ↔
        (s.settings.channels.get n).sameWindow r := by
      simp [ChannelRec.sameWindow]
    refine .acceptClamped (.channel (fun frozen => same.mp fun moved => unfrozen ⟨moved, frozen⟩) ?_ range)
    by_cases moved : (r.start != (s.settings.channels.get n).start || r.length != (s.settings.channels.get n).length) = true
    · exact .inr (by simp_all)
    · exact .inl (same.mp moved)

/-- What a GROUP entry carries (R104): max open as it is written, and the fields within their ranges. -/
theorem groupOf_some {entry : List Byte} {r : GroupRec} (h : groupOf entry = some r) :
    r.maxOpen = natAt entry 2 ∧ GroupInRange r := by
  unfold groupOf at h
  split at h
  · split at h
    case isTrue range => cases h; exact ⟨rfl, Nat.min_le_left _ _, range⟩
    case isFalse => cases h
  · cases h

theorem serveWriteGroup_served {p : Port} {index : BitVec 16} {entry : List Byte} :
    Served (.writeEntryGroup p index entry) s (serveWriteGroup p index entry s) := by
  refine .writeEntry fun i => ?_
  dsimp only
  split
  · exact .refuse
  · split
    · exact .refuse
    case isFalse size =>
      split
      · exact .refuse
      case h_2 r written =>
        obtain ⟨maxOpen, range⟩ := groupOf_some written
        exact .acceptClamped (.group (fun active => by rw [maxOpen]; exact Nat.not_lt.mp fun less => size ⟨active, less⟩) range)

theorem serveWriteMembership_served {p : Port} {index : BitVec 16} {entry : List Byte} :
    Served (.writeEntryMembership p index entry) s (serveWriteMembership p index entry s) := by
  refine .writeEntry fun i => ?_
  dsimp only
  split
  · exact .refuse
  · split
    · exact .refuse
    · exact .accept .membership

theorem serveWriteProfile_served {p : Port} {index : BitVec 16} {entry : List Byte} :
    Served (.writeEntryProfile p index entry) s (serveWriteProfile index entry s) :=
  .writeEntry fun _ => .acceptClamped (.profile (clampNat_bounds _ (by decide)))

theorem contactInOf_range {entry : List Byte} {b : ContactBinding} (h : contactInOf entry = some b) :
    10 ≤ b.debounceMs ∧ b.debounceMs ≤ 500 := by
  unfold contactInOf at h
  split at h
  · cases h; exact clampNat_bounds _ (by decide)
  · cases h

theorem serveWriteContactIn_served {p : Port} {index : BitVec 16} {entry : List Byte} :
    Served (.writeEntryContactIn p index entry) s (serveWriteContactIn index entry s) := by
  refine .writeEntry fun k => ?_
  split
  · exact .refuse
  case h_2 written => exact .acceptClamped (.contactIn (contactInOf_range written))

theorem serveWriteContactOut_served {p : Port} {index : BitVec 16} {entry : List Byte} :
    Served (.writeEntryContactOut p index entry) s (serveWriteContactOut index entry s) := by
  refine .writeEntry fun q => ?_
  split
  · exact .refuse
  · exact .accept .contactOut

theorem routingOf_range {entry : List Byte} {r : Routing} (h : routingOf entry = some r) : maskValid r.mask = true := by
  unfold routingOf at h
  split at h
  · split at h
    case isTrue valid => cases h; exact valid
    case isFalse => cases h
  · cases h

theorem serveWriteRouting_served {p : Port} {index : BitVec 16} {entry : List Byte} :
    Served (.writeEntryPortRouting p index entry) s (serveWriteRouting index entry s) := by
  refine .writeEntry fun i => ?_
  split
  · exact .refuse
  case h_2 written => exact .accept (.routing (routingOf_range written))

theorem systemOf_range {entry : List Byte} {r : SystemRec} (h : systemOf entry = some r) : r.overrideAttenuation ≤ 60 := by
  unfold systemOf at h
  split at h
  · cases h; exact Nat.min_le_left _ _
  · cases h

theorem serveWriteSystem_served {p : Port} {index : BitVec 16} {entry : List Byte} :
    Served (.writeEntrySystem p index entry) s (serveWriteSystem index entry s) := by
  refine .writeEntry fun i => ?_
  split
  · exact .refuse
  case h_2 written => exact .acceptClamped (.system (systemOf_range written))

theorem serveMoveSource_served {p : Port} {body : List Byte} :
    Served (.moveSource p body) s (serveMoveSource p body s) := by
  refine .naming fun n => ?_
  split
  · exact .refuse
  · split
    · exact .refuse
    · exact .accept .moveSource

theorem serveSetGateMode_served {p : Port} {body : List Byte} :
    Served (.setGateMode p body) s (serveSetGateMode p body s) := by
  refine .naming fun n => ?_
  split
  · exact .refuse
  · split
    · exact .refuse
    case isFalse granted =>
      split
      · exact .refuse
      case h_2 mode named => exact .accept (.gateMode (by simpa [named] using granted))

theorem serveSetTemperature_served {p : Port} {body : List Byte} :
    Served (.setTemperature p body) s (serveSetTemperature body s) := by
  refine .sized ?_
  split
  · exact .accept .temperature
  · exact .acceptClamped .temperatureClamped

theorem serveSelectArrangement_served {p : Port} {body : List Byte} :
    Served (.selectArrangement p body) s (serveSelectArrangement p body s) := by
  refine .sized ?_
  split
  · exact .refuse
  · split
    · exact .refuse
    · split
      · exact .accept .nothing
      case isFalse other => exact .accept (.arrangement other)

theorem serveHoldGroup_served {p : Port} {body : List Byte} :
    Served (.holdGroup p body) s (serveHoldGroup p body s) := by
  refine .naming fun g => ?_
  split
  case h_1 free => exact .accept (.hold free)
  case h_2 =>
    split
    · exact .accept .nothing
    · exact .refuse

theorem serveReleaseGroup_served {p : Port} {body : List Byte} :
    Served (.releaseGroup p body) s (serveReleaseGroup p body s) := by
  refine .naming fun g => ?_
  split
  case isTrue own => exact .accept (.release own)
  case isFalse => exact .refuse

theorem serveBreakHold_served {p : Port} {body : List Byte} :
    Served (.breakHold p body) s (serveBreakHold body s) := by
  refine .naming fun g => ?_
  split
  · exact .refuse
  · exact .accept .breakHold

theorem serveZoneMute_served {p : Port} {body : List Byte} : Served (.zoneMute p body) s (serveZoneMute p body s) := by
  refine .naming fun j => ?_
  split
  · exact .refuse
  · split
    · exact .refuse
    · exact .accept .mute

theorem serveSocketPowerOn_served {p : Port} {body : List Byte} :
    Served (.setSocketPowerOn p body) s (serveSocketPowerOn body s) := by
  refine .naming fun n => ?_
  split
  · exact .refuse
  · split
    · exact .refuse
    case h_2 condenser =>
      split
      · exact .refuse
      case isFalse awake => exact .accept (.socketOn condenser (by simpa using awake))
    case h_3 => exact .refuseAfter .socketRefused

theorem serveResense_served {p : Port} {body : List Byte} :
    Served (.resenseSocket p body) s (serveResense body s) := by
  refine .naming fun n => ?_
  split
  · exact .refuse
  · split
    · exact .refuse
    · exact .accept .resense

theorem serveClearEvents_served {p : Port} {body : List Byte} :
    Served (.clearEvents p body) s (serveClearEvents p body s) := by
  refine .sized ?_
  split
  case isTrue valid => exact .accept (.clearEvents valid)
  case isFalse => exact .refuse

theorem serveForceEvents_served {p : Port} {body : List Byte} :
    Served (.forceEvents p body) s (serveForceEvents p body s) := by
  refine .sized ?_
  split
  case isTrue valid => exact .accept (.forceEvents valid)
  case isFalse => exact .refuse

theorem serveResume_served {p : Port} {body : List Byte} :
    Served (.resumeAfterOverride p body) s (serveResume body s) := by
  refine .sized ?_
  split
  · exact .accept .nothing
  · exact .refuse
  case h_3 latched => exact .accept (.resume latched)

theorem serveRearm_served {p : Port} {body : List Byte} : Served (.rearmOutputs p body) s (serveRearm body s) := by
  refine .sized ?_
  split
  · exact .accept .rearm
  · exact .refuse

theorem serveStandby_served {p : Port} {body : List Byte} : Served (.standby p body) s (serveStandby body s) := by
  refine .sized ?_
  split
  · exact .accept .nothing
  case isFalse awake => exact .accept (.standby (by simpa using awake))

theorem serveWake_served {p : Port} {body : List Byte} : Served (.wake p body) s (serveWake body s) := by
  refine .sized ?_
  split
  case isTrue asleep => exact .accept (.wake asleep)
  case isFalse => exact .accept .nothing

/-- The entries of a READ_ENTRY fit in the room that is left for them (R183). -/
theorem length_flatten_fitting (es : List (List Byte)) (room : Nat) : (fitting es room).flatten.length ≤ room := by
  induction es generalizing room with
  | nil => exact Nat.zero_le _
  | cons e es ih =>
    unfold fitting
    split
    case isTrue fits =>
      have rest := ih (room - e.length)
      rw [List.flatten_cons, List.length_append]
      omega
    case isFalse => exact Nat.zero_le _

theorem serveReadEntry_served {p : Port} {body : List Byte} : Served (.readEntry p body) s (serveReadEntry body s) := by
  refine .sized ?_
  split
  · exact .refuse
  case h_2 size _ =>
    split
    · exact .refuse
    · split
      · exact .refuse
      · refine ⟨.nothing, ?_, fun other => absurd rfl other⟩
        have fits := length_flatten_fitting (List.map (fun k => s.tableEntry (natAt body 0) (wordAt body 1 + k))
          (List.range (min (wordAt body 3) (size - wordAt body 1)))) 244
        simp only [State.shownEntries, List.length_cons, List.length_append, wordOf, List.length_nil]
        omega

theorem serveReadEvents_served {p : Port} {body : List Byte} :
    Served (.readEvents p body) s (serveReadEvents p body s) :=
  .sized ⟨.nothing, by simp [State.eventSummary, maskOf], fun other => absurd rfl other⟩

theorem serveWriteReadOnly_served {p : Port} {body : List Byte} :
    Served (.writeEntryReadOnly p body) s (serveWriteReadOnly body s) := by
  unfold serveWriteReadOnly
  split
  · exact .refuse
  · split
    · exact .refuse
    · split <;> exact .refuse

theorem execWriteEntryReadOnly_acts {p : Port} {body : List Byte} (h : execWriteEntryReadOnly p body s = .next t) :
    Acts (.writeEntryReadOnly p body) s t :=
  .occur h (.ite (fun _ => .nothing) fun _ => .request serveWriteReadOnly_served)

theorem execSetSocketPowerOn_acts {p : Port} {body : List Byte} (h : execSetSocketPowerOn p body s = .next t) :
    Acts (.setSocketPowerOn p body) s t :=
  .occur h (.ite (fun _ => .nothing) fun _ => .request serveSocketPowerOn_served)

theorem execSetSocketPowerOff_acts {p : Port} {body : List Byte} (h : execSetSocketPowerOff p body s = .next t) :
    Acts (.setSocketPowerOff p body) s t :=
  .occur h (.ite (fun _ => .nothing) fun _ => .request (.naming fun _ => .accept .socketOff))

theorem execUnknownRequest_acts {i : Instr} {p : Port} {kind : Byte} {body : List Byte}
    (h : execUnknownRequest p kind body s = .next t) : Acts i s t :=
  .occur h (.ite (fun _ => .nothing) fun _ => .request .refuse)

/-! ### The events that act -/

/-- What a byte makes of a partial frame keeps R173 and R175. -/
theorem receiveByte_handlerLaw {part : List Byte} {b : Byte} {x : Handler} (h : receiveByte part b = some x)
    (law : HandlerLaw (.receiving part 0)) : HandlerLaw x := by
  unfold receiveByte at h
  split at h
  · split at h
    case isTrue range =>
      cases h
      exact .inr ⟨range.1, range.2, by simp⟩
    case isFalse => cases h
  case isFalse started =>
    split at h
    · cases h
      split
      · exact trivial
      · exact ⟨Nat.zero_le _, fun _ => rfl⟩
    case isFalse unfinished =>
      cases h
      obtain empty | ⟨low, high, short⟩ := law
      · exact absurd empty started
      · obtain ⟨c, rest, rfl⟩ := List.exists_cons_of_ne_nil started
        have first : natAt (c :: rest ++ [b]) 0 = natAt (c :: rest) 0 := rfl
        simp only [frameWhole, first, List.length_append, List.length_cons, List.length_nil, beq_iff_eq] at unfinished short
        refine .inr ⟨first ▸ low, first ▸ high, ?_⟩
        simp only [first, List.length_append, List.length_cons, List.length_nil]
        omega

theorem State.receive_acts {i : Instr} (p : Port) (c : RxChar) (s : State) : Acts i s (s.receive p c) := by
  unfold State.receive
  split
  · exact .ite (fun _ => .setPort p fun _ => .inl rfl) fun _ => .nothing
  case h_2 part timer receiving =>
    split
    · exact .abandon p
    · split
      · exact .abandon p
      case h_2 x received =>
        exact .setPort p fun law => receiveByte_handlerLaw received (by have own := law p; rwa [receiving] at own)
  · exact .collide p
  · exact .collide p

theorem State.endResponse_acts (p : Port) (s : State) : Acts (.responseEnd p) s (s.endResponse p) := by
  unfold State.endResponse
  split
  · exact .act .resetAtEnd
  · exact .setPort p fun _ => trivial
  · exact .nothing

theorem execRuntimeReset_acts {p : Port} (h : execRuntimeReset p s = .next t) : Acts (.runtimeReset p) s t := by
  refine .occur h ?_
  split
  · exact .act .runtimeReset
  · exact .nothing

theorem execInterByteTimeout_acts {i : Instr} {p : Port} (h : execInterByteTimeout p s = .next t) : Acts i s t := by
  refine .occur h ?_
  split
  · exact .abandon p
  · exact .nothing

theorem execByteDuringService_acts {i : Instr} {p : Port} (h : execByteDuringService p s = .next t) :
    Acts i s t := by
  refine .occur h ?_
  split
  · exact .collide p
  · exact .collide p
  · exact .nothing

theorem execBadCheck_acts {i : Instr} {p : Port} {frame : List Byte} (h : execBadCheck p frame s = .next t) :
    Acts i s t := by
  refine .occur h (.ite (fun _ => ?_) fun _ => .nothing)
  split
  · exact .setPort p fun _ => ⟨Nat.zero_le _, fun _ => rfl⟩
  · exact .nothing
  · exact .collide p
  · exact .collide p

theorem execChannelItemComplete_acts {n : Channel} (h : execChannelItemComplete n s = .next t) :
    Acts (.channelItemComplete n) s t := by
  refine .occur h ?_
  split
  case h_1 m inputs zones temp flight =>
    refine .ite (fun same => ?_) fun _ => .nothing
    subst same
    have requeued : (s.engine.queue.contains (.channel m) || s.engine.queue.contains .all) = true ↔ Requeued s m := by
      simp [Requeued]
    exact .ite (fun dropped => .act (.channelDropped flight (requeued.mp dropped)))
      fun stands => .act (.channelDelivered flight fun again => stands (requeued.mpr again))
  case h_2 => exact .nothing

theorem execAllItemComplete_acts (h : execAllItemComplete s = .next t) : Acts .allItemComplete s t := by
  refine .occur h ?_
  split
  case h_1 inputs zones temp flight =>
    exact .ite (fun dropped => .act (.allDropped flight (by simpa using dropped)))
      fun stands => .act (.allDelivered flight (by simpa using stands))
  case h_2 => exact .nothing

theorem execGroupItemComplete_acts {g : Group} (h : execGroupItemComplete g s = .next t) :
    Acts (.groupItemComplete g) s t := by
  refine .occur h ?_
  split
  case h_1 k members trims master count flight =>
    refine .ite (fun same => ?_) fun _ => .nothing
    subst same
    exact .act (.groupDelivered flight)
  case h_2 => exact .nothing

theorem execItemStart_acts (h : execItemStart s = .next t) : Acts .itemStart s t := by
  refine .occur h ?_
  split
  case h_1 idle head => exact .act (.itemStart idle head)
  case h_2 => exact .nothing

theorem execMeasurementComplete_acts {n : Channel} (h : execMeasurementComplete n s = .next t) :
    Acts (.measurementComplete n) s t := by
  refine .occur h ?_
  split
  · exact .nothing
  · exact .act (.measurement (.inl rfl))

theorem execHoldCountdownEnd_acts {n : Channel} (h : execHoldCountdownEnd n s = .next t) :
    Acts (.holdCountdownEnd n) s t := by
  refine .occur h ?_
  split
  · exact .nothing
  · exact .ite (fun _ => .act (.measurement (.inr rfl))) fun _ => .nothing

theorem execClockGap_acts (h : execClockGap s = .next t) : Acts .clockGap s t := by
  refine .occur h (.ite (fun _ => ?_) fun _ => .nothing)
  split
  · exact .nothing
  · exact .act (.gapPassed _)
  · exact .act (.gapPassed _)
  · exact .ite (fun _ => .act (.clockSilenced _)) fun _ => .act (.clockLost _)

theorem execOverrideAssertion_acts (h : execOverrideAssertion s = .next t) : Acts .overrideAssertion s t :=
  .occur h (.ite (fun _ => .ite (fun active => .act (.lineHeard active)) fun idle => .act (.asserted idle))
    fun _ => .nothing)

theorem execOverrideDeassertion_acts (h : execOverrideDeassertion s = .next t) : Acts .overrideDeassertion s t :=
  .occur h (.ite (fun _ => .ite (fun inactive => .act (.lineReleased inactive))
    fun active => .act (.deasserted (Classical.not_not.mp active))) fun _ => .nothing)

theorem execOutputSample_acts (h : execOutputSample s = .next t) : Acts .outputSample s t := .occur h (.act .output)

theorem execInputSample_acts {slots : Table 17 Sample} (h : execInputSample slots s = .next t) :
    Acts (.inputSample slots) s t :=
  .occur h (.act .input)

/-! ### Every command -/

theorem exec_acts {i : Instr} (h : exec i s = .next t) : Acts i s t := by
  cases i with
  | readEntry p body => exact .requestEvent h serveReadEntry_served
  | writeEntryStation p index entry => exact .requestEvent h serveWriteStation_served
  | writeEntryZone p index entry => exact .requestEvent h serveWriteZone_served
  | writeEntryChannel p index entry => exact .requestEvent h serveWriteChannel_served
  | writeEntryGroup p index entry => exact .requestEvent h serveWriteGroup_served
  | writeEntryMembership p index entry => exact .requestEvent h serveWriteMembership_served
  | writeEntryProfile p index entry => exact .requestEvent h serveWriteProfile_served
  | writeEntryContactIn p index entry => exact .requestEvent h serveWriteContactIn_served
  | writeEntryContactOut p index entry => exact .requestEvent h serveWriteContactOut_served
  | writeEntryPortRouting p index entry => exact .requestEvent h serveWriteRouting_served
  | writeEntrySystem p index entry => exact .requestEvent h serveWriteSystem_served
  | writeEntryReadOnly p body => exact execWriteEntryReadOnly_acts h
  | moveSource p body => exact .requestEvent h serveMoveSource_served
  | setGateMode p body => exact .requestEvent h serveSetGateMode_served
  | setTemperature p body => exact .requestEvent h serveSetTemperature_served
  | selectArrangement p body => exact .requestEvent h serveSelectArrangement_served
  | holdGroup p body => exact .requestEvent h serveHoldGroup_served
  | releaseGroup p body => exact .requestEvent h serveReleaseGroup_served
  | breakHold p body => exact .requestEvent h serveBreakHold_served
  | zoneMute p body => exact .requestEvent h serveZoneMute_served
  | setSocketPowerOn p body => exact execSetSocketPowerOn_acts h
  | setSocketPowerOff p body => exact execSetSocketPowerOff_acts h
  | resenseSocket p body => exact .requestEvent h serveResense_served
  | readEvents p body => exact .requestEvent h serveReadEvents_served
  | clearEvents p body => exact .requestEvent h serveClearEvents_served
  | forceEvents p body => exact .requestEvent h serveForceEvents_served
  | resumeAfterOverride p body => exact .requestEvent h serveResume_served
  | rearmOutputs p body => exact .requestEvent h serveRearm_served
  | freezeGeometry p body => exact .requestEvent h (.sized (.accept .freeze))
  | standby p body => exact .requestEvent h serveStandby_served
  | wake p body => exact .requestEvent h serveWake_served
  | resetRuntime p body => exact .requestEvent h (.sized (.accept .nothing))
  | runtimeReset p => exact execRuntimeReset_acts h
  | powerOnReset => cases h; exact .act .powerOnReset
  | unknownRequest p kind body => exact execUnknownRequest_acts h
  | badCheck p frame => exact execBadCheck_acts h
  | frameAbandoned p c => exact .occur h (.ite (fun _ => .abandon p) fun _ => .nothing)
  | interByteTimeout p => exact execInterByteTimeout_acts h
  | byteDuringService p => exact execByteDuringService_acts h
  | responseEnd p => exact .occur h (s.endResponse_acts p)
  | itemStart => exact execItemStart_acts h
  | channelItemComplete n => exact execChannelItemComplete_acts h
  | allItemComplete => exact execAllItemComplete_acts h
  | groupItemComplete g => exact execGroupItemComplete_acts h
  | rampEnd n j => exact .occur h (.act .rampEnd)
  | crossfadeEnd n j => exact .occur h (.act .crossfadeEnd)
  | measurementComplete n => exact execMeasurementComplete_acts h
  | holdCountdownEnd n => exact execHoldCountdownEnd_acts h
  | insertion n => exact .occur h (.ite (fun _ => .act .insertion) fun _ => .nothing)
  | sensingEnd n r => exact .occur h (.ite (fun _ => .act .sensingEnd) fun _ => .nothing)
  | phantomRampEnd n => exact .occur h (.ite (fun ramping => .act (.rampedUp ramping)) fun _ => .nothing)
  | overcurrent x => exact .occur h (.ite (fun _ => .act .overcurrent) fun _ => .nothing)
  | removal n => exact .occur h (.ite (fun _ => .act .removal) fun _ => .nothing)
  | overrideAssertion => exact execOverrideAssertion_acts h
  | overrideDeassertion => exact execOverrideDeassertion_acts h
  | wordClockEdge periodNs => exact .occur h (.act .clockEdge)
  | qualificationComplete => exact .occur h (.ite (fun _ => .act .qualified) fun _ => .nothing)
  | clockGap => exact execClockGap_acts h
  | contactChange k => exact .occur h (.ite (fun _ => .act .contact) fun _ => .nothing)
  | pulseEnd p => exact .occur h (.ite (fun _ => .act .pulseEnd) fun _ => .nothing)
  | outputSample => exact execOutputSample_acts h
  | inputSample slots => exact execInputSample_acts h
  | byteReceived p c => exact .occur h (s.receive_acts p c)
  | heldInReset => cases h; exact .act .held
  | rawPresenceChange n closed => cases h; exact .act .rawPresence
  | rawLineChange microamps => cases h; exact .act .rawLine
  | rawContactChange k closed => cases h; exact .act .rawContact

/-- What a command leaves is what it makes of the state, with some request handlers. -/
theorem exec_act {i : Instr} (h : exec i s = .next t) : ∃ u ports, Act i s u ∧ t = { u with ports := ports } := by
  obtain ⟨u, act, rfl | ⟨p, x, -, rfl⟩⟩ := exec_acts h
  · exact ⟨_, _, act, rfl⟩
  · exact ⟨_, _, act, rfl⟩

/-- A property that looks past the request handlers and the queue of commands, and that every command's act keeps, is kept
by every step. -/
theorem step_keeps {P : State → Prop} (queue : ∀ s q, P s → P { s with pending := q })
    (ports : ∀ s x, P s → P { s with ports := x }) (acts : ∀ {c s u}, Act c s u → P s → P u) {s t : State} (law : P s)
    (h : step s = .next t) : P t := by
  unfold step at h
  split at h
  case h_1 => cases h; exact law
  case h_2 c rest front =>
    obtain ⟨u, x, act, rfl⟩ := exec_act h
    exact ports u x (acts act (queue s rest law))

end Sys2Proof.Machine
end

section
/-! SUPPORT. The ground that the mixing stands on: everything of the state but the engine, the crosspoints, the gates, the
groups and the sticky sets, and what each operation makes of it. -/

namespace Sys2Proof.Machine

open Sys2Proof.Safety

/-- Everything of the state but the engine, the crosspoints, the gates, the groups and the sticky sets. -/
structure Ground where
  pending : List Instr
  held : Bool
  settings : Settings
  frozen : Bool
  delay : DelayMemory
  sockets : Table 16 Socket
  zones : Table 24 ZoneState
  override : Override
  clock : Clock
  standby : Bool
  ports : ByPort Handler
  contacts : Table 8 Contact
  announcement : Sample
  feeds : Table 24 Sample

/-- The ground of a state. -/
def State.ground (s : State) : Ground :=
  ⟨s.pending, s.held, s.settings, s.frozen, s.delay, s.sockets, s.zones, s.override, s.clock, s.standby, s.ports,
    s.contacts, s.announcement, s.feeds⟩

namespace State

variable (s : State)

theorem ground_settings : s.ground.settings = s.settings := rfl
theorem ground_frozen : s.ground.frozen = s.frozen := rfl
theorem ground_delay : s.ground.delay = s.delay := rfl
theorem ground_sockets : s.ground.sockets = s.sockets := rfl
theorem ground_zones : s.ground.zones = s.zones := rfl
theorem ground_override : s.ground.override = s.override := rfl
theorem ground_clock : s.ground.clock = s.clock := rfl
theorem ground_standby : s.ground.standby = s.standby := rfl
theorem ground_ports : s.ground.ports = s.ports := rfl
theorem ground_contacts : s.ground.contacts = s.contacts := rfl

/-! ### The operations that leave the ground -/

@[simp] theorem post_ground (k : EventKind) : (s.post k).ground = s.ground := rfl
@[simp] theorem postTo_ground (p : Port) (m : EventMask) : (s.postTo p m).ground = s.ground := rfl
@[simp] theorem endPulse_ground (p : Port) : (s.endPulse p).ground = s.ground := rfl
@[simp] theorem clearKinds_ground (p : Port) (m : EventMask) : (s.clearKinds p m).ground = s.ground := rfl
@[simp] theorem askChannel_ground (n : Channel) : (s.askChannel n).ground = s.ground := rfl
@[simp] theorem askGroup_ground (g : Group) : (s.askGroup g).ground = s.ground := rfl
@[simp] theorem askAll_ground : s.askAll.ground = s.ground := rfl
@[simp] theorem askCounts_ground (before : State) : (s.askCounts before).ground = s.ground := rfl
@[simp] theorem settle_ground (before : State) : (s.settle before).ground = s.ground := rfl
@[simp] theorem settleClock_ground (before : State) (z : Zone → Bool) : (s.settleClock before z).ground = s.ground := rfl
@[simp] theorem retargetClock_ground (z : Zone → Bool) : (s.retargetClock z).ground = s.ground := rfl
@[simp] theorem onMix_ground (f : Mix → Mix) : (s.onMix f).ground = s.ground := rfl
@[simp] theorem onCrosspoint_ground (n : Channel) (j : Zone) (f : Crosspoint → Crosspoint) :
    (s.onCrosspoint n j f).ground = s.ground := rfl
@[simp] theorem onCrosspoints_ground (f : Nat → Crosspoint → Crosspoint) : (s.onCrosspoints f).ground = s.ground := rfl
@[simp] theorem setHolder_ground (g : Group) (h : Option Port) : (s.setHolder g h).ground = s.ground := rfl
@[simp] theorem deliverLevels_ground (m : MemberInputs) (f : Zone → Option Nat) :
    (s.deliverLevels m f).ground = s.ground := rfl
@[simp] theorem startItem_ground (i : Item) (rest : List Item) : (s.startItem i rest).ground = s.ground := rfl
@[simp] theorem freshDetectors_ground : s.freshDetectors.ground = s.ground := rfl
@[simp] theorem emptyWaiting_ground : s.emptyWaiting.ground = s.ground := rfl
@[simp] theorem reMode_ground (n : Channel) : (s.reMode n).ground = s.ground := rfl
@[simp] theorem takeMeasurement_ground (n : Channel) (l : Nat) : (s.takeMeasurement n l).ground = s.ground := rfl
@[simp] theorem groupHoldCleared_ground (g : Group) : (s.groupHoldCleared g).ground = s.ground := rfl

end State

/-- The gate unit and the arbiter leave the ground. -/
theorem OnlyMix.ground {s t : State} (h : OnlyMix s t) : t.ground = s.ground := by
  simp only [State.ground, h.pending, h.held, h.settings, h.frozen, h.delay, h.sockets, h.zones, h.override, h.clock,
    h.standby, h.ports, h.contacts, h.announcement, h.feeds]

namespace State

variable (s : State)

@[simp] theorem reEvaluate_ground (n : Channel) : (s.reEvaluate n).ground = s.ground := (OnlyMix.reEvaluate s n).ground

@[simp] theorem reEvaluateAll_ground (ns : List Channel) : (s.reEvaluateAll ns).ground = s.ground :=
  (OnlyMix.reEvaluateAll ns s).ground

@[simp] theorem parkIneligible_ground (ns : List Channel) : (s.parkIneligible ns).ground = s.ground :=
  (OnlyMix.parkIneligible ns s).ground

@[simp] theorem socketEvent_ground (n : Channel) (before : State) : (s.socketEvent n before).ground = s.ground := by
  simp [socketEvent]

@[simp] theorem moveTo_ground (n : Channel) (st : Option Station) : (s.moveTo n st).ground = s.ground := by
  simp only [moveTo, reEvaluate_ground, askChannel_ground]
  rfl

@[simp] theorem setPortMode_ground (n : Channel) (mode : GateMode) : (s.setPortMode n mode).ground = s.ground := by
  unfold setPortMode
  split <;> rfl

@[simp] theorem reportTemperature_ground (t : Int) : (s.reportTemperature t).ground = s.ground := by
  unfold reportTemperature
  split <;> rfl

@[simp] theorem nextItem_ground : s.nextItem.ground = s.ground := by
  unfold nextItem
  split <;> rfl

@[simp] theorem deliverFull_ground (chosen : Channel → Bool) (result : Channel → Zone → Result) :
    (s.deliverFull chosen result).ground = s.ground := by
  unfold deliverFull
  split <;> rfl

@[simp] theorem foldl_deliverLevels_ground {f : MemberInputs → Zone → Option Nat} (ms : List MemberInputs) :
    (ms.foldl (fun s m => s.deliverLevels m (f m)) s).ground = s.ground := by
  induction ms generalizing s with
  | nil => rfl
  | cons m ms ih => rw [List.foldl_cons, ih, deliverLevels_ground]

@[simp] theorem groupDisabled_ground (g : Group) : (s.groupDisabled g).ground = s.ground := by
  simp only [groupDisabled, parkIneligible_ground]
  rfl

@[simp] theorem groupResized_ground (g : Group) (before after : Nat) :
    (s.groupResized g before after).ground = s.ground := by
  unfold groupResized
  split
  · rfl
  · split <;> rfl

@[simp] theorem groupEffects_ground (g : Group) (before after : GroupRec) :
    (s.groupEffects g before after).ground = s.ground := by
  simp only [groupEffects, apply_ite State.ground, askGroup_ground, groupHoldCleared_ground, groupResized_ground,
    reEvaluateAll_ground, groupDisabled_ground, ite_self]

@[simp] theorem changeGroup_ground (n : Channel) : (s.changeGroup n).ground = s.ground := by
  simp [changeGroup]

@[simp] theorem askChannels_ground (chosen : Channel → Bool) : (s.askChannels chosen).ground = s.ground := by
  unfold askChannels
  induction (List.finRange 16).filter chosen generalizing s with
  | nil => rfl
  | cons n ns ih => rw [List.foldl_cons, ih, askChannel_ground]

/-! ### The operations that move it -/

@[simp] theorem onSettings_ground (f : Settings → Settings) :
    (s.onSettings f).ground = { s.ground with settings := f s.settings } := rfl
@[simp] theorem onZones_ground (f : Zone → ZoneState → ZoneState) :
    (s.onZones f).ground = { s.ground with zones := s.zones.map f } := rfl
@[simp] theorem onZone_ground (j : Zone) (f : ZoneState → ZoneState) :
    (s.onZone j f).ground = { s.ground with zones := s.zones.modify j f } := rfl
@[simp] theorem onSocket_ground (n : Channel) (f : Socket → Socket) :
    (s.onSocket n f).ground = { s.ground with sockets := s.sockets.modify n f } := rfl
@[simp] theorem onSockets_ground (f : Channel → Socket → Socket) :
    (s.onSockets f).ground = { s.ground with sockets := s.sockets.map f } := rfl
@[simp] theorem setPhase_ground (n : Channel) (ph : SocketPhase) :
    (s.setPhase n ph).ground = { s.ground with sockets := s.sockets.modify n fun x => { x with phase := ph } } := rfl
@[simp] theorem onOverride_ground (f : Override → Override) :
    (s.onOverride f).ground = { s.ground with override := f s.override } := rfl
@[simp] theorem onClock_ground (f : Clock → Clock) : (s.onClock f).ground = { s.ground with clock := f s.clock } := rfl
@[simp] theorem onContact_ground (k : ContactIn) (f : Contact → Contact) :
    (s.onContact k f).ground = { s.ground with contacts := s.contacts.modify k f } := rfl
@[simp] theorem takeOver_ground (zones : Zone → Bool) : (s.takeOver zones).ground =
    { s.ground with zones := s.zones.map fun j z => if zones j then { z with taken := true } else z } := rfl
@[simp] theorem reMute_ground (j : Zone) : (s.reMute j).ground = { s.ground with
    zones := s.zones.modify j fun z => { z with contactMute := s.anyActive (.zoneMuteWhile j) } } := rfl
@[simp] theorem moveWindow_ground (n : Channel) (c : ChannelRec) :
    (s.moveWindow n c).ground = { s.ground with delay := s.delay.newWindow c n } := rfl
@[simp] theorem sendFeeds_ground : s.sendFeeds.ground = { s.ground with feeds := .ofFn s.feedOf } := by
  unfold sendFeeds
  split <;> rfl

@[simp] theorem switchTo_ground (k : Arrangement) :
    (s.switchTo k).ground = { s.ground with settings := { s.settings with active := k } } := by
  simp only [switchTo, post_ground, onMix_ground, askAll_ground, parkIneligible_ground]
  rfl

/-- Only a ZONE_MUTE_WHILE bears on the ground: on the contact mute of its zone (R198). -/
theorem reAct_ground (a : ContactAction) : (s.reAct a).ground = s.ground ∨
    ∃ j, a = .zoneMuteWhile j ∧ (s.reAct a).ground = (s.reMute j).ground := by
  cases a with
  | zoneMuteWhile j => exact .inr ⟨j, rfl, rfl⟩
  | _ => exact .inl rfl

@[simp] theorem storeStation_ground (k : Station) (r : StationRec) : (s.storeStation k r).ground =
    { s.ground with settings := { s.settings with stations := s.settings.stations.set k r } } := by
  unfold storeStation
  split
  · rfl
  · exact askChannels_ground _ _

@[simp] theorem storeZone_ground (j : Zone) (r : ZoneRec) : (s.storeZone j r).ground =
    { s.ground with settings := { s.settings with zones := s.settings.zones.set j r } } := by
  unfold storeZone
  split <;> rfl

@[simp] theorem storeGroup_ground (k : Arrangement) (g : Group) (r : GroupRec) : (s.storeGroup k g r).ground =
    { s.ground with settings := s.settings.setGroup k g r } := by
  unfold storeGroup
  split
  · simp
  · rfl

@[simp] theorem storeMembership_ground (k : Arrangement) (x : Zone ⊕ Channel) (g : Option Group) :
    (s.storeMembership k x g).ground = { s.ground with settings := s.settings.setMembership k x g } := by
  unfold storeMembership
  split
  · rfl
  · split
    · rfl
    · simp

@[simp] theorem storeRouting_ground (q : Port) (r : Routing) : (s.storeRouting q r).ground =
    { s.ground with settings := { s.settings with routing := s.settings.routing.set q r } } := by
  unfold storeRouting
  split <;> rfl

@[simp] theorem autoPowerOn_ground (n : Channel) (before c : ChannelRec) : (s.autoPowerOn n before c).ground =
    { s.ground with sockets := (s.autoPowerOn n before c).sockets } := by
  unfold autoPowerOn
  split <;> rfl

@[simp] theorem storeChannel_ground (n : Channel) (r : ChannelRec) : (s.storeChannel n r).ground = { s.ground with
    settings := { s.settings with channels := s.settings.channels.set n r }
    delay := if r.start = (s.settings.channels.get n).start ∧ r.length = (s.settings.channels.get n).length then s.delay
      else s.delay.newWindow r n
    sockets := (s.storeChannel n r).sockets } := by
  unfold storeChannel
  dsimp only
  rw [autoPowerOn_ground]
  split <;> rfl

/-- An accepted CONTACT_IN write stores the binding and re-forms contact mutes. -/
theorem storeContactIn_ground (k : ContactIn) (b : ContactBinding) : (s.storeContactIn k b).ground = { s.ground with
    settings := { s.settings with contactIn := s.settings.contactIn.set k b }
    zones := (s.storeContactIn k b).zones } := by
  simp only [storeContactIn]
  generalize (s.settings.contactIn.get k).action = old
  cases old <;> cases b.action <;> rfl

@[simp] theorem storeSystem_ground (r : SystemRec) : (s.storeSystem r).ground =
    { s.ground with settings := { s.settings with system := r }, clock := (s.storeSystem r).clock } := by
  unfold storeSystem
  split <;> rfl

/-- A contact's action moves the contact mutes, or the active arrangement (R198, R199). -/
theorem applyContact_ground (k : ContactIn) : (s.applyContact k).ground = s.ground ∨
    (s.applyContact k).ground = { s.ground with zones := (s.applyContact k).zones } ∨
    ∃ a, (s.applyContact k).ground = { s.ground with settings := { s.settings with active := a } } := by
  unfold applyContact
  split
  · split
    · exact .inl (moveTo_ground ..)
    · exact .inl rfl
  · split
    · exact .inr (.inr ⟨_, switchTo_ground ..⟩)
    · exact .inl rfl
  · obtain h | ⟨j, -, h⟩ := s.reAct_ground (s.settings.contactIn.get k).action
    · exact .inl h
    · exact .inr (.inl (by
        have zones := congrArg Ground.zones h
        simp only [ground_zones] at zones
        rw [h, zones]; rfl))

@[simp] theorem enterStandby_ground : s.enterStandby.ground = { s.ground with
    standby := true
    zones := s.zones.map fun _ z => { z with standby := true }
    sockets := s.sockets.map fun _ x => x.powerDown } := by
  simp only [enterStandby, settleClock_ground, parkIneligible_ground]
  rfl

@[simp] theorem leaveStandby_ground : s.leaveStandby.ground = { s.ground with
    standby := false
    delay := .silent
    zones := s.zones.map fun _ z => { z with standby := false }
    sockets := s.sockets.map fun n x => x.powerUp (s.settings.channels.get n).autoPower } := by
  simp only [leaveStandby, settle_ground, reEvaluateAll_ground, retargetClock_ground]
  rfl

@[simp] theorem runtimeReset_ground (p : Port) : (s.runtimeReset p).ground = { s.ground with
    zones := s.zones.map fun j z => { z with contactMute := s.anyActive (.zoneMuteWhile j) }
    contacts := s.contacts.map fun k c => c.restart (s.settings.contactIn.get k)
    ports := (s.ports.map fun _ h => h.restart).set p .idle } := rfl

@[simp] theorem tick_ground : s.tick.ground = { s.ground with
    sockets := s.sockets.map fun _ x => x.tick
    override := { s.override with debounce := debounceDown s.override.raw s.override.debounced s.override.debounce }
    contacts := s.contacts.map fun _ c => { c with debounce := debounceDown c.raw c.debounced c.debounce }
    clock := s.clock.tick
    ports := s.ports.map fun _ h => h.tick } := rfl

end State

end Sys2Proof.Machine
end

section
/-! PROOFS. What is retained: the settings (R185). -/

namespace Sys2Proof.Machine

open Sys2Proof.Safety

/-- Of the settings a contact's action moves the active arrangement alone (R198, R199). -/
theorem State.applyContact_settings (s : State) (k : ContactIn) : (s.applyContact k).settings = s.settings ∨
    ∃ a, (s.applyContact k).settings = { s.settings with active := a } := by
  obtain h | h | ⟨a, h⟩ := s.applyContact_ground k
  · exact .inl (congrArg Ground.settings h)
  · exact .inl (congrArg Ground.settings h)
  · exact .inr ⟨a, congrArg Ground.settings h⟩

@[simp] theorem Settings.setMembership_active (k : Arrangement) (x : Zone ⊕ Channel) (g : Option Group) (c : Settings) :
    (c.setMembership k x g).active = c.active := by
  cases x <;> rfl

/-- What an act makes of the retained settings (R185). -/
theorem Act.settings {c : Instr} {s t : State} (act : Act c s t) : t.settings = s.settings ∨
    (∃ k, t.settings = { s.settings with active := k } ∧
      ((∃ p body, c = .selectArrangement p body) ∨ ∃ k, c = .contactChange k)) ∨
    (t.settings.active = s.settings.active ∧ ∃ p index entry,
      c = .writeEntryStation p index entry ∨ c = .writeEntryZone p index entry ∨ c = .writeEntryChannel p index entry ∨
      c = .writeEntryGroup p index entry ∨ c = .writeEntryMembership p index entry ∨
      c = .writeEntryProfile p index entry ∨ c = .writeEntryContactIn p index entry ∨
      c = .writeEntryContactOut p index entry ∨ c = .writeEntryPortRouting p index entry ∨
      c = .writeEntrySystem p index entry) := by
  simp only [← State.ground_settings]
  cases act with
  | station | zone | channel | group | membership | profile | contactIn | contactOut | routing | system =>
    exact .inr (.inr (by simp [Settings.setGroup, State.ground_settings, State.storeContactIn_ground]))
  | arrangement => exact .inr (.inl (by simp [State.ground_settings]))
  | @contact s k =>
    obtain h | ⟨a, h⟩ := State.applyContact_settings
      ((s.onContact k fun c => { c with debounced := c.raw, debounce := none }).post .contactChange) k
    · exact .inl h
    · exact .inr (.inl ⟨a, h, .inr ⟨k, rfl⟩⟩)
  | sensingEnd | removal =>
    refine .inl ?_
    rw [State.socketEvent_ground]
    split <;> rfl
  | nothing | powerOnReset | held | freeze | input => exact .inl rfl
  | _ => exact .inl (by simp)

/-- Settles O59: every command's act says what it makes of the settings. -/
theorem settingsAreRetained : Obligations.SettingsAreRetained := by
  unfold Obligations.SettingsAreRetained
  intro c s t h
  obtain ⟨u, ports, act, rfl⟩ := exec_act h
  exact act.settings

end Sys2Proof.Machine
end

section
/-! PROOFS. The geometry freeze (R16). -/

namespace Sys2Proof.Machine

open Sys2Proof.Safety

/-- Two settings agree in the surveyed fields, those that the geometry freeze fixes (R16). -/
structure Settings.SameSurvey (a b : Settings) : Prop where
  stations : b.stations = a.stations
  zones : ∀ j, (a.zones.get j).sameGeometry (b.zones.get j) = true
  windows : ∀ n, (a.channels.get n).sameWindow (b.channels.get n)

theorem ZoneRec.sameGeometry_iff (a b : ZoneRec) : a.sameGeometry b = true ↔
    b.speaker = a.speaker ∧ b.listening = a.listening ∧ b.precedence = a.precedence ∧ b.nearRadius = a.nearRadius ∧
      b.guardRadius = a.guardRadius := by
  simp only [ZoneRec.sameGeometry, Bool.and_eq_true, beq_iff_eq, and_assoc, @eq_comm _ b.speaker,
    @eq_comm _ b.listening, @eq_comm _ b.precedence, @eq_comm _ b.nearRadius, @eq_comm _ b.guardRadius]

theorem ZoneRec.sameGeometry_self (a : ZoneRec) : a.sameGeometry a = true := by simp [ZoneRec.sameGeometry]

theorem ChannelRec.sameWindow_self (a : ChannelRec) : a.sameWindow a := ⟨rfl, rfl⟩

namespace Settings.SameSurvey

variable {a b : Settings}

theorem of_tables (stations : b.stations = a.stations) (zones : b.zones = a.zones) (channels : b.channels = a.channels) :
    a.SameSurvey b :=
  ⟨stations, fun j => by rw [zones]; exact ZoneRec.sameGeometry_self _,
    fun n => by rw [channels]; exact ChannelRec.sameWindow_self _⟩

theorem setZone (a : Settings) {j : Zone} {r : ZoneRec} (same : (a.zones.get j).sameGeometry r = true) :
    a.SameSurvey { a with zones := a.zones.set j r } := by
  refine ⟨rfl, fun k => ?_, fun n => ChannelRec.sameWindow_self _⟩
  rw [Table.get_set]
  split
  case isTrue h => subst h; exact same
  case isFalse => exact ZoneRec.sameGeometry_self _

theorem setChannel (a : Settings) {n : Channel} {r : ChannelRec} (same : (a.channels.get n).sameWindow r) :
    a.SameSurvey { a with channels := a.channels.set n r } := by
  refine ⟨rfl, fun j => ZoneRec.sameGeometry_self _, fun k => ?_⟩
  rw [Table.get_set]
  split
  case isTrue h => subst h; exact same
  case isFalse => exact ChannelRec.sameWindow_self _

end Settings.SameSurvey

/-- In a frozen part no act but a power-on reset clears the freeze or moves a surveyed field (R16). -/
theorem Act.frozen {c : Instr} {s t : State} (act : Act c s t) (running : c ≠ .powerOnReset) (frozen : s.frozen = true) :
    t.frozen = true ∧ s.settings.SameSurvey t.settings := by
  simp only [← State.ground_settings, ← State.ground_frozen] at frozen ⊢
  cases act with
  | powerOnReset => exact absurd rfl running
  | station freeze =>
    refine ⟨by simpa using frozen, .of_tables ?_ (by simp [State.ground_settings]) (by simp [State.ground_settings])⟩
    simp [freeze frozen, State.ground_settings]
  | zone freeze =>
    rw [State.storeZone_ground]
    exact ⟨frozen, .setZone _ (freeze frozen)⟩
  | channel freeze =>
    rw [State.storeChannel_ground]
    exact ⟨frozen, .setChannel _ (freeze frozen)⟩
  | contactIn =>
    rw [State.storeContactIn_ground]
    exact ⟨frozen, .of_tables rfl rfl rfl⟩
  | membership =>
    rw [State.storeMembership_ground]
    refine ⟨frozen, ?_⟩
    rename_i k x g
    cases x <;> exact .of_tables rfl rfl rfl
  | @contact s k =>
    obtain h | h | ⟨a, h⟩ := State.applyContact_ground
      ((s.onContact k fun c => { c with debounced := c.raw, debounce := none }).post .contactChange) k <;>
    · rw [State.settle_ground, h]
      exact ⟨frozen, .of_tables rfl rfl rfl⟩
  | sensingEnd | removal =>
    rw [State.socketEvent_ground]
    split <;> exact ⟨frozen, .of_tables rfl rfl rfl⟩
  | freeze => exact ⟨rfl, .of_tables rfl rfl rfl⟩
  | nothing | held | input => exact ⟨frozen, .of_tables rfl rfl rfl⟩
  | _ =>
    exact ⟨by simpa using frozen, .of_tables (by simp [State.ground_settings, Settings.setGroup])
      (by simp [State.ground_settings, Settings.setGroup]) (by simp [State.ground_settings, Settings.setGroup])⟩

/-- Settles O58: the acts keep a freeze and what it fixes; the power-on reset clears it by its definition. -/
theorem frozenGeometryStays : Obligations.FrozenGeometryStays := by
  unfold Obligations.FrozenGeometryStays
  refine ⟨fun s t c rest front running frozen h => ?_, fun s t h => by cases h; rfl⟩
  simp only [step, front] at h
  obtain ⟨u, ports, act, rfl⟩ := exec_act h
  obtain ⟨still, survey⟩ := act.frozen running frozen
  exact ⟨still, survey.stations, fun j => (ZoneRec.sameGeometry_iff _ _).mp (survey.zones j), survey.windows⟩

end Sys2Proof.Machine
end

section
/-! PROOFS. Delay memory and the windows (R9, R11, R12). -/

namespace Sys2Proof.Machine

open Sys2Proof.Safety

/-- Delay memory is in its canonical form, within the array, and each write position within its channel's window. -/
structure DelayMemory.Within (channels : Table 16 ChannelRec) (m : DelayMemory) : Prop where
  wf : m.wf = true
  array : ∀ c ∈ m.cells, c.1 < Config.delayCells
  position : ∀ n, m.position.get n < max 1 (channels.get n).windowSamples

theorem delayLaw_iff (s : State) : DelayLaw s ↔
    s.delay.Within s.settings.channels ∧ WindowsInArray s.settings ∧ WindowsApart s.settings :=
  ⟨fun ⟨wf, array, position, inArray, apart⟩ => ⟨⟨wf, array, position⟩, inArray, apart⟩,
    fun ⟨⟨wf, array, position⟩, inArray, apart⟩ => ⟨wf, array, position, inArray, apart⟩⟩

namespace DelayMemory

variable {channels : Table 16 ChannelRec} {m : DelayMemory}

theorem within_silent (channels : Table 16 ChannelRec) : DelayMemory.silent.Within channels :=
  ⟨rfl, nofun, fun n => by simp [silent]⟩

/-- A cell of a window within the array is a cell of the array (R9, R12). -/
theorem cell_lt_delayCells {c : ChannelRec} {k : Nat} (inArray : windowInRange c.start c.length = true)
    (h : k < c.windowSamples) : c.firstCell + k < Config.delayCells := by
  simp only [windowInRange, Config.delayUnits, Bool.and_eq_true, decide_eq_true_eq] at inArray
  simp only [ChannelRec.windowSamples, ChannelRec.firstCell, Config.unitSamples, Config.delayCells] at h ⊢
  omega

theorem Within.store (h : m.Within channels) (n : Channel) (v : Sample)
    (inArray : windowInRange (channels.get n).start (channels.get n).length = true) :
    (m.store (channels.get n) n v).Within channels := by
  by_cases empty : (channels.get n).windowSamples = 0
  · simpa [DelayMemory.store, empty] using h
  · refine ⟨wf_store _ _ _ h.wf, ?_, fun k => ?_⟩
    · rw [store_cells n v m empty]
      intro c listed
      obtain rfl | old := mem_writeCell listed
      · have position := h.position n
        exact cell_lt_delayCells inArray (by omega)
      · exact h.array c old
    · by_cases same : n = k
      · subst same
        rw [store_position n v m empty]
        have := Nat.mod_lt (m.position.get n + 1) (Nat.pos_of_ne_zero empty)
        omega
      · rw [store_position_other v m same]
        exact h.position k

theorem Within.storeAll {c : Settings} (h : m.Within c.channels) (slots : Table 17 Sample) (inArray : WindowsInArray c) :
    (m.storeAll c slots).Within c.channels := by
  unfold DelayMemory.storeAll
  induction List.finRange 16 generalizing m with
  | nil => exact h
  | cons n ns ih => exact ih (h.store n _ (inArray n))

/-- A new window of a channel starts at its first cell (R13). -/
theorem Within.newWindow (h : m.Within channels) (n : Channel) (c : ChannelRec) :
    (m.newWindow c n).Within (channels.set n c) := by
  refine ⟨wf_newWindow _ _ h.wf, fun x listed => h.array x (List.mem_of_mem_filter listed), fun k => ?_⟩
  simp only [DelayMemory.newWindow, Table.get_set]
  split
  · omega
  · exact h.position k

end DelayMemory

theorem windowsOverlap_comm (a b c d : Nat) : windowsOverlap a b c d = windowsOverlap c d a b := by
  rw [Bool.eq_iff_iff]
  simp only [windowsOverlap, Bool.and_eq_true, bne_iff_ne, decide_eq_true_eq]
  tauto

theorem Settings.overlapsAnother_eq_false {c : Settings} {n : Channel} {start length : Nat} :
    c.overlapsAnother n start length = false ↔
      ∀ m, m ≠ n → windowsOverlap start length (c.channels.get m).start (c.channels.get m).length = false := by
  simp [Settings.overlapsAnother]

/-- A window that is within the array and apart from the others' keeps the windows so (R11, R12). -/
theorem windows_set {c : Settings} {n : Channel} {r : ChannelRec} (inArray : WindowsInArray c) (apart : WindowsApart c)
    (overlap : c.overlapsAnother n r.start r.length = false) (range : windowInRange r.start r.length = true) :
    WindowsInArray { c with channels := c.channels.set n r } ∧ WindowsApart { c with channels := c.channels.set n r } := by
  rw [Settings.overlapsAnother_eq_false] at overlap
  constructor
  · intro k
    simp only [Table.get_set]
    split
    · exact range
    · exact inArray k
  · intro k l other
    simp only [Table.get_set]
    split
    case isTrue h =>
      subst h
      rw [if_neg other]
      exact overlap l (Ne.symm other)
    case isFalse =>
      split
      case isTrue h =>
        subst h
        rw [windowsOverlap_comm]
        exact overlap k other
      case isFalse => exact apart k l other

/-- A record with the stored window keeps the windows as they are. -/
theorem windows_set_same {c : Settings} {n : Channel} {r : ChannelRec} (same : (c.channels.get n).sameWindow r)
    (k : Channel) : (c.channels.get k).sameWindow ((c.channels.set n r).get k) := by
  rw [Table.get_set]
  split
  case isTrue h => subst h; exact same
  case isFalse => exact ⟨rfl, rfl⟩

theorem delayLaw_of_sameWindow {s t : State} (law : DelayLaw s) (delay : t.delay = s.delay)
    (same : ∀ n, (s.settings.channels.get n).sameWindow (t.settings.channels.get n)) : DelayLaw t := by
  obtain ⟨wf, array, position, inArray, apart⟩ := law
  refine ⟨delay ▸ wf, delay ▸ array, fun n => ?_, fun n => ?_, fun n m other => ?_⟩
  · obtain ⟨-, length⟩ := same n
    simp only [delay, Settings.window, ChannelRec.windowSamples, length]
    exact position n
  · rw [(same n).1, (same n).2]
    exact inArray n
  · rw [(same n).1, (same n).2, (same m).1, (same m).2]
    exact apart n m other

theorem delayLaw_stands {s t : State} (law : DelayLaw s) (delay : t.delay = s.delay)
    (channels : t.settings.channels = s.settings.channels) : DelayLaw t :=
  delayLaw_of_sameWindow law delay fun n => by rw [channels]; exact ⟨rfl, rfl⟩

theorem State.storeChannel_delayLaw {s : State} {n : Channel} {r : ChannelRec} (law : DelayLaw s)
    (window : (s.settings.channels.get n).sameWindow r ∨ (s.windowBusy n = false ∧
      s.settings.overlapsAnother n r.start r.length = false ∧ windowInRange r.start r.length = true)) :
    DelayLaw (s.storeChannel n r) := by
  have settings := congrArg Ground.settings (s.storeChannel_ground n r)
  have delay := congrArg Ground.delay (s.storeChannel_ground n r)
  simp only [State.ground_settings, State.ground_delay] at settings delay
  by_cases same : r.start = (s.settings.channels.get n).start ∧ r.length = (s.settings.channels.get n).length
  · rw [if_pos same] at delay
    exact delayLaw_of_sameWindow law delay fun k => by rw [settings]; exact windows_set_same same k
  · rw [if_neg same] at delay
    obtain standing | ⟨-, overlap, range⟩ := window
    · exact absurd standing same
    · obtain ⟨within, inArray, apart⟩ := (delayLaw_iff s).mp law
      rw [delayLaw_iff, settings, delay]
      exact ⟨within.newWindow n r, windows_set inArray apart overlap range⟩

theorem Act.delayLaw {c : Instr} {s t : State} (act : Act c s t) (law : DelayLaw s) : DelayLaw t := by
  cases act with
  | channel freeze window => exact State.storeChannel_delayLaw law window
  | input =>
    obtain ⟨within, inArray, apart⟩ := (delayLaw_iff _).mp law
    exact (delayLaw_iff _).mpr ⟨within.storeAll _ inArray, inArray, apart⟩
  | powerOnReset =>
    obtain ⟨-, inArray, apart⟩ := (delayLaw_iff _).mp law
    exact (delayLaw_iff _).mpr ⟨DelayMemory.within_silent _, inArray, apart⟩
  | wake =>
    obtain ⟨-, inArray, apart⟩ := (delayLaw_iff _).mp law
    rw [delayLaw_iff, ← State.ground_delay, ← State.ground_settings, State.leaveStandby_ground]
    exact ⟨DelayMemory.within_silent _, inArray, apart⟩
  | @membership _ _ _ _ k x g =>
    refine delayLaw_stands law ?_ ?_
    · simp [← State.ground_delay]
    · rw [← State.ground_settings, State.storeMembership_ground]
      cases x <;> rfl
  | contactIn =>
    refine delayLaw_stands law ?_ ?_
    · rw [← State.ground_delay, State.storeContactIn_ground]; rfl
    · rw [← State.ground_settings, State.storeContactIn_ground]
  | @contact s k =>
    obtain h | h | ⟨a, h⟩ := State.applyContact_ground
      ((s.onContact k fun c => { c with debounced := c.raw, debounce := none }).post .contactChange) k <;>
    exact delayLaw_stands law (congrArg Ground.delay h) (congrArg (fun x => x.settings.channels) h)
  | sensingEnd | removal =>
    refine delayLaw_stands law ?_ ?_
    · rw [← State.ground_delay, State.socketEvent_ground]; split <;> rfl
    · rw [← State.ground_settings, State.socketEvent_ground]; split <;> rfl
  | nothing | held | freeze => exact law
  | _ =>
    exact delayLaw_stands law (by simp [← State.ground_delay])
      (by rw [← State.ground_settings]; simp [State.ground_settings, Settings.setGroup])

/-- Settles O49. -/
theorem everyStepKeepsTheWindowsApart : Obligations.EveryStepKeepsTheWindowsApart := by
  unfold Obligations.EveryStepKeepsTheWindowsApart
  exact fun s t law h => step_keeps (P := DelayLaw) (fun _ _ => id) (fun _ _ => id) Act.delayLaw law h

end Sys2Proof.Machine
end

section
/-! SUPPORT. What the arbiter and the gate unit leave alone: the holder of every group, and of every gate its modes, its
station, its latest measurement and its detector; and which kinds they post. -/

namespace Sys2Proof.Machine

open Sys2Proof.Safety

/-- What an arbiter's operation leaves of a gate: everything but its state and its hold counter. -/
def Gate.still (g : Gate) : Gate := { g with state := .parked, holdCounter := 0 }

/-! ### Masks -/

theorem maskValid_iff (m : EventMask) : maskValid m = true ↔ m &&& ~~~EventMask.kinds = 0 := by
  simp [maskValid]

theorem maskValid_or {a b : EventMask} (ha : maskValid a = true) (hb : maskValid b = true) :
    maskValid (a ||| b) = true := by
  rw [maskValid_iff] at *
  rw [BitVec.and_comm, BitVec.and_or_distrib_left] 
  simp_all [BitVec.and_comm]

theorem maskValid_and_left {a : EventMask} (b : EventMask) (ha : maskValid a = true) : maskValid (a &&& b) = true := by
  rw [maskValid_iff] at *
  rw [BitVec.and_assoc, BitVec.and_comm b, ← BitVec.and_assoc, ha]
  simp

theorem EventKind.maskValid_mask (k : EventKind) : maskValid k.mask = true := by
  cases k <;> decide

/-- Outside `kinds` two masks agree (R190). -/
def EventMask.AgreeOutside (kinds a b : EventMask) : Prop := b &&& ~~~kinds = a &&& ~~~kinds

namespace EventMask.AgreeOutside

variable {kinds a b c : EventMask}

theorem refl (kinds a : EventMask) : AgreeOutside kinds a a := rfl

theorem trans (h : AgreeOutside kinds a b) (k : AgreeOutside kinds b c) : AgreeOutside kinds a c := Eq.trans k h

theorem or (h : AgreeOutside kinds a b) {x : EventMask} (within : x &&& ~~~kinds = 0) :
    AgreeOutside kinds a (b ||| x) := by
  unfold AgreeOutside at *
  rw [BitVec.and_comm, BitVec.and_or_distrib_left, BitVec.and_comm _ x, within, BitVec.and_comm _ b, h]
  simp

end EventMask.AgreeOutside

/-! ### The operations of the arbiter -/

/-- What leads from `m` to `m'` leaves holders, modes, stations and measurements, and posts kinds of `kinds` alone. -/
structure Mix.Frame (kinds : EventMask) (m m' : Mix) : Prop where
  holder : ∀ g, (m'.groups.get g).holder = (m.groups.get g).holder
  gate : ∀ n, (m'.gates.get n).still = (m.gates.get n).still
  posted : EventMask.AgreeOutside kinds m.posted m'.posted

namespace Mix

variable {kinds : EventMask} {m u v : Mix}

namespace Frame

theorem refl (kinds : EventMask) (m : Mix) : Frame kinds m m := ⟨fun _ => rfl, fun _ => rfl, rfl⟩

theorem trans (h : Frame kinds m u) (k : Frame kinds u v) : Frame kinds m v :=
  ⟨fun g => (k.holder g).trans (h.holder g), fun n => (k.gate n).trans (h.gate n), h.posted.trans k.posted⟩

theorem mode (h : Frame kinds m u) (n : Channel) : (u.gates.get n).mode = (m.gates.get n).mode :=
  have e := congrArg Gate.mode (h.gate n)
  e

theorem portMode (h : Frame kinds m u) (n : Channel) : (u.gates.get n).portMode = (m.gates.get n).portMode :=
  have e := congrArg Gate.portMode (h.gate n)
  e

theorem station (h : Frame kinds m u) (n : Channel) : (u.gates.get n).station = (m.gates.get n).station :=
  have e := congrArg Gate.station (h.gate n)
  e

theorem latest (h : Frame kinds m u) (n : Channel) : (u.gates.get n).latest = (m.gates.get n).latest :=
  have e := congrArg Gate.latest (h.gate n)
  e

theorem ite {c : Prop} [Decidable c] (h : Frame kinds m u) (k : Frame kinds m v) :
    Frame kinds m (if c then u else v) := by
  split
  · exact h
  · exact k

theorem onGate (h : Frame kinds m u) (n : Channel) {f : Gate → Gate} (same : ∀ g, (f g).still = g.still) :
    Frame kinds m (u.onGate n f) := by
  refine ⟨h.holder, fun k => ?_, h.posted⟩
  rw [onGate_gates, Table.modify, Table.get_set, ← h.gate k]
  split
  case isTrue e => rw [same, e]
  case isFalse => rfl

theorem setState (h : Frame kinds m u) (n : Channel) (st : GateState) : Frame kinds m (u.setState n st) :=
  h.onGate n fun _ => rfl

theorem onGroups (h : Frame kinds m u) {f : Group → GroupState → GroupState} (same : ∀ g x, (f g x).holder = x.holder) :
    Frame kinds m { u with groups := u.groups.map f } :=
  ⟨fun g => by rw [Table.get_map, same]; exact h.holder g, h.gate, h.posted⟩

theorem onGroup (h : Frame kinds m u) (g : Group) {f : GroupState → GroupState} (same : ∀ x, (f x).holder = x.holder) :
    Frame kinds m (u.onGroup g f) := by
  refine ⟨fun k => ?_, h.gate, h.posted⟩
  rw [onGroup_groups, Table.modify, Table.get_set, ← h.holder k]
  split
  case isTrue e => rw [same, e]
  case isFalse => rfl

theorem unwait (h : Frame kinds m u) (n : Channel) : Frame kinds m (u.unwait n) := h.onGroups fun _ _ => rfl

theorem setKind (h : Frame kinds m u) (n : Channel) (k : EntryKind) : Frame kinds m (u.setKind n k) :=
  h.onGroups fun _ _ => rfl

theorem enqueueWaiting (h : Frame kinds m u) (g : Group) (n : Channel) : Frame kinds m (u.enqueueWaiting g n) :=
  h.onGroup g fun x => by split <;> rfl

theorem post (h : Frame kinds m u) {k : EventKind} (within : k.mask &&& ~~~kinds = 0) : Frame kinds m (u.post k) :=
  ⟨h.holder, h.gate, h.posted.or within⟩

end Frame

/-- GATE_OPENED and GATE_CLOSED may be posted. -/
abbrev PostsGates (kinds : EventMask) : Prop :=
  EventKind.gateOpened.mask &&& ~~~kinds = 0 ∧ EventKind.gateClosed.mask &&& ~~~kinds = 0

theorem postsGates_gateKinds : PostsGates gateKinds := by decide

theorem postsGates_all : PostsGates EventMask.kinds := by decide

section
variable (may : PostsGates kinds) (h : Frame kinds m u)
include may h

theorem Frame.join (g : Group) (n : Channel) (k : EntryKind) : Frame kinds m (u.join g n k) := by
  refine .post (.setState (.unwait (.onGroup h g ?_) n) n _) may.1
  exact fun _ => rfl

theorem Frame.evict (n : Channel) (st : GateState) : Frame kinds m (u.evict n st) := by
  unfold Mix.evict
  split
  · exact h.setState n st
  · refine .post (.setState (.onGroup h _ ?_) n st) may.2
    exact fun _ => rfl

theorem Frame.enterForced (maxOpen : Nat) (g : Group) (n : Channel) : Frame kinds m (u.enterForced maxOpen g n) := by
  unfold Mix.enterForced
  split
  · exact (h.evict may _ _).join may g n _
  · refine .ite (h.join may g n _) ?_
    split
    · exact (h.evict may _ _).join may g n _
    · exact h

theorem Frame.askForced (c : Settings) (n : Channel) : Frame kinds m (u.askForced c n) := by
  unfold Mix.askForced
  split
  · exact h
  · exact .ite (h.enterForced may _ _ n) (h.enqueueWaiting _ n)

theorem Frame.offerList (maxOpen : Nat) (g : Group) (ns : List Channel) : Frame kinds m (offerList maxOpen g ns u) := by
  induction ns generalizing u with
  | nil => exact h
  | cons n ns ih =>
    unfold Mix.offerList
    split
    · exact ih (h.enterForced may _ g n)
    · exact h

theorem Frame.offer (c : Settings) (g : Group) : Frame kinds m (u.offer c g) := h.offerList may _ g _

theorem Frame.leave (c : Settings) (n : Channel) (st : GateState) : Frame kinds m (u.leave c n st) := by
  unfold Mix.leave
  split
  · exact (h.unwait n).setState n st
  · exact ((h.unwait n).evict may n st).offer may c _

theorem Frame.leaveQuietly (n : Channel) (st : GateState) : Frame kinds m (u.leaveQuietly n st) :=
  (h.unwait n).evict may n st

theorem Frame.leaveParked (c : Settings) (n : Channel) : Frame kinds m (u.leaveParked c n) :=
  .ite ((h.setState n _).askForced may c n) (h.setState n _)

theorem Frame.becomeAuto (c : Settings) (n : Channel) : Frame kinds m (u.becomeAuto c n) := by
  unfold Mix.becomeAuto
  split
  · exact h
  · exact .ite ((h.setKind n _).offer may c _) h

theorem Frame.reactMode (c : Settings) (n : Channel) (mode : GateMode) : Frame kinds m (u.reactMode c n mode) := by
  unfold Mix.reactMode
  split
  · exact h
  · exact .ite (h.askForced may c n) (h.unwait n)
  · split
    · exact h.becomeAuto may c n
    · exact h.setKind n _
    · exact h.leave may c n _
  all_goals
    split
    · exact h.becomeAuto may c n
    · exact (h.setState n _).setKind n _
    · exact h.leave may c n _

theorem Frame.endCountdown (c : Settings) (n : Channel) : Frame kinds m (u.endCountdown c n) := by
  unfold Mix.endCountdown
  split
  · exact h.leave may c n _
  · exact .ite (h.setState n _) (h.leave may c n _)

theorem Frame.fitAuto (maxOpen : Nat) (g : Group) (fuel : Nat) : Frame kinds m (fitAuto maxOpen g fuel u) := by
  induction fuel generalizing u with
  | zero => exact h
  | succ fuel ih =>
    unfold Mix.fitAuto
    refine .ite h ?_
    split
    · exact h
    · exact ih (h.evict may _ _)

theorem Frame.fitForced (maxOpen : Nat) (g : Group) (fuel : Nat) : Frame kinds m (fitForced maxOpen g fuel u) := by
  induction fuel generalizing u with
  | zero => exact h
  | succ fuel ih =>
    unfold Mix.fitForced
    refine .ite h ?_
    split
    · exact h
    · exact ih ((h.evict may _ _).enqueueWaiting g _)

theorem Frame.dropLastOn (g : Group) : Frame kinds m (u.dropLastOn g) := by
  unfold Mix.dropLastOn
  split
  · exact h
  · exact h.evict may _ _

omit may in
theorem Frame.foldl {α : Type} {f : Mix → α → Mix} (step : ∀ {u} x, Frame kinds m u → Frame kinds m (f u x))
    (xs : List α) : Frame kinds m (xs.foldl f u) := by
  induction xs generalizing u with
  | nil => exact h
  | cons x xs ih => exact ih (step x h)

theorem Frame.fitAtSwitch (c : Settings) (moved : Channel → Bool) (g : Group) :
    Frame kinds m (u.fitAtSwitch c moved g) := by
  unfold Mix.fitAtSwitch
  refine Frame.foldl ?_ (fun n k => .ite (k.askForced may c n) k) _
  refine Frame.offer may (.ite ?_ (Frame.dropLastOn may ?_ g)) c g
  all_goals exact (h.fitAuto may _ g _).fitForced may _ g _

end

section
variable (may : PostsGates kinds) (denied : EventKind.openDenied.mask &&& ~~~kinds = 0) (h : Frame kinds m u)
include may denied h

theorem Frame.askAuto (c : Settings) (n : Channel) (l : Nat) : Frame kinds m (u.askAuto c n l) := by
  unfold Mix.askAuto
  split
  · exact h
  · split
    · exact (h.evict may _ _).join may _ n _
    · refine .ite (h.join may _ n _) ?_
      split
      · exact h.post denied
      · exact .ite (((h.evict may _ _).join may _ n _).post denied) (h.post denied)

theorem Frame.actOn (c : Settings) (n : Channel) (l : Nat) : Frame kinds m (u.actOn c n l) := by
  unfold Mix.actOn
  dsimp only
  split
  · exact h
  · exact .ite (h.askAuto may denied c n l) h
  · refine .ite (.onGate h n ?_) h
    exact fun _ => rfl
  · refine .ite (h.setState n _) (.ite (h.endCountdown may c n) (.onGate h n ?_))
    exact fun _ => rfl
  · exact .ite (h.setState n _) h

end

end Mix

/-! ### The parts of the larger operations -/

/-- The gates of the channels that a switch moves to another group leave their open sets and lists (R120, step 2). -/
def Mix.takeMoved (moved : Channel → Bool) (m : Mix) : Mix :=
  (List.finRange 16).foldl (fun m n =>
    if moved n then if (memberGroup m.groups n).isSome then m.leaveQuietly n .closed else m.unwait n else m) m

/-- Every group's open set fitted, in ascending number (R120, step 5). -/
def Mix.fitAll (c : Settings) (moved : Channel → Bool) (m : Mix) : Mix :=
  (List.finRange 6).foldl (fun m g => m.fitAtSwitch c moved g) m

namespace State

variable (s : State)

/-- The active arrangement replaced (R120, step 1). -/
def select (k : Arrangement) : State := { s with settings := { s.settings with active := k } }

/-- The channel's group in arrangement `k` is another than in the active one. -/
def changesGroup (k : Arrangement) (n : Channel) : Bool :=
  (s.settings.channelGroups.get k).get n != s.settings.channelGroup n

/-- A switch before its sets are fitted (R120, steps 1 to 4 and 7). -/
def switched (k : Arrangement) : State :=
  (((s.select k).onMix (Mix.takeMoved (s.changesGroup k))).parkIneligible (List.finRange 16)).askAll

theorem switched_settings (k : Arrangement) : (s.switched k).settings = (s.select k).settings := by
  rw [switched, State.askAll_settings, (OnlyMix.parkIneligible _ _).settings, State.onMix_settings]

theorem switchTo_eq (k : Arrangement) : s.switchTo k =
    ((s.switched k).onMix (Mix.fitAll (s.select k).settings (s.changesGroup k))).post .arrangementChanged := by
  rw [← switched_settings]
  rfl

/-- The completed block of Mn is taken. -/
def takeBlock (n : Channel) : State :=
  { s with gates := s.gates.modify n fun g => { g with detector := { g.detector with done := none } } }

theorem takeMeasurement_eq (n : Channel) (l : Nat) :
    s.takeMeasurement n l = ((s.takeBlock n).onMix (Mix.measure s.settings n l)).settle s := rfl

/-- The current station of Mn set (R98, step 1). -/
def setStation (n : Channel) (st : Option Station) : State :=
  { s with gates := s.gates.modify n fun g => { g with station := st } }

theorem moveTo_eq (n : Channel) (st : Option Station) :
    s.moveTo n st = ((s.setStation n st).askChannel n).reEvaluate n := rfl

/-- The port-set mode of Mn stored (R97). -/
def storeMode (n : Channel) (mode : GateMode) : State :=
  { s with gates := s.gates.modify n fun g => { g with portMode := mode } }

/-- A CLOSED channel whose mode becomes or stays FORCE_OPEN takes the mode and asks for entry (R97). -/
def forceAsk (n : Channel) : State :=
  s.onMix fun m => (m.onGate n fun g => { g with mode := .forceOpen }).askForced s.settings n

theorem setPortMode_eq (n : Channel) (mode : GateMode) : s.setPortMode n mode =
    if (s.gates.get n).state = .closed ∧ s.wouldForceOpen n (some mode) then (s.storeMode n mode).forceAsk n
    else (s.storeMode n mode).reMode n := rfl

end State

/-! ### The same on the state -/

/-- What leads from `s` to `t` leaves every group's holder, and adds and removes kinds of `kinds` alone. -/
structure Quiet (kinds : EventMask) (s t : State) : Prop where
  holder : ∀ g, (t.groups.get g).holder = (s.groups.get g).holder
  sticky : ∀ p, EventMask.AgreeOutside kinds (s.events.get p).sticky (t.events.get p).sticky

namespace Quiet

variable {kinds : EventMask} {s t u : State}

theorem refl (kinds : EventMask) (s : State) : Quiet kinds s s := ⟨fun _ => rfl, fun _ => rfl⟩

theorem trans (h : Quiet kinds s t) (k : Quiet kinds t u) : Quiet kinds s u :=
  ⟨fun g => (k.holder g).trans (h.holder g), fun p => (h.sticky p).trans (k.sticky p)⟩

theorem ite {c : Prop} [Decidable c] (h : Quiet kinds s t) (k : Quiet kinds s u) : Quiet kinds s (if c then t else u) := by
  split
  · exact h
  · exact k

/-- The groups and the sticky sets stand. -/
theorem same (h : (t.groups, t.events) = (s.groups, s.events)) : Quiet kinds s t := by
  obtain ⟨groups, events⟩ := Prod.mk.inj h
  exact ⟨fun g => by rw [groups], fun p => by rw [events]; rfl⟩

/-- A state with the groups and the sticky sets of `t` is as quiet as `t`. -/
theorem move (h : Quiet kinds s t) (e : (u.groups, u.events) = (t.groups, t.events)) : Quiet kinds s u := h.trans (.same e)

theorem postMask (h : Quiet kinds s t) {x : EventMask} (within : x &&& ~~~kinds = 0) : Quiet kinds s (t.postMask x) :=
  ⟨h.holder, fun p => by
    rw [State.postMask, ByPort.get_map]
    exact (h.sticky p).or within⟩

theorem post (h : Quiet kinds s t) {k : EventKind} (within : k.mask &&& ~~~kinds = 0) : Quiet kinds s (t.post k) :=
  h.postMask within

theorem postTo (h : Quiet kinds s t) (p : Port) {x : EventMask} (within : x &&& ~~~kinds = 0) :
    Quiet kinds s (t.postTo p x) := by
  refine ⟨h.holder, fun q => ?_⟩
  by_cases same : p = q
  · subst same
    rw [State.postTo, ByPort.get_set_self]
    exact (h.sticky p).or within
  · rw [State.postTo, ByPort.get_set_other _ _ same]
    exact h.sticky q

theorem groups (h : Quiet kinds s t) {f : Group → GroupState → GroupState} (same : ∀ g x, (f g x).holder = x.holder) :
    Quiet kinds s { t with groups := t.groups.map f } :=
  ⟨fun g => by rw [Table.get_map, same]; exact h.holder g, h.sticky⟩

theorem group (h : Quiet kinds s t) (g : Group) {f : GroupState → GroupState} (same : ∀ x, (f x).holder = x.holder) :
    Quiet kinds s { t with groups := t.groups.modify g f } := by
  refine ⟨fun k => ?_, h.sticky⟩
  rw [Table.modify, Table.get_set, ← h.holder k]
  split
  case isTrue e => rw [same, e]
  case isFalse => rfl

/-- What the arbiter posts and leaves. -/
theorem onMix (h : Quiet kinds s t) {f : Mix → Mix} (holder : ∀ g, ((f t.mix).groups.get g).holder = (t.groups.get g).holder)
    (posted : EventMask.AgreeOutside kinds 0 (f t.mix).posted) : Quiet kinds s (t.onMix f) := by
  have within : (f t.mix).posted &&& ~~~kinds = 0 := by simpa [EventMask.AgreeOutside] using posted
  refine ⟨fun g => (holder g).trans (h.holder g), fun p => ?_⟩
  rw [State.onMix, State.withMix, State.postMask, ByPort.get_map]
  exact (h.sticky p).or within

theorem frame (h : Quiet kinds s t) {f : Mix → Mix} (frame : Mix.Frame kinds t.mix (f t.mix)) :
    Quiet kinds s (t.onMix f) :=
  h.onMix frame.holder frame.posted

section
variable (may : Mix.PostsGates kinds)
include may

theorem reEvaluate (h : Quiet kinds s t) (n : Channel) : Quiet kinds s (t.reEvaluate n) :=
  .ite (.ite (h.frame ((Mix.Frame.refl ..).leaveParked may _ n)) h)
    (.ite h (h.frame ((Mix.Frame.refl ..).leave may _ n _)))

theorem reEvaluateAll (h : Quiet kinds s t) (ns : List Channel) : Quiet kinds s (t.reEvaluateAll ns) := by
  unfold State.reEvaluateAll
  induction ns generalizing t with
  | nil => exact h
  | cons n ns ih => exact ih (h.reEvaluate may n)

theorem parkIneligible (h : Quiet kinds s t) (ns : List Channel) : Quiet kinds s (t.parkIneligible ns) := by
  unfold State.parkIneligible
  induction ns generalizing t with
  | nil => exact h
  | cons n ns ih => exact ih (.ite h (h.frame ((Mix.Frame.refl ..).leaveQuietly may n _)))

theorem reMode (h : Quiet kinds s t) (n : Channel) : Quiet kinds s (t.reMode n) := by
  refine h.onMix ?_ ?_
  all_goals
    unfold Mix.setMode
    split
  · exact fun _ => rfl
  · exact ((Mix.Frame.refl kinds _).reactMode may _ n _).holder
  · rfl
  · exact ((Mix.Frame.refl kinds (t.mix.onGate n _)).reactMode may _ n _).posted

theorem reAct (h : Quiet kinds s t) (a : ContactAction) : Quiet kinds s (t.reAct a) := by
  cases a with
  | forceOpenWhile n => exact h.reMode may n
  | forceClosedWhile n => exact h.reMode may n
  | zoneMuteWhile j => exact ⟨h.holder, h.sticky⟩
  | none | move | arrange => exact h

theorem setPortMode (h : Quiet kinds s t) (n : Channel) (mode : GateMode) : Quiet kinds s (t.setPortMode n mode) := by
  rw [State.setPortMode_eq]
  have stored : Quiet kinds s (t.storeMode n mode) := h.trans (.same rfl)
  refine .ite (stored.onMix ?_ ?_) (stored.reMode may n)
  · exact ((Mix.Frame.refl kinds _).askForced may _ n).holder
  · exact ((Mix.Frame.refl kinds (Mix.onGate n _ _)).askForced may _ n).posted

theorem moveTo (h : Quiet kinds s t) (n : Channel) (st : Option Station) : Quiet kinds s (t.moveTo n st) := by
  rw [State.moveTo_eq]
  refine reEvaluate may (h.trans ?_) n
  exact .same rfl

theorem switchTo (h : Quiet kinds s t) (changed : EventKind.arrangementChanged.mask &&& ~~~kinds = 0)
    (k : Arrangement) : Quiet kinds s (t.switchTo k) := by
  rw [State.switchTo_eq]
  have selected : Quiet kinds s (t.select k) := h.trans (.same rfl)
  have taken : Quiet kinds s ((t.select k).onMix (Mix.takeMoved (t.changesGroup k))) :=
    selected.frame (.foldl (.refl ..) (fun n u => .ite (.ite (u.leaveQuietly may n _) (u.unwait n)) u) _)
  have switched : Quiet kinds s (t.switched k) := by
    refine (taken.parkIneligible may (List.finRange 16)).trans (.same ?_)
    rw [State.switched, State.askAll_groups, State.askAll_events]
  exact (switched.frame (.foldl (.refl ..) (fun g u => u.fitAtSwitch may _ _ g) _)).post changed

theorem takeMeasurement (h : Quiet kinds s t) (denied : EventKind.openDenied.mask &&& ~~~kinds = 0) (n : Channel)
    (l : Nat) : Quiet kinds s (t.takeMeasurement n l) := by
  rw [State.takeMeasurement_eq]
  have block : Quiet kinds s (t.takeBlock n) := h.trans (.same rfl)
  refine .trans (block.onMix (f := Mix.measure t.settings n l) (fun g => ?_) ?_) (.same rfl)
  · refine ((Mix.Frame.refl kinds _).actOn may denied _ n l).holder g |>.trans ?_
    simp [Mix.record, State.mix]
  · exact ((Mix.Frame.refl kinds (Mix.record n l (t.takeBlock n).mix)).actOn may denied _ n l).posted

end

end Quiet

end Sys2Proof.Machine
end

section
/-! PROOFS. The holders of the groups (R122, R123, R125), and the sticky sets and routing masks (R189, R190, R193). -/

namespace Sys2Proof.Machine

open Sys2Proof.Safety

/-- What a command may do to the holder of a group (R122, R123, R125). -/
def HolderMoves (c : Instr) (s t : State) (g : Group) : Prop :=
  (t.groups.get g).holder = (s.groups.get g).holder ∨
    (∃ p body, c = .holdGroup p body ∧ (s.groups.get g).holder = none ∧ (t.groups.get g).holder = some p) ∨
    (∃ p body, c = .releaseGroup p body ∧ (s.groups.get g).holder = some p ∧ (t.groups.get g).holder = none) ∨
    (∃ p body, c = .breakHold p body ∧ (t.groups.get g).holder = none) ∨
    ((t.groups.get g).holder = none ∧ (c = .powerOnReset ∨ (∃ p, c = .runtimeReset p) ∨ ∃ p, c = .responseEnd p))

/-- The holders move only by the hold requests and the resets, and no sticky set gains a bit that is no kind. -/
structure HoldersAndSets (c : Instr) (s t : State) : Prop where
  holders : ∀ g, HolderMoves c s t g
  sticky : ∀ p, maskValid (s.events.get p).sticky = true → maskValid (t.events.get p).sticky = true

theorem Quiet.holdersAndSets {c : Instr} {s t : State} (h : Quiet EventMask.kinds s t) : HoldersAndSets c s t :=
  ⟨fun g => .inl (h.holder g), fun p valid => by
    rw [maskValid_iff] at *
    exact Eq.trans (h.sticky p) valid⟩

theorem HoldersAndSets.trans {c : Instr} {s t u : State} (h : HoldersAndSets c s t) (k : Quiet EventMask.kinds t u) :
    HoldersAndSets c s u := by
  refine ⟨fun g => ?_, fun p valid => (k.holdersAndSets (c := c)).sticky p (h.sticky p valid)⟩
  have now := h.holders g
  unfold HolderMoves at *
  rwa [k.holder g]

/-- A reset leaves no holder, and RESTARTED alone in every sticky set (R127, R190). -/
theorem HoldersAndSets.reset {c : Instr} {s t : State}
    (reset : c = .powerOnReset ∨ (∃ p, c = .runtimeReset p) ∨ ∃ p, c = .responseEnd p)
    (groups : ∀ g, (t.groups.get g).holder = none)
    (events : ∀ p, (t.events.get p).sticky = EventKind.restarted.mask) : HoldersAndSets c s t :=
  ⟨fun g => .inr (.inr (.inr (.inr ⟨groups g, reset⟩))), fun p _ => by
    rw [events]; exact EventKind.restarted.maskValid_mask⟩

theorem HoldersAndSets.runtimeReset {c : Instr} {s : State} {p : Port}
    (reset : c = .powerOnReset ∨ (∃ p, c = .runtimeReset p) ∨ ∃ p, c = .responseEnd p) :
    HoldersAndSets c s (s.runtimeReset p) :=
  .reset reset (fun g => congrArg GroupState.holder (Table.get_ofFn _ g)) fun q =>
    congrArg PortEvents.sticky (ByPort.get_map _ _ q)

/-- Kinds removed from one port's set. -/
theorem State.clearKinds_holdersAndSets {c : Instr} (s : State) (p : Port) (kinds : EventMask) :
    HoldersAndSets c s (s.clearKinds p kinds) := by
  refine ⟨fun _ => .inl rfl, fun q valid => ?_⟩
  by_cases same : p = q
  · subst same
    simp only [State.clearKinds, ByPort.get_set_self]
    exact maskValid_and_left _ valid
  · simpa only [State.clearKinds, ByPort.get_set_other _ _ same] using valid

/-- A holder set moves no other group's. -/
theorem HoldersAndSets.setHolder {c : Instr} {s : State} {g : Group} {x : Option Port}
    (own : HolderMoves c s (s.setHolder g x) g) : HoldersAndSets c s (s.setHolder g x) := by
  refine ⟨fun k => ?_, fun _ => id⟩
  by_cases same : g = k
  · exact same ▸ own
  · exact .inl (by rw [State.setHolder_groups, Table.get_modify_other _ _ same])

theorem State.setHolder_holder (s : State) (g : Group) (x : Option Port) :
    ((s.setHolder g x).groups.get g).holder = x := by
  rw [State.setHolder_groups, Table.get_modify_self]

/-! ### The writes, the sockets and the engine's events -/

theorem State.askChannels_gates_groups_events (chosen : Channel → Bool) (s : State) :
    ((s.askChannels chosen).gates, (s.askChannels chosen).groups, (s.askChannels chosen).events) =
      (s.gates, s.groups, s.events) := by
  unfold State.askChannels
  induction (List.finRange 16).filter chosen generalizing s with
  | nil => rfl
  | cons n ns ih => rw [List.foldl_cons, ih]; rfl

section

variable {kinds : EventMask} {s t : State}

theorem Quiet.storeStation (k : Station) (r : StationRec) : Quiet kinds s (s.storeStation k r) := by
  unfold State.storeStation
  refine .ite (.same rfl) (.same ?_)
  rw [Prod.mk.injEq]
  exact Prod.mk.inj (Prod.mk.inj (State.askChannels_gates_groups_events _ (s.onSettings _))).2

theorem Quiet.storeZone (j : Zone) (r : ZoneRec) : Quiet kinds s (s.storeZone j r) := .ite (.same rfl) (.same rfl)

theorem Quiet.moveWindow (h : Quiet kinds s t) (n : Channel) (c : ChannelRec) : Quiet kinds s (t.moveWindow n c) := by
  have cleared : Quiet kinds s { t with delay := t.delay.newWindow c n } := h.move rfl
  exact (cleared.frame (f := fun m => (m.unwait n).setState n .parked)
    (((Mix.Frame.refl ..).unwait n).setState n _)).move rfl

theorem Quiet.storeChannel (n : Channel) (r : ChannelRec) : Quiet kinds s (s.storeChannel n r) := by
  unfold State.storeChannel State.autoPowerOn
  extract_lets before stored moved
  have storedQuiet : Quiet kinds s stored := .same rfl
  have movedQuiet : Quiet kinds s moved := .ite storedQuiet (storedQuiet.moveWindow n r)
  exact .ite (movedQuiet.move rfl) movedQuiet

variable (may : Mix.PostsGates kinds)
include may

theorem Quiet.groupDisabled (h : Quiet kinds s t) (g : Group) : Quiet kinds s (t.groupDisabled g) := by
  refine .parkIneligible may (.group h g ?_) _
  exact fun _ => rfl

theorem Quiet.groupResized (h : Quiet kinds s t) (g : Group) (before after : Nat) :
    Quiet kinds s (t.groupResized g before after) :=
  .ite h (.ite (h.frame ((Mix.Frame.refl ..).offer may _ g))
    (h.frame (((Mix.Frame.refl ..).fitAuto may _ g _).offer may _ g)))

theorem Quiet.groupHoldCleared (h : Quiet kinds s t) (g : Group) : Quiet kinds s (t.groupHoldCleared g) :=
  h.frame (((Mix.Frame.refl ..).dropLastOn may g).offer may _ g)

theorem Quiet.groupEffects (h : Quiet kinds s t) (g : Group) (before after : GroupRec) :
    Quiet kinds s (t.groupEffects g before after) := by
  unfold State.groupEffects
  extract_lets disabled enabled resized released
  have disabledQuiet : Quiet kinds s disabled := .ite (h.groupDisabled may g) h
  have enabledQuiet : Quiet kinds s enabled := .ite (disabledQuiet.reEvaluateAll may _) disabledQuiet
  have resizedQuiet : Quiet kinds s resized := enabledQuiet.groupResized may g _ _
  have releasedQuiet : Quiet kinds s released := .ite (resizedQuiet.groupHoldCleared may g) resizedQuiet
  exact .ite releasedQuiet (releasedQuiet.move rfl)

theorem Quiet.storeGroup (k : Arrangement) (g : Group) (r : GroupRec) : Quiet kinds s (s.storeGroup k g r) := by
  unfold State.storeGroup
  have stored : Quiet kinds s (s.onSettings (Settings.setGroup k g r)) := .same rfl
  exact .ite ((stored.groupEffects may g _ r).move rfl) stored

theorem Quiet.changeGroup (h : Quiet kinds s t) (n : Channel) : Quiet kinds s (t.changeGroup n) := by
  unfold State.changeGroup
  extract_lets left
  have leftQuiet : Quiet kinds s left :=
    (h.frame (f := Mix.leaveOldGroup t.settings n)
      (.ite ((Mix.Frame.refl ..).leave may _ n _) ((Mix.Frame.refl ..).unwait n))).move rfl
  have evaluated : Quiet kinds s ((left.askChannel n).reEvaluate n) := by
    refine Quiet.reEvaluate may (leftQuiet.trans ?_) n
    exact .same rfl
  exact evaluated.frame (.ite ((Mix.Frame.refl ..).askForced may _ n) (.refl ..))

theorem Quiet.storeMembership (k : Arrangement) (x : Zone ⊕ Channel) (g : Option Group) :
    Quiet kinds s (s.storeMembership k x g) := by
  unfold State.storeMembership
  have stored : Quiet kinds s (s.onSettings (Settings.setMembership k x g)) := .same rfl
  refine .ite stored ?_
  cases x with
  | inl j => exact stored.move rfl
  | inr n => exact (stored.changeGroup may n).move rfl

theorem Quiet.storeContactIn (k : ContactIn) (b : ContactBinding) : Quiet kinds s (s.storeContactIn k b) := by
  unfold State.storeContactIn
  have stored : Quiet kinds s (s.onSettings fun c => { c with contactIn := c.contactIn.set k b }) := .same rfl
  exact ((stored.reAct may _).reAct may b.action).move rfl

theorem Quiet.socketEvent (h : Quiet kinds s t) (n : Channel) (before : State) :
    Quiet kinds s (t.socketEvent n before) :=
  (h.reEvaluate may n).move rfl

theorem Quiet.applyContact (h : Quiet kinds s t) (changed : EventKind.arrangementChanged.mask &&& ~~~kinds = 0)
    (k : ContactIn) : Quiet kinds s (t.applyContact k) := by
  unfold State.applyContact
  split
  · exact .ite (h.moveTo may _ _) h
  · exact .ite (h.switchTo may changed _) h
  · exact h.reAct may _

theorem Quiet.enterStandby : Quiet kinds s s.enterStandby := by
  unfold State.enterStandby
  extract_lets silenced told
  have toldQuiet : Quiet kinds s told := (Quiet.groups (t := s) (.refl ..) (f := fun _ x => { x with waiting := [] })
    fun _ _ => rfl).move rfl
  refine (toldQuiet.parkIneligible may (List.finRange 16)).move ?_
  rw [State.settleClock_groups, State.settleClock_events]

theorem Quiet.leaveStandby : Quiet kinds s s.leaveStandby := by
  unfold State.leaveStandby
  extract_lets told
  have toldQuiet : Quiet kinds s (told.retargetClock fun j => (s.zones.get j).standby) := .same rfl
  refine (toldQuiet.reEvaluateAll may (List.finRange 16)).move ?_
  rw [State.settle_groups, State.settle_events]

end

section

variable {kinds : EventMask} {s t : State}

/-! The operations that move neither groups nor sticky sets. -/

section
variable (h : Quiet kinds s t)
include h

theorem Quiet.settle (before : State) : Quiet kinds s (t.settle before) := h.move rfl
theorem Quiet.settleClock (before : State) (z : Zone → Bool) : Quiet kinds s (t.settleClock before z) := h.move rfl
theorem Quiet.onSocket (n : Channel) (f : Socket → Socket) : Quiet kinds s (t.onSocket n f) := h.move rfl
theorem Quiet.setPhase (n : Channel) (ph : SocketPhase) : Quiet kinds s (t.setPhase n ph) := h.move rfl
theorem Quiet.onZones (f : Zone → ZoneState → ZoneState) : Quiet kinds s (t.onZones f) := h.move rfl
theorem Quiet.onOverride (f : Override → Override) : Quiet kinds s (t.onOverride f) := h.move rfl
theorem Quiet.takeOver (z : Zone → Bool) : Quiet kinds s (t.takeOver z) := h.move rfl
theorem Quiet.onClock (f : Clock → Clock) : Quiet kinds s (t.onClock f) := h.move rfl
theorem Quiet.onContact (k : ContactIn) (f : Contact → Contact) : Quiet kinds s (t.onContact k f) := h.move rfl
theorem Quiet.onCrosspoints (f : Nat → Crosspoint → Crosspoint) : Quiet kinds s (t.onCrosspoints f) := h.move rfl
theorem Quiet.tick : Quiet kinds s t.tick :=
  h.trans ⟨fun _ => rfl, fun p => by rw [State.tick, ByPort.get_map]; rfl⟩

theorem Quiet.sendFeeds (clipped : EventKind.zoneClipped.mask &&& ~~~kinds = 0) : Quiet kinds s t.sendFeeds := by
  unfold State.sendFeeds
  refine .ite (.post ?_ clipped) ?_
  all_goals exact h.move rfl

theorem Quiet.reportTemperature (v : Int) : Quiet kinds s (t.reportTemperature v) := by
  unfold State.reportTemperature
  exact .ite (h.move rfl) (h.move rfl)

end

theorem Quiet.endPulse (h : Quiet kinds s t) (p : Port) : Quiet kinds s (t.endPulse p) := by
  refine h.trans ⟨fun _ => rfl, fun q => ?_⟩
  by_cases same : p = q
  · subst same
    simp only [State.endPulse, ByPort.get_set_self]
    rfl
  · simp only [State.endPulse, ByPort.get_set_other _ _ same]
    rfl

theorem Quiet.nextItem (h : Quiet kinds s t) (idle : EventKind.queueIdle.mask &&& ~~~kinds = 0) :
    Quiet kinds s t.nextItem := by
  unfold State.nextItem
  split
  · refine .post ?_ idle
    exact h.move rfl
  · exact h.move rfl

theorem Quiet.deliverFull (h : Quiet kinds s t) (clamped : EventKind.clamped.mask &&& ~~~kinds = 0)
    (chosen : Channel → Bool) (result : Channel → Zone → Result) : Quiet kinds s (t.deliverFull chosen result) := by
  unfold State.deliverFull
  refine .ite (.post ?_ clamped) ?_
  all_goals exact h.move rfl

theorem Quiet.deliverLevels (h : Quiet kinds s t) {f : MemberInputs → Zone → Option Nat} (ms : List MemberInputs) :
    Quiet kinds s (ms.foldl (fun s m => s.deliverLevels m (f m)) t) := by
  induction ms generalizing t with
  | nil => exact h
  | cons m ms ih => exact ih (h.move rfl)

theorem Quiet.storeRouting (q : Port) (r : Routing) : Quiet kinds s (s.storeRouting q r) := by
  unfold State.storeRouting
  have stored : Quiet kinds s (s.onSettings fun c => { c with routing := c.routing.set q r }) := .same rfl
  exact .ite stored (stored.endPulse q)

end

theorem Act.holdersAndSets {c : Instr} {s t : State} (act : Act c s t) : HoldersAndSets c s t := by
  have may := Mix.postsGates_all
  have all (k : EventKind) : k.mask &&& ~~~EventMask.kinds = 0 := (maskValid_iff _).mp k.maskValid_mask
  have refl := Quiet.refl EventMask.kinds s
  cases act with
  | hold free => exact .setHolder (.inr (.inl ⟨_, _, rfl, free, s.setHolder_holder ..⟩))
  | release own => exact .setHolder (.inr (.inr (.inl ⟨_, _, rfl, own, s.setHolder_holder ..⟩)))
  | runtimeReset => exact .runtimeReset (.inr (.inl ⟨_, rfl⟩))
  | resetAtEnd => exact .runtimeReset (.inr (.inr ⟨_, rfl⟩))
  | powerOnReset => exact .reset (.inl rfl) (fun g => by simp [State.powerOn, GroupState.reset]) fun p => by simp [State.powerOn, PortEvents.restart]
  | @breakHold p body s g q =>
    have broken : HoldersAndSets (.breakHold p body) s (s.setHolder g none) :=
      .setHolder (.inr (.inr (.inr (.inl ⟨_, _, rfl, s.setHolder_holder ..⟩))))
    exact broken.trans ((Quiet.refl _ _).postTo q (all _))
  | clearEvents => exact s.clearKinds_holdersAndSets ..
  | forceEvents valid => exact (refl.postTo _ ((maskValid_iff _).mp valid)).holdersAndSets
  | faulted p => exact (refl.postTo p (all _)).holdersAndSets
  | station => exact Quiet.holdersAndSets (.storeStation ..)
  | zone => exact Quiet.holdersAndSets (.storeZone ..)
  | channel => exact Quiet.holdersAndSets (.storeChannel ..)
  | group => exact Quiet.holdersAndSets (.storeGroup may ..)
  | membership => exact Quiet.holdersAndSets (.storeMembership may ..)
  | contactIn => exact Quiet.holdersAndSets (.storeContactIn may ..)
  | routing => exact Quiet.holdersAndSets (.storeRouting ..)
  | system => exact Quiet.holdersAndSets (.ite (.same rfl) (.same rfl))
  | moveSource => exact ((refl.moveTo may _ _).settle s).holdersAndSets
  | gateMode => exact ((refl.setPortMode may _ _).settle s).holdersAndSets
  | temperature => exact (refl.reportTemperature _).holdersAndSets
  | temperatureClamped => exact ((refl.reportTemperature _).post (all _)).holdersAndSets
  | arrangement => exact ((refl.switchTo may (all _) _).settle s).holdersAndSets
  | socketRefused => exact (refl.post (all _)).holdersAndSets
  | socketOn | socketOff | resense => exact ((refl.onSocket _ _).socketEvent may _ s).holdersAndSets
  | @sensingEnd s n r =>
    have latched := (refl.setPhase n (.present (latchedClass r))).post (all .socketChange)
    exact (Quiet.socketEvent may (.ite latched (latched.onSocket _ _)) _ s).holdersAndSets
  | rampedUp | overcurrent => exact (((refl.setPhase _ _).post (all _)).socketEvent may _ s).holdersAndSets
  | @removal s n =>
    have emptied (f : Socket → Socket) := (refl.onSocket n f).post (all .socketChange)
    exact (Quiet.socketEvent may (.ite ((emptied _).post (all _)) (emptied _)) _ s).holdersAndSets
  | resume | deasserted =>
    refine Quiet.holdersAndSets (.settle (.post (.onZones (.onOverride ?_ _) _) (all _)) s)
    exact .same rfl
  | asserted =>
    exact ((((refl.onOverride _).onOverride _).takeOver _).post (all _) |>.settle s).holdersAndSets
  | standby => exact (Quiet.enterStandby may).holdersAndSets
  | wake => exact (Quiet.leaveStandby may).holdersAndSets
  | channelDropped | allDropped => exact (refl.nextItem (all _)).holdersAndSets
  | channelDelivered =>
    exact ((((refl.deliverFull (all _) _ _).reEvaluate may _).settle s).nextItem (all _)).holdersAndSets
  | allDelivered =>
    exact ((((refl.deliverFull (all _) _ _).reEvaluateAll may _).settle s).nextItem (all _)).holdersAndSets
  | groupDelivered => exact ((refl.deliverLevels _).nextItem (all _)).holdersAndSets
  | measurement => exact (refl.takeMeasurement may (all _) _ _).holdersAndSets
  | qualified | clockLost => exact ((refl.onClock _).post (all _)).holdersAndSets
  | clockSilenced => exact ((((refl.onClock _).post (all _)).onZones _).settleClock s _).holdersAndSets
  | contact => exact ((((refl.onContact _ _).post (all _)).applyContact may (all _) _).settle s).holdersAndSets
  | pulseEnd => exact (refl.endPulse _).holdersAndSets
  | output => exact ((((refl.onCrosspoints _).onCrosspoints _).sendFeeds (all _)).tick).holdersAndSets
  | _ => exact Quiet.holdersAndSets (.same rfl)

/-- Settles O60: every command's act says what it does to the holders. -/
theorem holdersChangeByHoldsAlone : Obligations.HoldersChangeByHoldsAlone := by
  unfold Obligations.HoldersChangeByHoldsAlone
  intro c s t g h
  obtain ⟨u, ports, act, rfl⟩ := exec_act h
  exact act.holdersAndSets.holders g

end Sys2Proof.Machine
end

section
/-! PROOFS. The ranges of the settings (R4, R72, R84, R102, R154, R196), the sticky sets and routing masks (R189, R190,
R193), and the request handlers (R173, R175, R180). -/

namespace Sys2Proof.Machine

open Sys2Proof.Safety

/-- A table with one record set keeps what every record of it and the new one keep. -/
theorem Table.forall_set {n : Nat} {α : Type} {P : α → Prop} {t : Table n α} {i : Fin n} {a : α} (h : ∀ k, P (t.get k))
    (new : P a) (k : Fin n) : P ((t.set i a).get k) := by
  rw [Table.get_set]
  split
  · exact new
  · exact h k

theorem ByPort.forall_set {α : Type} {P : α → Prop} {t : ByPort α} {p : Port} {a : α} (h : ∀ q, P (t.get q)) (new : P a)
    (q : Port) : P ((t.set p a).get q) := by
  by_cases same : p = q
  · subst same
    rwa [ByPort.get_set_self]
  · rw [ByPort.get_set_other _ _ same]
    exact h q

/-- The law of the retained settings looks at them alone, and not at which arrangement is active. -/
theorem settingsLaw_of_active {s t : State} {k : Arrangement} (law : SettingsLaw s)
    (h : t.settings = { s.settings with active := k }) : SettingsLaw t := by
  unfold SettingsLaw at *
  rw [h]
  exact law

theorem Act.settingsLaw {c : Instr} {s t : State} (act : Act c s t) (law : SettingsLaw s) : SettingsLaw t := by
  have moved := act.settings
  obtain ⟨zones, channels, groups, profiles, contacts, system⟩ := id law
  unfold SettingsLaw
  cases act with
  | zone freeze range =>
    simp only [← State.ground_settings, State.storeZone_ground]
    exact ⟨Table.forall_set zones range, channels, groups, profiles, contacts, system⟩
  | channel freeze window range =>
    simp only [← State.ground_settings, State.storeChannel_ground]
    exact ⟨zones, Table.forall_set channels range, groups, profiles, contacts, system⟩
  | group size range =>
    simp only [← State.ground_settings, State.storeGroup_ground]
    refine ⟨zones, channels, ?_, profiles, contacts, system⟩
    exact Table.forall_set (P := fun t : Table 6 GroupRec => ∀ g, GroupInRange (t.get g)) groups
      (Table.forall_set (groups _) range)
  | profile range => exact ⟨zones, channels, groups, Table.forall_set (P := fun v => 240 ≤ v ∧ v ≤ 9600) profiles range, contacts, system⟩
  | contactIn range =>
    simp only [← State.ground_settings, State.storeContactIn_ground]
    exact ⟨zones, channels, groups, profiles,
      Table.forall_set (P := fun b : ContactBinding => 10 ≤ b.debounceMs ∧ b.debounceMs ≤ 500) contacts range, system⟩
  | system range =>
    simp only [← State.ground_settings, State.storeSystem_ground]
    exact ⟨zones, channels, groups, profiles, contacts, range⟩
  | station => simp only [← State.ground_settings, State.storeStation_ground]; exact law
  | routing => simp only [← State.ground_settings, State.storeRouting_ground]; exact law
  | contactOut | nothing | faulted | measurement => exact law
  | @membership _ _ _ _ k x g =>
    simp only [← State.ground_settings, State.storeMembership_ground]
    cases x <;> exact law
  | _ =>
    obtain h | ⟨k, h, -⟩ | ⟨-, p, index, entry, h⟩ := moved
    · rw [h]; exact law
    · exact settingsLaw_of_active law h
    · simp at h

/-- A routing mask of an act is the stored one or one that has been checked (R193). -/
theorem Act.routingMasks {c : Instr} {s t : State} (act : Act c s t)
    (law : ∀ p, maskValid (s.settings.routing.get p).mask = true) (p : Port) :
    maskValid (t.settings.routing.get p).mask = true := by
  have moved := act.settings
  cases act with
  | routing range =>
    simp only [← State.ground_settings, State.storeRouting_ground]
    exact ByPort.forall_set (P := fun r : Routing => maskValid r.mask = true) law range p
  | @membership _ _ _ _ k x g =>
    simp only [← State.ground_settings, State.storeMembership_ground]
    cases x <;> exact law p
  | station | zone | channel | group | contactIn | system =>
    simpa [← State.ground_settings, State.storeContactIn_ground, Settings.setGroup] using law p
  | profile | contactOut | nothing | faulted | measurement => exact law p
  | _ =>
    obtain h | ⟨k, h, -⟩ | ⟨-, q, index, entry, h⟩ := moved
    · rw [h]; exact law p
    · rw [h]; exact law p
    · simp at h

theorem Act.eventLaw {c : Instr} {s t : State} (act : Act c s t) (law : EventLaw s) : EventLaw t := fun p =>
  ⟨act.holdersAndSets.sticky p (law p).1, act.routingMasks (fun q => (law q).2) p⟩

theorem handlerLaw_restart {x : Handler} (law : HandlerLaw x) : HandlerLaw x.restart := by
  cases x with
  | receiving => trivial
  | _ => exact law

theorem handlerLaw_tick {x : Handler} (law : HandlerLaw x) : HandlerLaw x.tick := by
  cases x <;> exact law

theorem Act.portLaw {c : Instr} {s t : State} (act : Act c s t) (law : PortLaw s) : PortLaw t := by
  simp only [PortLaw, ← State.ground_ports] at *
  cases act with
  | runtimeReset | resetAtEnd =>
    rw [State.runtimeReset_ground]
    exact ByPort.forall_set (fun q => by rw [ByPort.get_map]; exact handlerLaw_restart (law q)) trivial
  | powerOnReset | held => exact fun p => by cases p <;> trivial
  | output =>
    intro p
    simp only [State.tick_ground, ByPort.get_map]
    exact handlerLaw_tick (by simpa [← State.ground_ports] using law p)
  | contactIn => rw [State.storeContactIn_ground]; exact law
  | @contact s k =>
    obtain h | h | ⟨a, h⟩ := State.applyContact_ground
      ((s.onContact k fun c => { c with debounced := c.raw, debounce := none }).post .contactChange) k <;>
    · rw [State.settle_ground, h]
      exact law
  | sensingEnd | removal =>
    rw [State.socketEvent_ground]
    split <;> exact law
  | nothing | freeze | input => exact law
  | _ => simpa using law

/-- Settles O57: the settings and the sets by every command's act, the handlers by the command itself. -/
theorem everyStepKeepsFieldsInRange : Obligations.EveryStepKeepsFieldsInRange := by
  unfold Obligations.EveryStepKeepsFieldsInRange
  refine ⟨fun s t h => ⟨fun law => ?_, fun law => ?_⟩, fun s t law h => ?_⟩
  · exact step_keeps (P := SettingsLaw) (fun _ _ => id) (fun _ _ => id) Act.settingsLaw law h
  · exact step_keeps (P := EventLaw) (fun _ _ => id) (fun _ _ => id) Act.eventLaw law h
  · unfold step at h
    split at h
    case h_1 => cases h; exact law
    case h_2 c rest front =>
      obtain ⟨u, act, rfl | ⟨p, x, own, rfl⟩⟩ := exec_acts h
      · exact act.portLaw (s := s.setPending rest) law
      · exact ByPort.forall_set (act.portLaw (s := s.setPending rest) law) (own law)

end Sys2Proof.Machine
end

section
/-! SUPPORT. The open sets and the gates in the midst of an event: the law that every operation of the arbiter keeps, from
which R86 to R90, R93, R95, R110, R112, R115 and R116 follow once the event has ended. Two things may be behind within an
event: a channel may be not PARKED and not eligible, or CLOSED in FORCE_OPEN and on no list. -/

namespace Sys2Proof.Machine

open Sys2Proof.Safety

/-! ### Members -/

theorem GroupState.holds_iff (x : GroupState) (n : Channel) : x.holds n = true ↔ ∃ y ∈ x.members, y.channel = n := by
  simp [GroupState.holds]

theorem memberGroup_eq_none (groups : Table 6 GroupState) (n : Channel) :
    memberGroup groups n = none ↔ ∀ g, ∀ y ∈ (groups.get g).members, y.channel ≠ n := by
  simp [memberGroup, GroupState.holds]

theorem holds_of_memberGroup {groups : Table 6 GroupState} {n : Channel} {g : Group} (h : memberGroup groups n = some g) :
    ∃ y ∈ (groups.get g).members, y.channel = n :=
  (GroupState.holds_iff _ _).mp (by simpa using List.find?_some h)

/-- A channel that is a member of one set alone is found there. -/
theorem memberGroup_eq_some {groups : Table 6 GroupState} {n : Channel} {g : Group}
    (mem : ∃ y ∈ (groups.get g).members, y.channel = n)
    (alone : ∀ h, (∃ y ∈ (groups.get h).members, y.channel = n) → h = g) : memberGroup groups n = some g := by
  cases found : memberGroup groups n with
  | none =>
    obtain ⟨y, member, same⟩ := mem
    exact absurd same ((memberGroup_eq_none groups n).mp found g y member)
  | some h => rw [alone h (holds_of_memberGroup found)]

/-- A set fits (R110, R115): no more members than max open, and, while channels wait, as many, all FORCED. -/
structure GroupState.Fits (maxOpen : Nat) (x : GroupState) : Prop where
  bound : x.members.length ≤ maxOpen
  full : x.waiting ≠ [] → maxOpen ≤ x.members.length ∧ ∀ y ∈ x.members, y.kind = .forced

/-! ### The quietest AUTO member (R106, R113) -/

namespace Mix

theorem quietest_concat (ms : List Member) (y : Member) : quietest (ms ++ [y]) =
    if y.kind = .auto then
      match quietest ms with
      | none => some y
      | some b => if b.latest < y.latest then some y else some b
    else quietest ms := by
  rw [quietest, List.foldl_concat]
  rfl

theorem quieterThan_append {ms : List Member} {b k : Member} (h : QuieterThan ms b k) (y : Member) :
    QuieterThan (ms ++ [y]) b k :=
  h.imp_right fun ⟨same, before⟩ => ⟨same, before.trans (List.sublist_append_left _ _)⟩

/-- Where there is no quietest AUTO member there is no AUTO member. -/
theorem kind_of_quietest_none {ms : List Member} (h : quietest ms = none) : ∀ k ∈ ms, k.kind = .forced := by
  induction ms using List.reverseRecOn with
  | nil => simp
  | append_singleton ms y ih =>
    rw [quietest_concat] at h
    cases kind : y.kind with
    | auto =>
      rw [if_pos kind] at h
      split at h
      · cases h
      · split at h <;> cases h
    | forced =>
      rw [if_neg (by simp [kind])] at h
      simp only [List.mem_append, List.mem_singleton]
      rintro k (old | rfl)
      · exact ih h k old
      · exact kind

/-- The quietest AUTO member is an AUTO member, and every other one is louder or as quiet and entered later (R106,
R113). -/
theorem quietest_some {ms : List Member} {b : Member} (h : quietest ms = some b) :
    b ∈ ms ∧ b.kind = .auto ∧ ∀ k ∈ ms, k.kind = .auto → k ≠ b → QuieterThan ms b k := by
  induction ms using List.reverseRecOn generalizing b with
  | nil => cases h
  | append_singleton ms y ih =>
    rw [quietest_concat] at h
    simp only [List.mem_append, List.mem_singleton]
    cases kind : y.kind with
    | forced =>
      rw [if_neg (by simp [kind])] at h
      obtain ⟨member, auto, least⟩ := ih h
      refine ⟨.inl member, auto, ?_⟩
      rintro k (old | rfl) kAuto other
      · exact quieterThan_append (least k old kAuto other) y
      · rw [kind] at kAuto; cases kAuto
    | auto =>
      rw [if_pos kind] at h
      split at h
      case h_1 none =>
        cases h
        refine ⟨.inr rfl, kind, ?_⟩
        rintro k (old | rfl) kAuto other
        · rw [kind_of_quietest_none none k old] at kAuto; cases kAuto
        · exact absurd rfl other
      case h_2 best found =>
        obtain ⟨member, auto, least⟩ := ih found
        split at h
        case isTrue louder =>
          cases h
          refine ⟨.inr rfl, kind, ?_⟩
          rintro k (old | rfl) kAuto other
          · refine .inl (Nat.lt_of_le_of_lt ?_ louder)
            by_cases same : k = best
            · rw [same]
            · obtain less | ⟨equal, -⟩ := least k old kAuto same
              · exact less.le
              · exact equal.le
          · exact absurd rfl other
        case isFalse notLouder =>
          cases h
          refine ⟨.inl member, auto, ?_⟩
          rintro k (old | rfl) kAuto other
          · exact quieterThan_append (least k old kAuto other) y
          · obtain less | equal := Nat.lt_or_eq_of_le (Nat.not_lt.mp notLouder)
            · exact .inl less
            · refine .inr ⟨equal, ?_⟩
              exact List.Sublist.append (List.singleton_sublist.mpr member) (List.Sublist.refl [k])

/-! ### What the operations make of groups and gates -/

section
variable (m : Mix)

@[simp] theorem unwait_groups_get (n : Channel) (g : Group) : (m.unwait n).groups.get g =
    { m.groups.get g with waiting := (m.groups.get g).waiting.filter fun w => w != n } := by
  simp [unwait]

theorem join_groups_get_self (g : Group) (n : Channel) (k : EntryKind) : (m.join g n k).groups.get g =
    { m.groups.get g with
      members := (m.groups.get g).members ++ [⟨n, k, (m.gates.get n).latest⟩]
      waiting := (m.groups.get g).waiting.filter fun w => w != n } := by
  simp [join]

theorem join_groups_get_other {g h : Group} (n : Channel) (k : EntryKind) (other : g ≠ h) :
    (m.join g n k).groups.get h =
      { m.groups.get h with waiting := (m.groups.get h).waiting.filter fun w => w != n } := by
  simp [join, Table.get_modify_other _ _ other]

theorem enqueueWaiting_groups_get_self (g : Group) (n : Channel) : (m.enqueueWaiting g n).groups.get g =
    { m.groups.get g with waiting := if n ∈ (m.groups.get g).waiting then (m.groups.get g).waiting
      else (m.groups.get g).waiting ++ [n] } := by
  simp only [enqueueWaiting, onGroup_groups, Table.get_modify_self, List.contains_iff_mem]
  split <;> rfl

theorem enqueueWaiting_groups_get_other {g h : Group} (n : Channel) (other : g ≠ h) :
    (m.enqueueWaiting g n).groups.get h = m.groups.get h := by
  simp [enqueueWaiting, Table.get_modify_other _ _ other]

@[simp] theorem enqueueWaiting_gates (g : Group) (n : Channel) : (m.enqueueWaiting g n).gates = m.gates := rfl

variable {m} in
theorem evict_groups_get_self {n : Channel} {g : Group} (h : memberGroup m.groups n = some g) (st : GateState) :
    (m.evict n st).groups.get g = { m.groups.get g with members := without n (m.groups.get g).members } := by
  simp [evict, h]

variable {m} in
theorem evict_groups_get_other {n : Channel} {g k : Group} (h : memberGroup m.groups n = some g) (st : GateState)
    (other : g ≠ k) : (m.evict n st).groups.get k = m.groups.get k := by
  simp [evict, h, Table.get_modify_other _ _ other]

variable {m} in
theorem evict_of_none {n : Channel} (h : memberGroup m.groups n = none) (st : GateState) :
    m.evict n st = m.setState n st := by
  simp [evict, h]

@[simp] theorem setKind_groups_get (n : Channel) (k : EntryKind) (g : Group) : (m.setKind n k).groups.get g =
    { m.groups.get g with
      members := (m.groups.get g).members.map fun y => if y.channel = n then { y with kind := k } else y } := by
  simp [setKind]

theorem setState_get (n k : Channel) (st : GateState) : (m.setState n st).gates.get k =
    if n = k then { m.gates.get k with state := st, holdCounter := 0 } else m.gates.get k := by
  split
  case isTrue h => subst h; exact setState_get_self n st m
  case isFalse h => exact setState_get_other st m h

theorem evict_get (n k : Channel) (st : GateState) : (m.evict n st).gates.get k =
    if n = k then { m.gates.get k with state := st, holdCounter := 0 } else m.gates.get k := by
  split
  case isTrue h => subst h; exact evict_get_self n st m
  case isFalse h => exact evict_get_other st m h

theorem join_get (g : Group) (n k : Channel) (kind : EntryKind) : (m.join g n kind).gates.get k =
    if n = k then { m.gates.get k with state := .opened, holdCounter := 0 } else m.gates.get k := by
  split
  case isTrue h => subst h; exact join_get_self g n kind m
  case isFalse h => exact join_get_other g kind m h

end

end Mix

/-! ### The law of the gates and the sets within an event -/

/-- What one gate keeps by itself (R86, R89, R93, R95); `ok` says that its channel may be other than PARKED. -/
structure Gate.Lawful (ok : Prop) (g : Gate) : Prop where
  counts : g.state = .holding → 1 ≤ g.holdCounter
  rests : g.state ≠ .holding → g.holdCounter = 0
  sounds : sounding g.state = true → g.mode ≠ .forceClosed
  auto : g.state = .holding ∨ g.state = .lastOn → g.mode = .auto
  ok : g.state ≠ .parked → ok

theorem Gate.lawful_of_resting {ok : Prop} {g : Gate} {st : GateState} (silent : st = .closed ∨ st = .parked)
    (eligible : st = .closed → ok) : Gate.Lawful ok { g with state := st, holdCounter := 0 } where
  counts := by rintro rfl; simp at silent
  rests _ := rfl
  sounds h := by obtain rfl | rfl := silent <;> cases h
  auto h := by obtain rfl | rfl := silent <;> simp at h
  ok h := by obtain rfl | rfl := silent <;> [exact eligible rfl; exact absurd rfl h]

theorem Gate.lawful_opened {ok : Prop} {g : Gate} (mode : g.mode ≠ .forceClosed) (eligible : ok) :
    Gate.Lawful ok { g with state := .opened, holdCounter := 0 } where
  counts := nofun
  rests _ := rfl
  sounds _ := mode
  auto h := by simp at h
  ok _ := eligible

namespace Mix

/-- The law of gates and sets within an event. `grp` gives each channel's group, `ok` the channels that may be other than
PARKED, and `due` those that must be on their group's forced-wait list when they are CLOSED in FORCE_OPEN. -/
structure Law (grp : Channel → Option Group) (ok due : Channel → Prop) (m : Mix) : Prop where
  gate : ∀ n, (m.gates.get n).Lawful (ok n)
  nodup : ∀ g, ((m.groups.get g).members.map Member.channel).Nodup
  own : ∀ g, ∀ y ∈ (m.groups.get g).members, grp y.channel = some g
  sounds : ∀ g, ∀ y ∈ (m.groups.get g).members, sounding (m.gates.get y.channel).state = true
  kind : ∀ g, ∀ y ∈ (m.groups.get g).members, y.kind = .forced ↔ (m.gates.get y.channel).mode = .forceOpen
  lastOn : ∀ g, ∀ y ∈ (m.groups.get g).members, (m.gates.get y.channel).state = .lastOn → (m.groups.get g).members = [y]
  held : ∀ n, sounding (m.gates.get n).state = true → ∃ g, ∃ y ∈ (m.groups.get g).members, y.channel = n
  queue : ∀ g, (m.groups.get g).waiting.Nodup
  waits : ∀ g, ∀ n ∈ (m.groups.get g).waiting,
    (m.gates.get n).state = .closed ∧ (m.gates.get n).mode = .forceOpen ∧ grp n = some g
  complete : ∀ n g, due n → (m.gates.get n).state = .closed → (m.gates.get n).mode = .forceOpen → grp n = some g →
    n ∈ (m.groups.get g).waiting

namespace Law

variable {grp : Channel → Option Group} {ok due : Channel → Prop} {m : Mix} {n : Channel} {g h : Group}

theorem mono {ok' due' : Channel → Prop} (law : m.Law grp ok due) (oks : ∀ n, ok n → ok' n) (dues : ∀ n, due' n → due n) :
    m.Law grp ok' due' :=
  { law with
    gate := fun n => { law.gate n with ok := fun up => oks n ((law.gate n).ok up) }
    complete := fun n g d => law.complete n g (dues n d) }

theorem memberGroup_eq (law : m.Law grp ok due) {y : Member} (member : y ∈ (m.groups.get g).members) :
    memberGroup m.groups y.channel = some g := by
  refine memberGroup_eq_some ⟨y, member, rfl⟩ ?_
  rintro h ⟨z, other, same⟩
  have := law.own g y member
  rw [← same, law.own h z other] at this
  exact Option.some.inj this

theorem sounding_of_memberGroup (law : m.Law grp ok due) (found : memberGroup m.groups n = some g) :
    sounding (m.gates.get n).state = true ∧ grp n = some g := by
  obtain ⟨y, member, rfl⟩ := holds_of_memberGroup found
  exact ⟨law.sounds g y member, law.own g y member⟩

theorem memberGroup_eq_none_iff (law : m.Law grp ok due) :
    memberGroup m.groups n = none ↔ sounding (m.gates.get n).state = false := by
  constructor
  · intro none
    rw [← Bool.not_eq_true]
    intro sounds
    obtain ⟨g, y, member, same⟩ := law.held n sounds
    exact (memberGroup_eq_none _ _).mp none g y member same
  · intro silent
    rw [memberGroup_eq_none]
    rintro g y member rfl
    rw [law.sounds g y member] at silent
    cases silent

theorem memberGroup_isSome (law : m.Law grp ok due) (sounds : sounding (m.gates.get n).state = true) :
    ∃ g, memberGroup m.groups n = some g ∧ grp n = some g := by
  obtain ⟨g, y, member, rfl⟩ := law.held n sounds
  exact ⟨g, law.memberGroup_eq member, law.own g y member⟩

/-- A silent gate's channel is no member. -/
theorem channel_ne_of_silent (law : m.Law grp ok due) (silent : sounding (m.gates.get n).state = false) {y : Member}
    (member : y ∈ (m.groups.get g).members) : y.channel ≠ n := by
  rintro rfl
  rw [law.sounds g y member] at silent
  cases silent

/-- A channel that is not CLOSED is on no list. -/
theorem not_mem_waiting (law : m.Law grp ok due) (other : (m.gates.get n).state ≠ .closed) (g : Group) :
    n ∉ (m.groups.get g).waiting := fun listed => other (law.waits g n listed).1

theorem filter_waiting_of_not_mem {ws : List Channel} (h : n ∉ ws) : ws.filter (fun w => w != n) = ws :=
  List.filter_eq_self.mpr fun w listed => by
    simp only [bne_iff_ne]
    rintro rfl
    exact h listed

/-- Taking a channel that is on no list off the lists changes nothing. -/
theorem unwait_eq_self (listed : ∀ g, n ∉ (m.groups.get g).waiting) : m.unwait n = m := by
  have groups : (m.unwait n).groups = m.groups := Table.ext_get fun g => by
    rw [unwait_groups_get, filter_waiting_of_not_mem (listed g)]
  cases m
  simp only [Mix.unwait] at groups ⊢
  rw [groups]

/-- A member leaves its set for CLOSED or PARKED (R94 to R96). -/
theorem evict (law : m.Law grp ok due) (found : memberGroup m.groups n = some g) {st : GateState}
    (silent : st = .closed ∨ st = .parked) (free : st = .closed → due n → (m.gates.get n).mode ≠ .forceOpen) :
    (m.evict n st).Law grp ok due := by
  obtain ⟨sounds, group⟩ := law.sounding_of_memberGroup found
  have notSounding : sounding st = false := by obtain rfl | rfl := silent <;> rfl
  have members (k : Group) (y : Member) : y ∈ ((m.evict n st).groups.get k).members ↔
      y ∈ (m.groups.get k).members ∧ y.channel ≠ n := by
    by_cases same : g = k
    · subst same
      rw [evict_groups_get_self found]
      simp
    · rw [evict_groups_get_other found st same]
      refine ⟨fun member => ⟨member, ?_⟩, And.left⟩
      rintro rfl
      exact same (Option.some.inj (group.symm.trans (law.own k y member)))
  have waiting (k : Group) : ((m.evict n st).groups.get k).waiting = (m.groups.get k).waiting := by
    by_cases same : g = k
    · subst same; rw [evict_groups_get_self found]
    · rw [evict_groups_get_other found st same]
  have gates (k : Channel) (other : k ≠ n) : (m.evict n st).gates.get k = m.gates.get k :=
    evict_get_other st m (Ne.symm other)
  refine ⟨fun k => ?_, fun k => ?_, fun k y member => ?_, fun k y member => ?_, fun k y member => ?_,
    fun k y member lastOn => ?_, fun k sounding => ?_, fun k => ?_, fun k l listed => ?_, fun l k d closed forced own => ?_⟩
  · by_cases same : k = n
    · subst same
      rw [evict_get_self]
      exact Gate.lawful_of_resting silent fun _ => (law.gate k).ok (by rintro e; rw [e] at sounds; cases sounds)
    · rw [gates k same]
      exact law.gate k
  · by_cases same : g = k
    · subst same
      rw [evict_groups_get_self found]
      exact (law.nodup g).sublist (List.filter_sublist.map _)
    · rw [evict_groups_get_other found st same]
      exact law.nodup k
  · exact law.own k y ((members k y).mp member).1
  · obtain ⟨member, other⟩ := (members k y).mp member
    rw [gates _ other]
    exact law.sounds k y member
  · obtain ⟨member, other⟩ := (members k y).mp member
    rw [gates _ other]
    exact law.kind k y member
  · obtain ⟨member, other⟩ := (members k y).mp member
    rw [gates _ other] at lastOn
    have alone := law.lastOn k y member lastOn
    by_cases same : g = k
    · subst same
      rw [evict_groups_get_self found, alone]
      simp [other]
    · rw [evict_groups_get_other found st same, alone]
  · by_cases same : k = n
    · subst same
      rw [evict_get_self] at sounding
      rw [notSounding] at sounding
      cases sounding
    · rw [gates k same] at sounding
      obtain ⟨l, y, member, rfl⟩ := law.held k sounding
      exact ⟨l, y, (members l y).mpr ⟨member, same⟩, rfl⟩
  · rw [waiting]
    exact law.queue k
  · rw [waiting] at listed
    have other : l ≠ n := by
      rintro rfl
      rw [(law.waits k l listed).1] at sounds
      cases sounds
    rw [gates l other]
    exact law.waits k l listed
  · rw [waiting]
    by_cases same : l = n
    · subst same
      rw [evict_get_self] at closed forced
      exact absurd forced (free closed d)
    · rw [gates l same] at closed forced
      exact law.complete l k d closed forced own

/-- A channel is taken off the lists (R115). -/
theorem unwait (law : m.Law grp ok due)
    (free : due n → (m.gates.get n).state = .closed → (m.gates.get n).mode ≠ .forceOpen) :
    (m.unwait n).Law grp ok due := by
  refine ⟨law.gate, fun g => ?_, fun g => ?_, fun g => ?_, fun g => ?_, fun g => ?_, fun k sounds => ?_, fun g => ?_,
    fun g k listed => ?_, fun k g d closed forced own => ?_⟩
  · simpa using law.nodup g
  · simpa using law.own g
  · simpa using law.sounds g
  · simpa using law.kind g
  · simpa using law.lastOn g
  · simpa using law.held k sounds
  · simpa using (law.queue g).filter _
  · simp only [unwait_groups_get, List.mem_filter] at listed
    exact law.waits g k listed.1
  · simp only [unwait_groups_get, List.mem_filter, bne_iff_ne]
    refine ⟨law.complete k g d closed forced own, ?_⟩
    rintro rfl
    exact free d closed forced

/-- A channel that is no member becomes CLOSED or PARKED. -/
theorem rest (law : m.Law grp ok due) (silent : sounding (m.gates.get n).state = false) {st : GateState}
    (resting : st = .closed ∨ st = .parked) (eligible : st = .closed → ok n)
    (unlisted : st = .parked → ∀ g, n ∉ (m.groups.get g).waiting)
    (free : st = .closed → due n → (m.gates.get n).mode ≠ .forceOpen) : (m.setState n st).Law grp ok due := by
  have notSounding : sounding st = false := by obtain rfl | rfl := resting <;> rfl
  have gates (k : Channel) (other : k ≠ n) : (m.setState n st).gates.get k = m.gates.get k :=
    setState_get_other st m (Ne.symm other)
  refine ⟨fun k => ?_, law.nodup, law.own, fun g y member => ?_, fun g y member => ?_, fun g y member lastOn => ?_,
    fun k sounds => ?_, law.queue, fun g k listed => ?_, fun k g d closed forced own => ?_⟩
  · by_cases same : k = n
    · subst same
      rw [setState_get_self]
      exact Gate.lawful_of_resting resting eligible
    · rw [gates k same]
      exact law.gate k
  · rw [gates _ (law.channel_ne_of_silent silent member)]
    exact law.sounds g y member
  · rw [gates _ (law.channel_ne_of_silent silent member)]
    exact law.kind g y member
  · rw [gates _ (law.channel_ne_of_silent silent member)] at lastOn
    exact law.lastOn g y member lastOn
  · by_cases same : k = n
    · subst same
      rw [setState_get_self, notSounding] at sounds
      cases sounds
    · rw [gates k same] at sounds
      exact law.held k sounds
  · by_cases same : k = n
    · subst same
      rw [setState_get_self]
      obtain rfl | rfl := resting
      · exact ⟨rfl, (law.waits g k listed).2⟩
      · exact absurd listed (unlisted rfl g)
    · rw [gates k same]
      exact law.waits g k listed
  · by_cases same : k = n
    · subst same
      rw [setState_get_self] at closed forced
      exact absurd forced (free closed d)
    · rw [gates k same] at closed forced
      exact law.complete k g d closed forced own

/-- A channel that is no member enters its group's set, in which no member is in LAST_ON (R96, R110, R112). -/
theorem join (law : m.Law grp ok due) (silent : sounding (m.gates.get n).state = false) (own : grp n = some g)
    (eligible : ok n) {kind : EntryKind} (kinds : kind = .forced ↔ (m.gates.get n).mode = .forceOpen)
    (mode : (m.gates.get n).mode ≠ .forceClosed)
    (noLastOn : ∀ y ∈ (m.groups.get g).members, (m.gates.get y.channel).state ≠ .lastOn) :
    (m.join g n kind).Law grp ok due := by
  have members (k : Group) (y : Member) : y ∈ ((m.join g n kind).groups.get k).members ↔
      y ∈ (m.groups.get k).members ∨ (k = g ∧ y = ⟨n, kind, (m.gates.get n).latest⟩) := by
    by_cases same : g = k
    · subst same
      rw [join_groups_get_self]
      simp
    · rw [join_groups_get_other m n kind same]
      simp [Ne.symm same]
  have waiting (k : Group) :
      ((m.join g n kind).groups.get k).waiting = (m.groups.get k).waiting.filter fun w => w != n := by
    by_cases same : g = k
    · subst same; rw [join_groups_get_self]
    · rw [join_groups_get_other m n kind same]
  have gates (k : Channel) (other : k ≠ n) : (m.join g n kind).gates.get k = m.gates.get k :=
    join_get_other g kind m (Ne.symm other)
  have old {k : Group} {y : Member} (member : y ∈ (m.groups.get k).members) :
      (m.join g n kind).gates.get y.channel = m.gates.get y.channel :=
    gates _ (law.channel_ne_of_silent silent member)
  refine ⟨fun k => ?_, fun k => ?_, fun k y member => ?_, fun k y member => ?_, fun k y member => ?_,
    fun k y member lastOn => ?_, fun k sounds => ?_, fun k => ?_, fun k l listed => ?_, fun l k d closed forced at_ => ?_⟩
  · by_cases same : k = n
    · subst same
      rw [join_get_self]
      exact Gate.lawful_opened mode eligible
    · rw [gates k same]
      exact law.gate k
  · by_cases same : g = k
    · subst same
      rw [join_groups_get_self]
      simp only [List.map_append, List.map_cons, List.map_nil]
      refine (law.nodup g).append (List.nodup_singleton n) ?_
      simp only [List.disjoint_singleton, List.mem_map, not_exists, not_and]
      exact fun y member => law.channel_ne_of_silent silent member
    · rw [join_groups_get_other m n kind same]
      exact law.nodup k
  · obtain member | ⟨rfl, rfl⟩ := (members k y).mp member
    · exact law.own k y member
    · exact own
  · obtain member | ⟨rfl, rfl⟩ := (members k y).mp member
    · rw [old member]
      exact law.sounds k y member
    · rw [join_get_self]; rfl
  · obtain member | ⟨rfl, rfl⟩ := (members k y).mp member
    · rw [old member]
      exact law.kind k y member
    · rw [join_get_self]
      exact kinds
  · obtain member | ⟨rfl, rfl⟩ := (members k y).mp member
    · rw [old member] at lastOn
      have other : g ≠ k := by
        rintro rfl
        exact noLastOn y member lastOn
      rw [join_groups_get_other m n kind other]
      exact law.lastOn k y member lastOn
    · rw [join_get_self] at lastOn
      cases lastOn
  · by_cases same : k = n
    · subst same
      exact ⟨g, _, (members g _).mpr (.inr ⟨rfl, rfl⟩), rfl⟩
    · rw [gates k same] at sounds
      obtain ⟨l, y, member, own⟩ := law.held k sounds
      exact ⟨l, y, (members l y).mpr (.inl member), own⟩
  · rw [waiting]
    exact (law.queue k).filter _
  · rw [waiting, List.mem_filter, bne_iff_ne] at listed
    rw [gates l listed.2]
    exact law.waits k l listed.1
  · by_cases same : l = n
    · subst same
      rw [join_get_self] at closed
      cases closed
    · rw [gates l same] at closed forced
      rw [waiting, List.mem_filter, bne_iff_ne]
      exact ⟨law.complete l k d closed forced at_, same⟩

/-- A CLOSED channel in FORCE_OPEN joins its group's list (R115). -/
theorem enqueueWaiting (law : m.Law grp ok due) (closed : (m.gates.get n).state = .closed)
    (forced : (m.gates.get n).mode = .forceOpen) (own : grp n = some g) {due' : Channel → Prop}
    (dues : ∀ k, due' k → due k ∨ k = n) : (m.enqueueWaiting g n).Law grp ok due' := by
  have members (k : Group) : ((m.enqueueWaiting g n).groups.get k).members = (m.groups.get k).members := by
    by_cases same : g = k
    · subst same; rw [enqueueWaiting_groups_get_self]
    · rw [enqueueWaiting_groups_get_other m n same]
  have waiting (k : Group) (l : Channel) : l ∈ ((m.enqueueWaiting g n).groups.get k).waiting ↔
      l ∈ (m.groups.get k).waiting ∨ (k = g ∧ l = n) := by
    by_cases same : g = k
    · subst same
      rw [enqueueWaiting_groups_get_self]
      by_cases listed : n ∈ (m.groups.get g).waiting
      · simp only [listed, if_true, true_and]
        exact ⟨.inl, fun h => h.elim id fun e => e ▸ listed⟩
      · simp [listed]
    · rw [enqueueWaiting_groups_get_other m n same]
      simp [Ne.symm same]
  refine ⟨law.gate, fun k => ?_, fun k => ?_, fun k => ?_, fun k => ?_, fun k => ?_, fun k sounds => ?_, fun k => ?_,
    fun k l listed => ?_, fun l k d silent open_ at_ => ?_⟩
  · rw [members]; exact law.nodup k
  · rw [members]; exact law.own k
  · rw [members]; exact law.sounds k
  · rw [members]; exact law.kind k
  · rw [members]; exact law.lastOn k
  · simpa only [members] using law.held k sounds
  · by_cases same : g = k
    · subst same
      rw [enqueueWaiting_groups_get_self]
      by_cases listed : n ∈ (m.groups.get g).waiting
      · simpa only [listed, if_true] using law.queue g
      · simp only [listed, if_false]
        exact (law.queue g).append (List.nodup_singleton n) (List.disjoint_singleton.mpr listed)
    · rw [enqueueWaiting_groups_get_other m n same]
      exact law.queue k
  · obtain listed | ⟨rfl, rfl⟩ := (waiting k l).mp listed
    · exact law.waits k l listed
    · exact ⟨closed, forced, own⟩
  · rw [waiting]
    obtain old | rfl := dues l d
    · exact .inl (law.complete l k old silent open_ at_)
    · exact .inr ⟨Option.some.inj (at_.symm.trans own), rfl⟩

end Law

end Mix

end Sys2Proof.Machine
end

section
/-! SUPPORT. Entries and exits: what a forced entry, an offer to a forced-wait list and an exit make of a set, and that they
keep the law of the sets and touch one group alone (R94, R114 to R117). -/

namespace Sys2Proof.Machine

open Sys2Proof.Safety

namespace Mix

/-- What leads from `m` to `m'` touches the group `g`, and the gates of its channels, alone. -/
structure Local (grp : Channel → Option Group) (g : Group) (m m' : Mix) : Prop where
  others : ∀ h, g ≠ h → m'.groups.get h = m.groups.get h
  gates : ∀ k, grp k ≠ some g → m'.gates.get k = m.gates.get k

namespace Local

variable {grp : Channel → Option Group} {g : Group} {m u v : Mix}

theorem refl (grp : Channel → Option Group) (g : Group) (m : Mix) : Local grp g m m :=
  ⟨fun _ _ => rfl, fun _ _ => rfl⟩

theorem trans (h : Local grp g m u) (k : Local grp g u v) : Local grp g m v :=
  ⟨fun x o => (k.others x o).trans (h.others x o), fun x o => (k.gates x o).trans (h.gates x o)⟩

end Local

theorem lastOnMember_some {m : Mix} {g : Group} {y : Member} (h : m.lastOnMember g = some y) :
    y ∈ (m.groups.get g).members ∧ (m.gates.get y.channel).state = .lastOn :=
  ⟨List.mem_of_find?_eq_some h, by simpa using List.find?_some h⟩

theorem lastOnMember_none {m : Mix} {g : Group} : m.lastOnMember g = none ↔
    ∀ y ∈ (m.groups.get g).members, (m.gates.get y.channel).state ≠ .lastOn := by
  simp [lastOnMember]

/-- Where a forced ask would not be granted the set is full of FORCED members, none of them in LAST_ON (R114). -/
theorem grantable_eq_false {m : Mix} {maxOpen : Nat} {g : Group} (h : m.grantable maxOpen g = false) :
    maxOpen ≤ (m.groups.get g).members.length ∧ (∀ y ∈ (m.groups.get g).members, y.kind = .forced) ∧
      ∀ y ∈ (m.groups.get g).members, (m.gates.get y.channel).state ≠ .lastOn := by
  simp only [grantable, Bool.or_eq_false_iff, Option.isSome_eq_false_iff, Option.isNone_iff_eq_none,
    GroupState.openCount] at h
  obtain ⟨⟨noLastOn, full⟩, noAuto⟩ := h
  exact ⟨Nat.not_lt.mp (of_decide_eq_false full), kind_of_quietest_none noAuto, lastOnMember_none.mp noLastOn⟩

/-- A channel whose forced ask is granted is OPEN. -/
theorem enterForced_get_self {m : Mix} {maxOpen : Nat} {g : Group} (n : Channel) (granted : m.grantable maxOpen g = true) :
    ((m.enterForced maxOpen g n).gates.get n).state = .opened := by
  obtain ⟨y, -, h⟩ | ⟨-, -, h⟩ | ⟨-, -, v, -, h⟩ := enterForced_cases n granted <;> rw [h, join_get_self]

theorem without_of_not_mem {ms : List Member} {n : Channel} (h : n ∉ ms.map Member.channel) : without n ms = ms :=
  List.filter_eq_self.mpr fun y member => by
    simp only [bne_iff_ne]
    rintro rfl
    exact h (List.mem_map_of_mem member)

theorem length_without_of_mem {ms : List Member} (nodup : (ms.map Member.channel).Nodup) {y : Member} (member : y ∈ ms) :
    (without y.channel ms).length + 1 = ms.length := by
  induction ms with
  | nil => cases member
  | cons z ms ih =>
    rw [List.map_cons, List.nodup_cons] at nodup
    obtain ⟨fresh, rest⟩ := nodup
    obtain rfl | old := List.mem_cons.mp member
    · rw [without, List.filter_cons_of_neg (by simp), ← without, without_of_not_mem fresh, List.length_cons]
    · have other : z.channel ≠ y.channel := fun same => fresh (same ▸ List.mem_map_of_mem old)
      rw [without, List.filter_cons_of_pos (by simpa using other), List.length_cons, List.length_cons, ← without,
        ih rest old]

namespace Law

variable {grp : Channel → Option Group} {ok due : Channel → Prop} {m : Mix} {n : Channel} {g : Group} {maxOpen : Nat}

/-- Only the channels that are CLOSED in FORCE_OPEN can be due. -/
theorem redue {due' : Channel → Prop} (law : m.Law grp ok due)
    (dues : ∀ k, due' k → (m.gates.get k).state = .closed → (m.gates.get k).mode = .forceOpen → due k) :
    m.Law grp ok due' :=
  { law with complete := fun k g d closed forced => law.complete k g (dues k d closed forced) closed forced }

theorem mode_ne_of_auto (law : m.Law grp ok due) {y : Member} (member : y ∈ (m.groups.get g).members)
    (auto : y.kind = .auto) : (m.gates.get y.channel).mode ≠ .forceOpen := fun forced => by
  rw [(law.kind g y member).mpr forced] at auto
  cases auto

theorem mode_ne_of_lastOn (law : m.Law grp ok due) {k : Channel} (lastOn : (m.gates.get k).state = .lastOn) :
    (m.gates.get k).mode ≠ .forceOpen := by
  rw [(law.gate k).auto (.inr lastOn)]
  decide

/-- A set full of FORCED members grants no forced ask (R114). -/
theorem grantable_of_forced (law : m.Law grp ok due) (full : maxOpen ≤ (m.groups.get g).members.length)
    (forced : ∀ y ∈ (m.groups.get g).members, y.kind = .forced) : m.grantable maxOpen g = false := by
  have noLastOn : m.lastOnMember g = none := lastOnMember_none.mpr fun y member lastOn =>
    law.mode_ne_of_lastOn lastOn ((law.kind g y member).mp (forced y member))
  have noAuto : quietest (m.groups.get g).members = none := by
    cases found : quietest (m.groups.get g).members with
    | none => rfl
    | some v =>
      obtain ⟨member, auto, -⟩ := quietest_some found
      rw [forced v member] at auto
      cases auto
  simp only [grantable, noLastOn, noAuto, GroupState.openCount, Option.isSome_none, Bool.false_or, Bool.or_false]
  exact decide_eq_false (Nat.not_lt.mpr full)

/-- Two records of one set with one channel are one record. -/
theorem eq_of_channel_eq (law : m.Law grp ok due) {y z : Member} (hy : y ∈ (m.groups.get g).members)
    (hz : z ∈ (m.groups.get g).members) (same : y.channel = z.channel) : y = z :=
  List.inj_on_of_nodup_map (law.nodup g) hy hz same

/-- Taking a member out leaves one member fewer. -/
theorem length_without (law : m.Law grp ok due) {y : Member} (member : y ∈ (m.groups.get g).members) :
    (without y.channel (m.groups.get g).members).length + 1 = (m.groups.get g).members.length := by
  exact length_without_of_mem (law.nodup g) member

theorem local_evict (law : m.Law grp ok due) (found : memberGroup m.groups n = some g) (st : GateState) :
    Local grp g m (m.evict n st) := by
  obtain ⟨-, group⟩ := law.sounding_of_memberGroup found
  refine ⟨fun h other => evict_groups_get_other found st other, fun k elsewhere => evict_get_other st m ?_⟩
  rintro rfl
  exact elsewhere group

theorem local_join (law : m.Law grp ok due) (own : grp n = some g) (kind : EntryKind) :
    Local grp g m (m.join g n kind) := by
  refine ⟨fun h other => ?_, fun k elsewhere => join_get_other g kind m ?_⟩
  · rw [join_groups_get_other m n kind other, filter_waiting_of_not_mem]
    intro listed
    exact other (Option.some.inj (own.symm.trans (law.waits h n listed).2.2))
  · rintro rfl
    exact elsewhere own

theorem local_enqueueWaiting (n : Channel) : Local grp g m (m.enqueueWaiting g n) :=
  ⟨fun _ other => enqueueWaiting_groups_get_other m n other, fun _ _ => rfl⟩

theorem local_setState (own : grp n = some g) (st : GateState) : Local grp g m (m.setState n st) := by
  refine ⟨fun _ _ => rfl, fun k elsewhere => setState_get_other st m ?_⟩
  rintro rfl
  exact elsewhere own

/-- A member that is not in FORCE_OPEN gives its place to a channel that is no member: the new set, the law, and what is
left alone (R113, R114, R116). -/
theorem swap (law : m.Law grp ok due) (silent : sounding (m.gates.get n).state = false) (own : grp n = some g)
    (eligible : ok n) {kind : EntryKind} (kinds : kind = .forced ↔ (m.gates.get n).mode = .forceOpen)
    (mode : (m.gates.get n).mode ≠ .forceClosed) {y : Member} (member : y ∈ (m.groups.get g).members)
    (yields : (m.gates.get y.channel).mode ≠ .forceOpen)
    (noOther : ∀ z ∈ (m.groups.get g).members, z ≠ y → (m.gates.get z.channel).state ≠ .lastOn) :
    ((m.evict y.channel .closed).join g n kind).Law grp ok due ∧
      Local grp g m ((m.evict y.channel .closed).join g n kind) ∧
      ((m.evict y.channel .closed).join g n kind).groups.get g = { m.groups.get g with
        members := without y.channel (m.groups.get g).members ++ [⟨n, kind, (m.gates.get n).latest⟩]
        waiting := (m.groups.get g).waiting.filter fun w => w != n } := by
  have found := law.memberGroup_eq member
  have other : y.channel ≠ n := law.channel_ne_of_silent silent member
  have evicted := law.evict found (.inl rfl) fun _ _ => yields
  have gate : (m.evict y.channel .closed).gates.get n = m.gates.get n := evict_get_other _ m other
  refine ⟨evicted.join (by rw [gate]; exact silent) own eligible (by rw [gate]; exact kinds) (by rw [gate]; exact mode) ?_,
    (law.local_evict found _).trans (evicted.local_join own kind), ?_⟩
  · rw [evict_groups_get_self found]
    simp only [List.mem_filter, bne_iff_ne]
    rintro z ⟨old, apart⟩
    rw [evict_get_other _ m (Ne.symm apart)]
    exact noOther z old fun same => apart (same ▸ rfl)
  · rw [join_groups_get_self, evict_groups_get_self found, gate]

/-- A granted forced entry (R114, R116). -/
theorem enterForced (law : m.Law grp ok due) (granted : m.grantable maxOpen g = true)
    (silent : sounding (m.gates.get n).state = false) (own : grp n = some g) (eligible : ok n)
    (forced : (m.gates.get n).mode = .forceOpen)
    (bound : (m.groups.get g).members.length ≤ maxOpen) :
    (m.enterForced maxOpen g n).Law grp ok due ∧ Local grp g m (m.enterForced maxOpen g n) ∧
      ((m.enterForced maxOpen g n).groups.get g).members.length ≤ maxOpen ∧
      ((m.enterForced maxOpen g n).groups.get g).waiting = (m.groups.get g).waiting.filter fun w => w != n := by
  have kinds : EntryKind.forced = .forced ↔ (m.gates.get n).mode = .forceOpen := by simp [forced]
  have mode : (m.gates.get n).mode ≠ .forceClosed := by rw [forced]; decide
  obtain ⟨y, found, h⟩ | ⟨none, room, h⟩ | ⟨none, full, v, found, h⟩ := enterForced_cases n granted <;> rw [h]
  · obtain ⟨member, lastOn⟩ := lastOnMember_some found
    have alone := law.lastOn g y member lastOn
    obtain ⟨next, near, set⟩ := law.swap silent own eligible kinds mode member (law.mode_ne_of_lastOn lastOn) (by
      rw [alone]
      intro z one other
      exact absurd (List.mem_singleton.mp one) other)
    refine ⟨next, near, ?_, by rw [set]⟩
    have length := law.length_without member
    rw [alone, List.length_singleton] at length bound
    simp only [set, List.length_append, List.length_singleton, alone]
    omega
  · refine ⟨law.join silent own eligible kinds mode (lastOnMember_none.mp none), law.local_join own _, ?_,
      by rw [join_groups_get_self]⟩
    rw [join_groups_get_self]
    simp only [List.length_append, List.length_singleton]
    exact room
  · obtain ⟨member, auto, -⟩ := quietest_some found
    obtain ⟨next, near, set⟩ := law.swap silent own eligible kinds mode member (law.mode_ne_of_auto member auto)
      fun z old _ => lastOnMember_none.mp none z old
    refine ⟨next, near, ?_, by rw [set]⟩
    have length := law.length_without member
    simp only [set, List.length_append, List.length_singleton]
    omega

/-- A forced ask that is granted, or that waits (R114, R115): the channel is then off or on the list as R115 says. -/
theorem forcedAsk (law : m.Law grp ok due) (closed : (m.gates.get n).state = .closed) (own : grp n = some g)
    (forced : (m.gates.get n).mode = .forceOpen) (fits : (m.groups.get g).Fits maxOpen)
    {due' : Channel → Prop} (dues : ∀ k, due' k → due k ∨ k = n) {m' : Mix}
    (h : m' = if m.grantable maxOpen g then m.enterForced maxOpen g n else m.enqueueWaiting g n) :
    m'.Law grp ok due' ∧ Local grp g m m' ∧ (m'.groups.get g).Fits maxOpen := by
  subst h
  cases granted : m.grantable maxOpen g with
  | false =>
    obtain ⟨full, allForced, -⟩ := grantable_eq_false granted
    refine ⟨law.enqueueWaiting closed forced own dues, local_enqueueWaiting n, ?_⟩
    simp only [Bool.false_eq_true, if_false, enqueueWaiting_groups_get_self]
    exact ⟨fits.bound, fun _ => ⟨full, allForced⟩⟩
  | true =>
    have up : (m.gates.get n).state ≠ .parked := by rw [closed]; decide
    obtain ⟨next, near, bound, waiting⟩ := law.enterForced granted (by rw [closed]; rfl) own ((law.gate n).ok up) forced
      fits.bound
    have nobody : (m.groups.get g).waiting = [] := by
      by_contra some
      obtain ⟨full, allForced⟩ := fits.full some
      rw [law.grantable_of_forced full allForced] at granted
      cases granted
    simp only [if_true]
    refine ⟨next.redue fun k d silent _ => (dues k d).resolve_right ?_, near,
      ⟨bound, fun some => absurd (by rw [waiting, nobody]; rfl) some⟩⟩
    rintro rfl
    rw [enterForced_get_self k granted] at silent
    cases silent

end Law

end Mix

end Sys2Proof.Machine
end

section
/-! SUPPORT. The law of the sets under the operations of the gate unit and the arbiter: offers to a forced-wait list, exits,
asks, a new effective mode, a measurement, and the fitting of a set (R87 to R96, R106, R112 to R117, R121). -/

namespace Sys2Proof.Machine

open Sys2Proof.Safety

theorem GroupState.Fits.of_members {maxOpen : Nat} {x y : GroupState} (fits : x.Fits maxOpen)
    (members : y.members = x.members) (waiting : y.waiting ≠ [] → x.waiting ≠ []) : y.Fits maxOpen := by
  refine ⟨by rw [members]; exact fits.bound, fun some => ?_⟩
  rw [members]
  exact fits.full (waiting some)

theorem GroupState.Fits.of_empty {maxOpen : Nat} {x : GroupState} (bound : x.members.length ≤ maxOpen)
    (waiting : x.waiting = []) : x.Fits maxOpen := ⟨bound, fun some => absurd waiting some⟩

namespace Mix

/-- Every set fits the record of its group (R110, R115). -/
def AllFit (c : Settings) (m : Mix) : Prop := ∀ g, (m.groups.get g).Fits (c.groupRecord g).maxOpen

namespace Law

variable {grp : Channel → Option Group} {ok due : Channel → Prop} {m m' : Mix} {n : Channel} {g : Group} {maxOpen : Nat}
  {c : Settings}

/-- Where a forced ask would be granted, nobody waits (R115). -/
theorem waiting_eq_nil (law : m.Law grp ok due) (fits : (m.groups.get g).Fits maxOpen)
    (granted : m.grantable maxOpen g = true) : (m.groups.get g).waiting = [] := by
  by_contra some
  obtain ⟨full, allForced⟩ := fits.full some
  rw [law.grantable_of_forced full allForced] at granted
  cases granted

theorem allFit_of_local {h : Group} (fits : AllFit c m) (near : Local grp h m m')
    (fit : (m'.groups.get h).Fits (c.groupRecord h).maxOpen) : AllFit c m' := fun k => by
  by_cases same : h = k
  · exact same ▸ fit
  · rw [near.others k same]
    exact fits k

/-- Gates and records changed so that every set and list keeps its channels. -/
theorem relabel (law : m.Law grp ok due) {due' : Channel → Prop}
    (channels : ∀ g, (m'.groups.get g).members.map Member.channel = (m.groups.get g).members.map Member.channel)
    (waiting : ∀ g, (m'.groups.get g).waiting = (m.groups.get g).waiting)
    (gate : ∀ k, (m'.gates.get k).Lawful (ok k))
    (sounds : ∀ k, sounding (m'.gates.get k).state = sounding (m.gates.get k).state)
    (kind : ∀ g, ∀ y ∈ (m'.groups.get g).members, y.kind = .forced ↔ (m'.gates.get y.channel).mode = .forceOpen)
    (lastOn : ∀ g, ∀ y ∈ (m.groups.get g).members, (m'.gates.get y.channel).state = .lastOn →
      (m.groups.get g).members.length = 1)
    (waits : ∀ g, ∀ k ∈ (m.groups.get g).waiting,
      (m'.gates.get k).state = .closed ∧ (m'.gates.get k).mode = .forceOpen)
    (complete : ∀ k, due' k → (m'.gates.get k).state = .closed → (m'.gates.get k).mode = .forceOpen →
      due k ∧ (m.gates.get k).state = .closed ∧ (m.gates.get k).mode = .forceOpen) : m'.Law grp ok due' := by
  have back {g : Group} {y : Member} (member : y ∈ (m'.groups.get g).members) :
      ∃ x ∈ (m.groups.get g).members, x.channel = y.channel := by
    have := List.mem_map_of_mem (f := Member.channel) member
    rw [channels g] at this
    exact List.mem_map.mp this
  have length (g : Group) : (m'.groups.get g).members.length = (m.groups.get g).members.length := by
    have := congrArg List.length (channels g)
    simpa using this
  refine ⟨gate, fun g => ?_, fun g y member => ?_, fun g y member => ?_, kind, fun g y member last => ?_,
    fun k sounding => ?_, fun g => ?_, fun g k listed => ?_, fun k g d closed forced own => ?_⟩
  · rw [channels]; exact law.nodup g
  · obtain ⟨x, old, same⟩ := back member
    rw [← same]
    exact law.own g x old
  · obtain ⟨x, old, same⟩ := back member
    rw [← same, sounds]
    exact law.sounds g x old
  · obtain ⟨x, old, same⟩ := back member
    rw [← same] at last
    have one := lastOn g x old last
    rw [← length] at one
    obtain ⟨z, single⟩ := List.length_eq_one_iff.mp one
    rw [single, List.mem_singleton] at member
    rw [single, member]
  · rw [sounds] at sounding
    obtain ⟨g, x, old, same⟩ := law.held k sounding
    have := List.mem_map_of_mem (f := Member.channel) old
    rw [← channels g] at this
    obtain ⟨y, member, eq⟩ := List.mem_map.mp this
    exact ⟨g, y, member, eq.trans same⟩
  · rw [waiting]; exact law.queue g
  · rw [waiting] at listed
    obtain ⟨closed, forced⟩ := waits g k listed
    exact ⟨closed, forced, (law.waits g k listed).2.2⟩
  · rw [waiting]
    obtain ⟨d, closed, forced⟩ := complete k d closed forced
    exact law.complete k g d closed forced own

/-! ### Offers and exits -/

/-- Entry offered to a forced-wait list (R115). -/
theorem offerList {ws : List Channel} (law : m.Law grp ok due)
    (bound : (m.groups.get g).members.length ≤ maxOpen) (list : (m.groups.get g).waiting = ws) :
    (m.offerList maxOpen g ws).Law grp ok due ∧ Local grp g m (m.offerList maxOpen g ws) ∧
      ((m.offerList maxOpen g ws).groups.get g).Fits maxOpen := by
  induction ws generalizing m with
  | nil => exact ⟨law, .refl .., .of_empty bound list⟩
  | cons n ws ih =>
    rw [Mix.offerList]
    split
    case isTrue granted =>
      obtain ⟨closed, forced, own⟩ := law.waits g n (by simp [list])
      have up : (m.gates.get n).state ≠ .parked := by rw [closed]; decide
      obtain ⟨next, near, bound', waiting⟩ := law.enterForced granted (by rw [closed]; rfl) own ((law.gate n).ok up) forced
        bound
      have nodup := law.queue g
      rw [list, List.nodup_cons] at nodup
      rw [list, List.filter_cons_of_neg (by simp), filter_waiting_of_not_mem nodup.1] at waiting
      obtain ⟨last, far, fits⟩ := ih next bound' waiting
      exact ⟨last, near.trans far, fits⟩
    case isFalse refused =>
      obtain ⟨full, allForced, -⟩ := grantable_eq_false (Bool.not_eq_true _ ▸ refused)
      exact ⟨law, .refl .., bound, fun _ => ⟨full, allForced⟩⟩

theorem offer (law : m.Law grp ok due)
    (bound : (m.groups.get g).members.length ≤ (c.groupRecord g).maxOpen) :
    (m.offer c g).Law grp ok due ∧ Local grp g m (m.offer c g) ∧
      ((m.offer c g).groups.get g).Fits (c.groupRecord g).maxOpen :=
  law.offerList bound rfl

/-- A channel on no list is not waited for. -/
theorem unlisted_unwait (m : Mix) (n : Channel) (g : Group) : n ∉ ((m.unwait n).groups.get g).waiting := by
  simp

theorem allFit_unwait (fits : AllFit c m) (n : Channel) : AllFit c (m.unwait n) := fun g => by
  refine (fits g).of_members (by simp) fun some none => some ?_
  simp [none]

/-- A channel that is no member is taken off its list and rests. -/
theorem unwait_rest (law : m.Law grp ok due) (silent : sounding (m.gates.get n).state = false) {st : GateState}
    (resting : st = .closed ∨ st = .parked) (eligible : st = .closed → ok n)
    (free : st = .closed → due n → (m.gates.get n).mode ≠ .forceOpen) : ((m.unwait n).setState n st).Law grp ok due := by
  have off : (m.unwait n).Law grp ok fun k => due k ∧ k ≠ n :=
    (law.mono (fun _ h => h) fun _ h => h.1).unwait fun d => absurd rfl d.2
  have rests : ((m.unwait n).setState n st).Law grp ok fun k => due k ∧ k ≠ n :=
    off.rest silent resting eligible (fun _ g => unlisted_unwait m n g) fun _ d => absurd rfl d.2
  refine rests.redue fun k d closed forced => ⟨d, ?_⟩
  rintro rfl
  rw [setState_get_self] at closed forced
  exact free closed d forced

theorem leaveQuietly_eq (law : m.Law grp ok due) (found : memberGroup m.groups n = some g) (st : GateState) :
    m.leaveQuietly n st = m.evict n st := by
  rw [Mix.leaveQuietly, unwait_eq_self]
  refine law.not_mem_waiting fun closed => ?_
  obtain ⟨sounds, -⟩ := law.sounding_of_memberGroup found
  rw [closed] at sounds
  cases sounds

/-- An exit with no offer (R105, R120, R165). -/
theorem leaveQuietly (law : m.Law grp ok due) {st : GateState} (resting : st = .closed ∨ st = .parked)
    (eligible : st = .closed → ok n) (free : st = .closed → due n → (m.gates.get n).mode ≠ .forceOpen) :
    (m.leaveQuietly n st).Law grp ok due := by
  cases found : memberGroup m.groups n with
  | some g =>
    rw [law.leaveQuietly_eq found]
    exact law.evict found resting free
  | none =>
    have silent := law.memberGroup_eq_none_iff.mp found
    have off : memberGroup (m.unwait n).groups n = none := by
      rw [memberGroup_eq_none] at found ⊢
      simpa using found
    rw [Mix.leaveQuietly, evict_of_none off]
    exact law.unwait_rest silent resting eligible free

/-- An exit leaves the groups that are not the channel's. -/
theorem leaveQuietly_others (law : m.Law grp ok due) (st : GateState) (other : grp n ≠ some g) :
    (m.leaveQuietly n st).groups.get g = m.groups.get g := by
  have unlisted : n ∉ (m.groups.get g).waiting := fun listed => other (law.waits g n listed).2.2
  cases found : memberGroup m.groups n with
  | some h =>
    rw [law.leaveQuietly_eq found]
    refine evict_groups_get_other found st ?_
    rintro rfl
    exact other (law.sounding_of_memberGroup found).2
  | none =>
    have off : memberGroup (m.unwait n).groups n = none := by
      rw [memberGroup_eq_none] at found ⊢
      simpa using found
    rw [Mix.leaveQuietly, evict_of_none off, setState_groups, unwait_groups_get, filter_waiting_of_not_mem unlisted]

/-- Only the channels that are not PARKED need be allowed to be. -/
theorem narrow {ok' : Channel → Prop} (law : m.Law grp ok due)
    (oks : ∀ k, (m.gates.get k).state ≠ .parked → ok k → ok' k) : m.Law grp ok' due :=
  { law with gate := fun k => { law.gate k with ok := fun up => oks k up ((law.gate k).ok up) } }

/-- An exit (R94, R95, R115, R117). A channel that it parks stays PARKED. -/
theorem leave (law : m.Law grp ok due) (fits : AllFit c m)
    {st : GateState} (resting : st = .closed ∨ st = .parked) (eligible : st = .closed → ok n)
    (free : st = .closed → due n → (m.gates.get n).mode ≠ .forceOpen) :
    (m.leave c n st).Law grp (fun k => ok k ∧ (k = n → st = .closed)) due ∧ AllFit c (m.leave c n st) := by
  have narrowed {x : Mix} (law : x.Law grp ok due) (gate : (x.gates.get n).state = st) :
      x.Law grp (fun k => ok k ∧ (k = n → st = .closed)) due := law.narrow fun k up able => by
    refine ⟨able, ?_⟩
    rintro rfl
    rw [gate] at up
    exact resting.resolve_right up
  cases found : memberGroup m.groups n with
  | some g =>
    have left : m.leave c n st = (m.evict n st).offer c g := by
      simp only [Mix.leave, found]
      rw [← law.leaveQuietly_eq found, Mix.leaveQuietly]
    rw [left]
    have out := narrowed (law.evict found resting free) (by rw [evict_get_self])
    have length : ((m.evict n st).groups.get g).members.length ≤ (c.groupRecord g).maxOpen := by
      rw [evict_groups_get_self found]
      exact (List.length_filter_le _ _).trans (fits g).bound
    obtain ⟨next, near, fit⟩ := out.offer length
    exact ⟨next, allFit_of_local fits ((law.local_evict found st).trans near) fit⟩
  | none =>
    rw [leave_of_none st found]
    refine ⟨narrowed (law.unwait_rest (law.memberGroup_eq_none_iff.mp found) resting eligible free) ?_,
      fun g => allFit_unwait fits n g⟩
    rw [setState_get_self]

/-- An exit to CLOSED. -/
theorem leaveClosed (law : m.Law grp ok due) (fits : AllFit c m)
    (eligible : ok n) (free : due n → (m.gates.get n).mode ≠ .forceOpen) :
    (m.leave c n .closed).Law grp ok due ∧ AllFit c (m.leave c n .closed) := by
  obtain ⟨next, fit⟩ := law.leave fits (.inl rfl) (fun _ => eligible) fun _ => free
  exact ⟨next.mono (fun _ h => h.1) fun _ h => h, fit⟩

/-! ### Asks -/

/-- A forced ask of a CLOSED channel in FORCE_OPEN from any cause but a SET_GATE_MODE (R114, R115). -/
theorem askForced (law : m.Law c.channelGroup ok due) (fits : AllFit c m)
    (closed : (m.gates.get n).state = .closed) (forced : (m.gates.get n).mode = .forceOpen) {due' : Channel → Prop}
    (dues : ∀ k, due' k → due k ∨ k = n) : (m.askForced c n).Law c.channelGroup ok due' ∧ AllFit c (m.askForced c n) := by
  cases own : c.channelGroup n with
  | none =>
    have same : m.askForced c n = m := by simp [Mix.askForced, own]
    rw [same]
    refine ⟨{ law with complete := fun k g d closed forced group => ?_ }, fits⟩
    obtain old | rfl := dues k d
    · exact law.complete k g old closed forced group
    · rw [own] at group; cases group
  | some g =>
    obtain ⟨next, near, fit⟩ := law.forcedAsk closed own forced (fits g) dues (askForced_of_group m own)
    exact ⟨next, allFit_of_local fits near fit⟩

/-- An ask of a CLOSED channel in AUTO (R113, R116). -/
theorem askAuto (law : m.Law c.channelGroup ok due) (fits : AllFit c m) (closed : (m.gates.get n).state = .closed)
    (auto : (m.gates.get n).mode = .auto) (l : Nat) :
    (m.askAuto c n l).Law c.channelGroup ok due ∧ AllFit c (m.askAuto c n l) := by
  have silent : sounding (m.gates.get n).state = false := by rw [closed]; rfl
  have eligible : ok n := (law.gate n).ok (by rw [closed]; decide)
  have kinds : EntryKind.auto = .forced ↔ (m.gates.get n).mode = .forceOpen := by simp [auto]
  have mode : (m.gates.get n).mode ≠ .forceClosed := by rw [auto]; decide
  have posted {x : Mix} (k : EventKind) (h : x.Law c.channelGroup ok due ∧ AllFit c x) :
      (x.post k).Law c.channelGroup ok due ∧ AllFit c (x.post k) := ⟨{ h.1 with }, h.2⟩
  cases own : c.channelGroup n with
  | none => simpa only [Mix.askAuto, own] using ⟨law, fits⟩
  | some g =>
    have swapped {y : Member} (member : y ∈ (m.groups.get g).members) (yields : (m.gates.get y.channel).mode ≠ .forceOpen)
        (noOther : ∀ z ∈ (m.groups.get g).members, z ≠ y → (m.gates.get z.channel).state ≠ .lastOn)
        (granted : m.grantable (c.groupRecord g).maxOpen g = true) :
        ((m.evict y.channel .closed).join g n .auto).Law c.channelGroup ok due ∧
          AllFit c ((m.evict y.channel .closed).join g n .auto) := by
      obtain ⟨next, near, set⟩ := law.swap silent own eligible kinds mode member yields noOther
      refine ⟨next, allFit_of_local fits near ?_⟩
      rw [set]
      refine .of_empty ?_ (by simp [law.waiting_eq_nil (fits g) granted])
      have length := law.length_without member
      have bound := (fits g).bound
      simp only [List.length_append, List.length_singleton]
      omega
    simp only [Mix.askAuto, own]
    split
    case h_1 y found =>
      obtain ⟨member, lastOn⟩ := lastOnMember_some found
      refine swapped member (law.mode_ne_of_lastOn lastOn) ?_ (by simp [grantable, found])
      rw [law.lastOn g y member lastOn]
      intro z one other
      exact absurd (List.mem_singleton.mp one) other
    case h_2 none =>
      split
      case isTrue room =>
        have granted : m.grantable (c.groupRecord g).maxOpen g = true := by simp [grantable, room]
        refine ⟨law.join silent own eligible kinds mode (lastOnMember_none.mp none),
          allFit_of_local fits (law.local_join own .auto) ?_⟩
        rw [join_groups_get_self]
        refine .of_empty ?_ (by simp [law.waiting_eq_nil (fits g) granted])
        simp only [List.length_append, List.length_singleton]
        exact room
      case isFalse =>
        split
        case h_1 => exact posted _ ⟨law, fits⟩
        case h_2 v found =>
          obtain ⟨member, auto, -⟩ := quietest_some found
          split
          · exact posted _ (swapped member (law.mode_ne_of_auto member auto)
              (fun z old _ => lastOnMember_none.mp none z old) (by simp [grantable, found]))
          · exact posted _ ⟨law, fits⟩

/-- A PARKED channel becomes CLOSED, and asks where it is in FORCE_OPEN (R87). -/
theorem leaveParked (law : m.Law c.channelGroup ok due) (fits : AllFit c m)
    (parked : (m.gates.get n).state = .parked) (eligible : ok n) :
    (m.leaveParked c n).Law c.channelGroup ok due ∧ AllFit c (m.leaveParked c n) := by
  have silent : sounding (m.gates.get n).state = false := by rw [parked]; rfl
  have woken : (m.setState n .closed).Law c.channelGroup ok fun k => due k ∧ k ≠ n :=
    (law.mono (fun _ h => h) fun _ h => h.1).rest silent (.inl rfl) (fun _ => eligible) nofun fun _ d => absurd rfl d.2
  have fits' : AllFit c (m.setState n .closed) := fits
  unfold Mix.leaveParked
  split
  case isTrue forced =>
    exact woken.askForced fits' (by rw [setState_get_self]) (by rw [setState_get_self]; exact forced) fun k d => by
      by_cases same : k = n
      · exact .inr same
      · exact .inl ⟨d, same⟩
  case isFalse free =>
    refine ⟨woken.redue fun k d _ forced => ⟨d, ?_⟩, fits'⟩
    rintro rfl
    rw [setState_get_self] at forced
    exact free forced

end Law

end Mix

end Sys2Proof.Machine
end

section
/-! SUPPORT. The law of the sets at a new effective mode, at a measurement, and where a set is fitted to its record (R88 to
R93, R105, R106, R112, R121). -/

namespace Sys2Proof.Machine

open Sys2Proof.Safety

namespace Mix

/-- The new effective mode of a channel stored. -/
def storeMode (n : Channel) (mode : GateMode) (m : Mix) : Mix := m.onGate n fun g => { g with mode := mode }

theorem setMode_of_ne {c : Settings} {n : Channel} {mode : GateMode} {m : Mix} (h : mode ≠ (m.gates.get n).mode) :
    m.setMode c n mode = (m.storeMode n mode).reactMode c n mode := if_neg h

@[simp] theorem storeMode_groups (n : Channel) (mode : GateMode) (m : Mix) : (m.storeMode n mode).groups = m.groups := rfl

theorem storeMode_get_self (n : Channel) (mode : GateMode) (m : Mix) :
    (m.storeMode n mode).gates.get n = { m.gates.get n with mode := mode } := by
  simp [storeMode]

theorem storeMode_get_other {n k : Channel} (mode : GateMode) (m : Mix) (h : n ≠ k) :
    (m.storeMode n mode).gates.get k = m.gates.get k := by
  simp [storeMode, Table.get_modify_other _ _ h]

/-- An exit does not look at the effective mode. -/
theorem storeMode_evict (n : Channel) (mode : GateMode) (st : GateState) (m : Mix) :
    (m.storeMode n mode).evict n st = (m.evict n st).storeMode n mode := by
  have gates (x : Mix) : ((x.storeMode n mode).setState n st).gates = ((x.setState n st).storeMode n mode).gates := by
    refine Table.ext_get fun k => ?_
    by_cases same : n = k
    · subst same
      rw [setState_get_self, storeMode_get_self, storeMode_get_self, setState_get_self]
    · rw [setState_get_other _ _ same, storeMode_get_other _ _ same, storeMode_get_other _ _ same,
        setState_get_other _ _ same]
  unfold evict
  rw [storeMode_groups]
  split
  · have := gates m
    simp only [storeMode, setState, onGate] at this ⊢
    rw [this]
  · have := gates m
    simp only [storeMode, setState, onGate, onGroup, post] at this ⊢
    rw [this]

namespace Law

variable {grp : Channel → Option Group} {ok due : Channel → Prop} {m m' : Mix} {n : Channel} {g : Group} {maxOpen : Nat}
  {c : Settings}

/-- A silent channel on no list takes a new effective mode. -/
theorem storeMode (law : m.Law grp ok due) {mode : GateMode} (silent : sounding (m.gates.get n).state = false)
    (unlisted : ∀ g, n ∉ (m.groups.get g).waiting) {due' : Channel → Prop}
    (dues : ∀ k, due' k → due k) (free : due' n → (m.gates.get n).state = .closed → mode ≠ .forceOpen) :
    (m.storeMode n mode).Law grp ok due' := by
  have other {k : Channel} (apart : k ≠ n) : (m.storeMode n mode).gates.get k = m.gates.get k :=
    storeMode_get_other mode m (Ne.symm apart)
  have quiet {g : Group} {y : Member} (member : y ∈ (m.groups.get g).members) :=
    other (law.channel_ne_of_silent silent member)
  refine law.relabel (fun _ => rfl) (fun _ => rfl) (fun k => ?_) (fun k => ?_) (fun g y member => ?_)
    (fun g y member lastOn => ?_) (fun g k listed => ?_) fun k d closed forced => ?_
  · by_cases same : k = n
    · subst same
      have now := law.gate k
      rw [storeMode_get_self]
      refine ⟨now.counts, now.rests, fun up => ?_, fun up => ?_, now.ok⟩
      · rw [silent] at up
        cases up
      · obtain up | up := up <;> rw [up] at silent <;> cases silent
    · rw [other same]
      exact law.gate k
  · by_cases same : k = n
    · subst same
      rw [storeMode_get_self]
    · rw [other same]
  · rw [quiet member]
    exact law.kind g y member
  · rw [quiet member] at lastOn
    rw [law.lastOn g y member lastOn]
    rfl
  · have apart : k ≠ n := fun same => unlisted g (same ▸ listed)
    rw [other apart]
    exact ⟨(law.waits g k listed).1, (law.waits g k listed).2.1⟩
  · by_cases same : k = n
    · subst same
      rw [storeMode_get_self] at closed forced
      exact absurd forced (free d closed)
    · rw [other same] at closed forced
      exact ⟨dues k d, closed, forced⟩

/-- What a change of mode and kind makes of a member's record. -/
theorem mem_setKind {k : EntryKind} {y : Member} : y ∈ ((m.setKind n k).groups.get g).members ↔
    ∃ x ∈ (m.groups.get g).members, y = if x.channel = n then { x with kind := k } else x := by
  rw [setKind_groups_get]
  simp only [List.mem_map]
  exact ⟨fun ⟨x, old, eq⟩ => ⟨x, old, eq.symm⟩, fun ⟨x, old, eq⟩ => ⟨x, old, eq.symm⟩⟩

theorem setKind_channels (k : EntryKind) (m : Mix) (g : Group) :
    ((m.setKind n k).groups.get g).members.map Member.channel = (m.groups.get g).members.map Member.channel := by
  rw [setKind_groups_get, List.map_map]
  refine List.map_congr_left fun x _ => ?_
  simp only [Function.comp_apply]
  split <;> rfl

/-- A member takes a new effective mode and the kind that goes with it, and is OPEN. -/
theorem remode (law : m.Law grp ok due) {mode : GateMode} {k : EntryKind} (sounds : sounding (m.gates.get n).state = true)
    (allowed : mode ≠ .forceClosed) (kinds : k = .forced ↔ mode = .forceOpen)
    (gates : ∀ x, x ≠ n → m'.gates.get x = m.gates.get x)
    (gate : m'.gates.get n = { m.gates.get n with mode := mode, state := .opened, holdCounter := 0 })
    (groups : m'.groups = (m.setKind n k).groups) : m'.Law grp ok due := by
  have up : (m.gates.get n).state ≠ .parked := by
    intro parked
    rw [parked] at sounds
    cases sounds
  refine law.relabel (fun g => ?_) (fun g => ?_) (fun x => ?_) (fun x => ?_) (fun g y member => ?_)
    (fun g y member lastOn => ?_) (fun g x listed => ?_) fun x d closed forced => ?_
  · rw [groups, setKind_channels]
  · rw [groups, setKind_groups_get]
  · by_cases same : x = n
    · subst same
      rw [gate]
      exact Gate.lawful_opened (g := { m.gates.get x with mode := mode }) allowed ((law.gate x).ok up)
    · rw [gates x same]
      exact law.gate x
  · by_cases same : x = n
    · subst same
      rw [gate, sounds]
      rfl
    · rw [gates x same]
  · rw [groups] at member
    obtain ⟨x, old, rfl⟩ := mem_setKind.mp member
    split
    case isTrue same =>
      simp only [same, gate]
      exact kinds
    case isFalse other =>
      rw [gates _ other]
      exact law.kind g x old
  · by_cases same : y.channel = n
    · rw [same, gate] at lastOn
      cases lastOn
    · rw [gates _ same] at lastOn
      rw [law.lastOn g y member lastOn]
      rfl
  · obtain ⟨closed, forced, -⟩ := law.waits g x listed
    have apart : x ≠ n := by
      rintro rfl
      rw [closed] at sounds
      cases sounds
    rw [gates x apart]
    exact ⟨closed, forced⟩
  · by_cases same : x = n
    · subst same
      rw [gate] at closed
      cases closed
    · rw [gates x same] at closed forced
      exact ⟨d, closed, forced⟩

theorem length_setKind (k : EntryKind) (m : Mix) (g : Group) :
    ((m.setKind n k).groups.get g).members.length = (m.groups.get g).members.length := by
  rw [setKind_groups_get, List.length_map]

/-- A member that becomes FORCED leaves its set fitting. -/
theorem fits_setKind_forced (fits : AllFit c m) (groups : m'.groups = (m.setKind n .forced).groups) : AllFit c m' := by
  intro g
  rw [groups]
  refine ⟨by rw [length_setKind]; exact (fits g).bound, fun some => ?_⟩
  have old : (m.groups.get g).waiting ≠ [] := by
    rw [setKind_groups_get] at some
    exact some
  obtain ⟨full, forced⟩ := (fits g).full old
  refine ⟨by rw [length_setKind]; exact full, fun y member => ?_⟩
  obtain ⟨x, was, rfl⟩ := mem_setKind.mp member
  split
  · rfl
  · exact forced x was

/-- A member turned to FORCE_CLOSED leaves its set (R93, R94). -/
theorem leaveForceClosed (law : m.Law grp ok due) (fits : AllFit c m)
    (sounds : sounding (m.gates.get n).state = true) :
    ((m.storeMode n .forceClosed).leave c n .closed).Law grp ok due ∧
      AllFit c ((m.storeMode n .forceClosed).leave c n .closed) := by
  obtain ⟨g, found, -⟩ := law.memberGroup_isSome sounds
  have up : (m.gates.get n).state ≠ .closed := fun closed => by
    rw [closed] at sounds
    cases sounds
  have left : (m.storeMode n .forceClosed).leave c n .closed =
      ((m.evict n .closed).storeMode n .forceClosed).offer c g := by
    have unwaited : (m.storeMode n .forceClosed).unwait n = m.storeMode n .forceClosed :=
      unwait_eq_self (law.not_mem_waiting up)
    have found' : memberGroup (m.storeMode n .forceClosed).groups n = some g := found
    simp only [Mix.leave, found', unwaited]
    rw [storeMode_evict]
  have out : (m.evict n .closed).Law grp ok fun k => due k ∧ k ≠ n :=
    (law.mono (fun _ h => h) fun _ h => h.1).evict found (.inl rfl) fun _ d => absurd rfl d.2
  have closed : ((m.evict n .closed).gates.get n).state = .closed := by rw [evict_get_self]
  have unlisted (k : Group) : n ∉ ((m.evict n .closed).groups.get k).waiting := by
    by_cases same : g = k
    · subst same
      rw [evict_groups_get_self found]
      exact law.not_mem_waiting up g
    · rw [evict_groups_get_other found _ same]
      exact law.not_mem_waiting up k
  have silent : ((m.evict n .closed).storeMode n .forceClosed).Law grp ok due := by
    refine (out.storeMode (mode := .forceClosed) (due' := fun k => due k ∧ k ≠ n) (by rw [closed]; rfl) unlisted
      (fun _ d => d) fun _ _ => by decide).redue fun k d _ forced => ⟨d, ?_⟩
    rintro rfl
    rw [storeMode_get_self] at forced
    cases forced
  have length : (((m.evict n .closed).storeMode n .forceClosed).groups.get g).members.length ≤
      (c.groupRecord g).maxOpen := by
    rw [storeMode_groups, evict_groups_get_self found]
    exact (List.length_filter_le _ _).trans (fits g).bound
  obtain ⟨next, near, fit⟩ := silent.offer (c := c) length
  rw [left]
  refine ⟨next, fun k => ?_⟩
  by_cases same : g = k
  · exact same ▸ fit
  · rw [near.others k same, storeMode_groups, evict_groups_get_other found _ same]
    exact fits k

/-- A FORCED member turned to AUTO, whose set then offers its places (R93, R112, R115). -/
theorem becomeAuto (law : m.Law grp ok due) (fits : AllFit c m)
    (sounds : sounding (m.gates.get n).state = true) (changes : (m.gates.get n).mode ≠ .auto) :
    ((m.storeMode n .auto).becomeAuto c n).Law grp ok due ∧ AllFit c ((m.storeMode n .auto).becomeAuto c n) := by
  obtain ⟨g, y, member, same⟩ := law.held n sounds
  subst same
  have found : memberGroup (m.storeMode y.channel .auto).groups y.channel = some g := law.memberGroup_eq member
  have forced : (m.gates.get y.channel).mode = .forceOpen := by
    have := (law.gate y.channel).sounds sounds
    cases mode : (m.gates.get y.channel).mode <;> simp_all
  have opened : (m.gates.get y.channel).state = .opened := by
    have auto := (law.gate y.channel).auto
    cases state : (m.gates.get y.channel).state <;> simp_all
  have any : ((m.storeMode y.channel .auto).groups.get g).members.any
      (fun z => z.channel == y.channel && z.kind == .forced) = true :=
    List.any_eq_true.mpr ⟨y, member, by simp [(law.kind g y member).mpr forced]⟩
  have became : (m.storeMode y.channel .auto).becomeAuto c y.channel =
      ((m.storeMode y.channel .auto).setKind y.channel .auto).offer c g := by
    simp only [Mix.becomeAuto, found, any, if_true]
  have rests : (m.gates.get y.channel).holdCounter = 0 := (law.gate y.channel).rests (by rw [opened]; decide)
  have next : ((m.storeMode y.channel .auto).setKind y.channel .auto).Law grp ok due := by
    refine law.remode (mode := .auto) (k := .auto) sounds (by decide) (by simp)
      (fun x other => storeMode_get_other _ m (Ne.symm other)) ?_ rfl
    rw [setKind_gates, storeMode_get_self, ← opened, ← rests]
  have groups (h : Group) : (((m.storeMode y.channel .auto).setKind y.channel .auto).groups.get h).members.length ≤
      (c.groupRecord h).maxOpen := by
    rw [length_setKind]
    exact (fits h).bound
  obtain ⟨last, near, fit⟩ := next.offer (c := c) (groups g)
  rw [became]
  refine ⟨last, fun h => ?_⟩
  by_cases same : g = h
  · exact same ▸ fit
  · rw [near.others h same, setKind_groups_get, storeMode_groups]
    have elsewhere : (m.groups.get h).members.map (fun z => if z.channel = y.channel then { z with kind := .auto } else z) =
        (m.groups.get h).members := by
      refine (List.map_congr_left fun z old => if_neg fun eq => same ?_).trans (List.map_id _)
      have own := law.own h z old
      rw [eq, law.own g y member] at own
      exact Option.some.inj own
    rw [elsewhere]
    exact fits h

/-- A member turned to FORCE_OPEN is OPEN and FORCED (R93, R112). -/
theorem becomeForced (law : m.Law grp ok due) (fits : AllFit c m) (sounds : sounding (m.gates.get n).state = true)
    (gates : ∀ x, x ≠ n → m'.gates.get x = m.gates.get x)
    (gate : m'.gates.get n = { m.gates.get n with mode := .forceOpen, state := .opened, holdCounter := 0 })
    (groups : m'.groups = (m.setKind n .forced).groups) : m'.Law grp ok due ∧ AllFit c m' :=
  ⟨law.remode sounds (by decide) (by simp) gates gate groups, fits_setKind_forced fits groups⟩

/-- A new effective mode of a channel that sounds (R93). -/
theorem remodeSounding (law : m.Law grp ok due) (fits : AllFit c m)
    {mode : GateMode} (changes : mode ≠ (m.gates.get n).mode) (sounds : sounding (m.gates.get n).state = true) :
    ((m.storeMode n mode).reactMode c n mode).Law grp ok due ∧ AllFit c ((m.storeMode n mode).reactMode c n mode) := by
  have state : ((m.storeMode n mode).gates.get n).state = (m.gates.get n).state := by rw [storeMode_get_self]
  have other (x : Channel) (apart : x ≠ n) : (m.storeMode n mode).gates.get x = m.gates.get x :=
    storeMode_get_other mode m (Ne.symm apart)
  have opened : ((m.storeMode n .forceOpen).setState n .opened |>.setKind n .forced).Law grp ok due ∧
      AllFit c ((m.storeMode n .forceOpen).setState n .opened |>.setKind n .forced) := by
    refine law.becomeForced fits sounds (fun x apart => ?_) ?_ rfl
    · rw [setKind_gates, setState_get_other _ _ (Ne.symm apart), storeMode_get_other _ m (Ne.symm apart)]
    · rw [setKind_gates, setState_get_self, storeMode_get_self]
  unfold Mix.reactMode
  rw [state]
  cases now : (m.gates.get n).state with
  | parked => rw [now] at sounds; cases sounds
  | closed => rw [now] at sounds; cases sounds
  | opened =>
    cases mode with
    | auto => exact law.becomeAuto fits sounds (Ne.symm changes)
    | forceClosed => exact law.leaveForceClosed fits sounds
    | forceOpen =>
      have rests : (m.gates.get n).holdCounter = 0 := (law.gate n).rests (by rw [now]; decide)
      refine law.becomeForced fits sounds (fun x apart => other x apart) ?_ rfl
      rw [setKind_gates, storeMode_get_self, ← now, ← rests]
  | holding =>
    cases mode with
    | auto => exact law.becomeAuto fits sounds (Ne.symm changes)
    | forceOpen => exact opened
    | forceClosed => exact law.leaveForceClosed fits sounds
  | lastOn =>
    cases mode with
    | auto => exact law.becomeAuto fits sounds (Ne.symm changes)
    | forceOpen => exact opened
    | forceClosed => exact law.leaveForceClosed fits sounds

/-- A channel that is not in FORCE_OPEN is on no list (R115). -/
theorem not_mem_waiting_of_mode (law : m.Law grp ok due) (free : (m.gates.get n).mode ≠ .forceOpen) (g : Group) :
    n ∉ (m.groups.get g).waiting := fun listed => free (law.waits g n listed).2.1

/-- The effective mode re-evaluated (R92, R93). -/
theorem setMode (law : m.Law c.channelGroup ok due) (fits : AllFit c m)
    (mode : GateMode) : (m.setMode c n mode).Law c.channelGroup ok due ∧ AllFit c (m.setMode c n mode) := by
  by_cases same : mode = (m.gates.get n).mode
  · rw [Mix.setMode, if_pos same]
    exact ⟨law, fits⟩
  rw [setMode_of_ne same]
  have state : ((m.storeMode n mode).gates.get n).state = (m.gates.get n).state := by rw [storeMode_get_self]
  cases now : (m.gates.get n).state with
  | parked =>
    simp only [Mix.reactMode, state, now]
    have stored : (m.storeMode n mode).Law c.channelGroup ok due :=
      law.storeMode (by rw [now]; rfl) (law.not_mem_waiting (by rw [now]; decide)) (fun _ d => d) fun _ closed => by
        rw [now] at closed
        cases closed
    exact ⟨stored, fits⟩
  | closed =>
    simp only [Mix.reactMode, state, now]
    have silent : sounding (m.gates.get n).state = false := by rw [now]; rfl
    split
    case isTrue forced =>
      subst forced
      have stored : (m.storeMode n .forceOpen).Law c.channelGroup ok fun k => due k ∧ k ≠ n :=
        law.storeMode silent (law.not_mem_waiting_of_mode (Ne.symm same)) (fun _ d => d.1) fun d => absurd rfl d.2
      have fits' : AllFit c (m.storeMode n .forceOpen) := fits
      exact stored.askForced fits' (by rw [state, now]) (by rw [storeMode_get_self]) fun k d => by
        by_cases same : k = n
        · exact .inr same
        · exact .inl ⟨d, same⟩
    case isFalse free =>
      have off : (m.unwait n).Law c.channelGroup ok fun k => due k ∧ k ≠ n :=
        (law.mono (fun _ h => h) fun _ h => h.1).unwait fun d => absurd rfl d.2
      have stored : ((m.unwait n).storeMode n mode).Law c.channelGroup ok fun k => due k ∧ k ≠ n :=
        off.storeMode silent (unlisted_unwait m n) (fun _ d => d) fun _ _ => free
      refine ⟨stored.redue fun k d _ forced => ⟨d, ?_⟩, allFit_unwait fits n⟩
      rintro rfl
      rw [storeMode_get_self] at forced
      exact free forced
  | opened => exact law.remodeSounding fits same (by rw [now]; rfl)
  | holding => exact law.remodeSounding fits same (by rw [now]; rfl)
  | lastOn => exact law.remodeSounding fits same (by rw [now]; rfl)

/-! ### Measurements -/

/-- A sounding gate moves between OPEN, HOLDING and LAST_ON. -/
theorem moveGate (law : m.Law grp ok due) (sounds : sounding (m.gates.get n).state = true) {f : Gate → Gate}
    (lawful : (f (m.gates.get n)).Lawful (ok n)) (still : (f (m.gates.get n)).mode = (m.gates.get n).mode)
    (sounds' : sounding (f (m.gates.get n)).state = true)
    (lastOn : (f (m.gates.get n)).state = .lastOn → (m.gates.get n).state = .lastOn ∨
      ∀ g, ∀ y ∈ (m.groups.get g).members, y.channel = n → (m.groups.get g).members.length = 1) :
    (m.onGate n f).Law grp ok due := by
  have self : (m.onGate n f).gates.get n = f (m.gates.get n) := by simp
  have other (k : Channel) (apart : k ≠ n) : (m.onGate n f).gates.get k = m.gates.get k := by
    simp [Table.get_modify_other _ _ (Ne.symm apart)]
  refine law.relabel (fun _ => rfl) (fun _ => rfl) (fun k => ?_) (fun k => ?_) (fun g y member => ?_)
    (fun g y member last => ?_) (fun g k listed => ?_) fun k d closed forced => ?_
  · by_cases same : k = n
    · subst same
      rw [self]
      exact lawful
    · rw [other k same]
      exact law.gate k
  · by_cases same : k = n
    · subst same
      rw [self, sounds, sounds']
    · rw [other k same]
  · by_cases same : y.channel = n
    · rw [same, self, still, ← same]
      exact law.kind g y member
    · rw [other _ same]
      exact law.kind g y member
  · by_cases same : y.channel = n
    · rw [same, self] at last
      obtain was | one := lastOn last
      · rw [← same] at was
        rw [law.lastOn g y member was]
        rfl
      · exact one g y member same
    · rw [other _ same] at last
      rw [law.lastOn g y member last]
      rfl
  · obtain ⟨closed, forced, -⟩ := law.waits g k listed
    have apart : k ≠ n := by
      rintro rfl
      rw [closed] at sounds
      cases sounds
    rw [other k apart]
    exact ⟨closed, forced⟩
  · by_cases same : k = n
    · subst same
      rw [self] at closed
      rw [closed] at sounds'
      cases sounds'
    · rw [other k same] at closed forced
      exact ⟨d, closed, forced⟩

/-- A sounding channel is OPEN again. -/
theorem reopen (law : m.Law grp ok due) (sounds : sounding (m.gates.get n).state = true) :
    (m.setState n .opened).Law grp ok due :=
  law.moveGate sounds (Gate.lawful_opened ((law.gate n).sounds sounds) ((law.gate n).ok fun parked => by
    rw [parked] at sounds
    cases sounds)) rfl rfl nofun

/-- The measurement recorded (R83, R112). -/
theorem record (law : m.Law grp ok due) (l : Nat) : (m.record n l).Law grp ok due := by
  have gates (k : Channel) : ((m.record n l).gates.get k).state = (m.gates.get k).state ∧
      ((m.record n l).gates.get k).mode = (m.gates.get k).mode ∧
      ((m.record n l).gates.get k).holdCounter = (m.gates.get k).holdCounter := by
    by_cases same : n = k
    · subst same
      simp [Mix.record]
    · simp [Mix.record, Table.get_modify_other _ _ same]
  have groups (g : Group) : (m.record n l).groups.get g = { m.groups.get g with
      members := (m.groups.get g).members.map fun y => if y.channel = n then { y with latest := l } else y } := by
    simp [Mix.record]
  refine law.relabel (fun g => ?_) (fun g => ?_) (fun k => ?_) (fun k => ?_) (fun g y member => ?_)
    (fun g y member last => ?_) (fun g k listed => ?_) fun k d closed forced => ?_
  · rw [groups, List.map_map]
    refine List.map_congr_left fun x _ => ?_
    simp only [Function.comp_apply]
    split <;> rfl
  · rw [groups]
  · obtain ⟨state, mode, counter⟩ := gates k
    obtain ⟨counts, rests, sounds, auto, up⟩ := law.gate k
    exact ⟨by rwa [state, counter], by rwa [state, counter], by rwa [state, mode], by rwa [state, mode], by rwa [state]⟩
  · rw [(gates k).1]
  · rw [groups] at member
    obtain ⟨x, old, rfl⟩ := List.mem_map.mp member
    rw [(gates _).2.1]
    have now := law.kind g x old
    split
    case isTrue same => simpa [same] using now
    case isFalse => exact now
  · rw [(gates _).1] at last
    rw [law.lastOn g y member last]
    rfl
  · obtain ⟨closed, forced, -⟩ := law.waits g k listed
    obtain ⟨state, mode, -⟩ := gates k
    exact ⟨state.trans closed, mode.trans forced⟩
  · obtain ⟨state, mode, -⟩ := gates k
    exact ⟨d, state.symm.trans closed, mode.symm.trans forced⟩

theorem allFit_record (fits : AllFit c m) (l : Nat) : AllFit c (m.record n l) := fun g => by
  have groups : (m.record n l).groups.get g = { m.groups.get g with
      members := (m.groups.get g).members.map fun y => if y.channel = n then { y with latest := l } else y } := by
    simp [Mix.record]
  rw [groups]
  refine ⟨by rw [List.length_map]; exact (fits g).bound, fun some => ?_⟩
  obtain ⟨full, forced⟩ := (fits g).full some
  refine ⟨by rw [List.length_map]; exact full, fun y member => ?_⟩
  obtain ⟨x, old, rfl⟩ := List.mem_map.mp member
  split <;> exact forced x old

/-- The end of a countdown (R90). -/
theorem endCountdown (law : m.Law grp ok due) (fits : AllFit c m)
    (holding : (m.gates.get n).state = .holding) :
    (m.endCountdown c n).Law grp ok due ∧ AllFit c (m.endCountdown c n) := by
  have auto : (m.gates.get n).mode = .auto := (law.gate n).auto (.inl holding)
  have sounds : sounding (m.gates.get n).state = true := by rw [holding]; rfl
  have up : ok n := (law.gate n).ok (by rw [holding]; decide)
  have left := law.leaveClosed (c := c) (n := n) fits up fun _ => by rw [auto]; decide
  unfold Mix.endCountdown
  split
  case h_1 => exact left
  case h_2 g found =>
    split
    case isTrue alone =>
      obtain ⟨-, -, one⟩ := alone
      refine ⟨law.moveGate sounds ⟨nofun, fun _ => rfl, fun _ => by rw [auto]; decide, fun _ => auto, fun _ => up⟩ rfl rfl
        fun _ => .inr fun h y member same => ?_, fits⟩
      have := law.memberGroup_eq member
      rw [same, found] at this
      cases this
      exact one
    case isFalse => exact left

/-- The gate machine acts on a measurement (R87 to R91). -/
theorem actOn (law : m.Law c.channelGroup ok due) (fits : AllFit c m)
    (hold : 1 ≤ (c.channels.get n).holdTime) (l : Nat) :
    (m.actOn c n l).Law c.channelGroup ok due ∧ AllFit c (m.actOn c n l) := by
  have sounds (st : GateState) (now : (m.gates.get n).state = st) (up : sounding st = true) :
      sounding (m.gates.get n).state = true := now ▸ up
  unfold Mix.actOn
  cases now : (m.gates.get n).state with
  | parked => exact ⟨law, fits⟩
  | closed =>
    dsimp only
    split
    case isTrue asks => exact law.askAuto fits now asks.1 l
    case isFalse => exact ⟨law, fits⟩
  | opened =>
    have up : ok n := (law.gate n).ok (by rw [now]; decide)
    dsimp only
    split
    case isTrue faded =>
      refine ⟨law.moveGate (sounds _ now rfl) ⟨fun _ => hold, fun other => absurd rfl other, fun _ => ?_, fun _ => faded.1,
        fun _ => up⟩ rfl rfl nofun, fits⟩
      rw [faded.1]
      decide
    case isFalse => exact ⟨law, fits⟩
  | holding =>
    have auto : (m.gates.get n).mode = .auto := (law.gate n).auto (.inl now)
    have up : ok n := (law.gate n).ok (by rw [now]; decide)
    dsimp only
    split
    case isTrue => exact ⟨law.reopen (sounds _ now rfl), fits⟩
    case isFalse =>
      split
      case isTrue => exact law.endCountdown fits now
      case isFalse more =>
        refine ⟨law.moveGate (sounds _ now rfl) ⟨fun _ => ?_, fun other => absurd now other, fun _ => ?_, fun _ => auto,
          fun _ => up⟩ rfl (sounds _ now rfl) fun last => .inl last, fits⟩
        · dsimp only
          omega
        · rw [auto]
          decide
  | lastOn =>
    dsimp only
    split
    case isTrue => exact ⟨law.reopen (sounds _ now rfl), fits⟩
    case isFalse => exact ⟨law, fits⟩

/-- A measurement recorded and acted on. -/
theorem measure (law : m.Law c.channelGroup ok due) (fits : AllFit c m)
    (hold : 1 ≤ (c.channels.get n).holdTime) (l : Nat) :
    (m.measure c n l).Law c.channelGroup ok due ∧ AllFit c (m.measure c n l) :=
  (law.record l).actOn (allFit_record fits l) hold l

/-! ### Fitting a set -/

/-- AUTO members removed, the quietest first, until the set fits or none is left (R106). -/
theorem fitAuto {fuel : Nat} (law : m.Law grp ok due) (fuels : (m.groups.get g).members.length ≤ fuel) :
    (m.fitAuto maxOpen g fuel).Law grp ok due ∧ Local grp g m (m.fitAuto maxOpen g fuel) ∧
      ((m.fitAuto maxOpen g fuel).groups.get g).members.Sublist (m.groups.get g).members ∧
      ((m.fitAuto maxOpen g fuel).groups.get g).waiting = (m.groups.get g).waiting ∧
      (((m.fitAuto maxOpen g fuel).groups.get g).members.length ≤ maxOpen ∨
        ∀ y ∈ ((m.fitAuto maxOpen g fuel).groups.get g).members, y.kind = .forced) := by
  induction fuel generalizing m with
  | zero => exact ⟨law, .refl .., .refl _, rfl, .inl (by simp only [Mix.fitAuto]; omega)⟩
  | succ fuel ih =>
    rw [Mix.fitAuto]
    split
    case isTrue room => exact ⟨law, .refl .., .refl _, rfl, .inl room⟩
    case isFalse =>
      split
      case h_1 none => exact ⟨law, .refl .., .refl _, rfl, .inr (kind_of_quietest_none none)⟩
      case h_2 v found =>
        obtain ⟨member, auto, -⟩ := quietest_some found
        have out := law.memberGroup_eq member
        have length := law.length_without member
        have set := evict_groups_get_self out .closed
        obtain ⟨next, near, sub, waiting, fit⟩ := ih (law.evict out (.inl rfl) fun _ _ => law.mode_ne_of_auto member auto)
          (by rw [set]; simp only; omega)
        rw [set] at sub waiting
        exact ⟨next, (law.local_evict out _).trans near, sub.trans List.filter_sublist, waiting, fit⟩

/-- FORCED members removed, the latest entered first, each joining the forced-wait list (R121). -/
theorem fitForced {fuel : Nat} (law : m.Law grp ok due) (fuels : (m.groups.get g).members.length ≤ fuel)
    (forced : (m.groups.get g).members.length ≤ maxOpen ∨ ∀ y ∈ (m.groups.get g).members, y.kind = .forced) :
    (m.fitForced maxOpen g fuel).Law grp ok due ∧ Local grp g m (m.fitForced maxOpen g fuel) ∧
      ((m.fitForced maxOpen g fuel).groups.get g).members.length ≤ maxOpen := by
  induction fuel generalizing m with
  | zero => exact ⟨law, .refl .., by simp only [Mix.fitForced]; omega⟩
  | succ fuel ih =>
    rw [Mix.fitForced]
    split
    case isTrue room => exact ⟨law, .refl .., room⟩
    case isFalse crowded =>
      have allForced := forced.resolve_left crowded
      split
      case h_1 none => exact ⟨law, .refl .., by simp [List.getLast?_eq_none_iff.mp none]⟩
      case h_2 v last =>
        have member : v ∈ (m.groups.get g).members := List.mem_of_getLast? last
        have out := law.memberGroup_eq member
        have mode := (law.kind g v member).mp (allForced v member)
        have length := law.length_without member
        have set := evict_groups_get_self out .closed
        have evicted : (m.evict v.channel .closed).Law grp ok fun k => due k ∧ k ≠ v.channel :=
          (law.mono (fun _ h => h) fun _ h => h.1).evict out (.inl rfl) fun _ d => absurd rfl d.2
        have queued : ((m.evict v.channel .closed).enqueueWaiting g v.channel).Law grp ok due :=
          evicted.enqueueWaiting (by rw [evict_get_self]) (by rw [evict_get_self]; exact mode) (law.own g v member)
            fun k d => by
              by_cases same : k = v.channel
              · exact .inr same
              · exact .inl ⟨d, same⟩
        have members : (((m.evict v.channel .closed).enqueueWaiting g v.channel).groups.get g).members =
            without v.channel (m.groups.get g).members := by
          rw [enqueueWaiting_groups_get_self, set]
        obtain ⟨next, near, fit⟩ := ih queued (by rw [members]; omega) (.inr fun y old => by
          rw [members] at old
          exact allForced y (List.mem_filter.mp old).1)
        exact ⟨next, ((law.local_evict out _).trans (local_enqueueWaiting _)).trans near, fit⟩

/-- The LAST_ON member leaves (R91, R105, R121). -/
theorem dropLastOn (law : m.Law grp ok due) :
    (m.dropLastOn g).Law grp ok due ∧ Local grp g m (m.dropLastOn g) ∧
      ((m.dropLastOn g).groups.get g).members.length ≤ (m.groups.get g).members.length := by
  unfold Mix.dropLastOn
  split
  case h_1 => exact ⟨law, .refl .., le_rfl⟩
  case h_2 y found =>
    obtain ⟨member, lastOn⟩ := lastOnMember_some found
    have out := law.memberGroup_eq member
    refine ⟨law.evict out (.inl rfl) fun _ _ => law.mode_ne_of_lastOn lastOn, law.local_evict out _, ?_⟩
    rw [evict_groups_get_self out]
    exact List.length_filter_le _ _

end Law

end Mix

end Sys2Proof.Machine
end

section
/-! SUPPORT. The law of the sets through an arrangement switch (R120, R121), and which channels an operation can park. -/

namespace Sys2Proof.Machine

open Sys2Proof.Safety

namespace Mix

/-- The forced asks of the channels that came into a group at a switch (R121). -/
def askMoved (c : Settings) (moved : Channel → Bool) (g : Group) (ns : List Channel) (m : Mix) : Mix :=
  ns.foldl (fun m n =>
    if c.channelGroup n = some g ∧ moved n ∧ (m.gates.get n).state = .closed ∧ (m.gates.get n).mode = .forceOpen then
      m.askForced c n
    else m) m

/-- A set brought down to its record, and offered to its list (R121). -/
def shrink (c : Settings) (g : Group) (m : Mix) : Mix :=
  let sized := m.fitOpenSet (c.groupRecord g).maxOpen g
  let forced := sized.fitForced (c.groupRecord g).maxOpen g (sized.groups.get g).openCount
  if (c.groupRecord g).lastHold then forced else forced.dropLastOn g

theorem fitAtSwitch_eq (c : Settings) (moved : Channel → Bool) (g : Group) (m : Mix) :
    m.fitAtSwitch c moved g = ((m.shrink c g).offer c g).askMoved c moved g (List.finRange 16) := rfl

/-- A channel of no set and no list. -/
def Apart (m : Mix) (n : Channel) : Prop :=
  sounding (m.gates.get n).state = false ∧ ∀ g, n ∉ (m.groups.get g).waiting

namespace Law

variable {grp : Channel → Option Group} {ok due : Channel → Prop} {m m' : Mix} {n : Channel} {g : Group} {maxOpen : Nat}
  {c : Settings} {moved : Channel → Bool}

/-- Channels of no set and no list that need not wait may belong to any group. -/
theorem regroup {grp' : Channel → Option Group} (law : m.Law grp ok due) (apart : ∀ k, grp' k ≠ grp k →
    sounding (m.gates.get k).state = false ∧ (∀ g, k ∉ (m.groups.get g).waiting) ∧ ¬ due k) : m.Law grp' ok due := by
  have stays {k : Channel} (h : ¬(sounding (m.gates.get k).state = false ∧ (∀ g, k ∉ (m.groups.get g).waiting) ∧ ¬ due k)) :
      grp' k = grp k := Classical.not_not.mp fun other => h (apart k other)
  refine { law with own := fun g y member => ?_, waits := fun g k listed => ?_, complete := fun k g d closed forced own => ?_ }
  · rw [stays]
    · exact law.own g y member
    · rintro ⟨silent, -⟩
      rw [law.sounds g y member] at silent
      cases silent
  · rw [stays]
    · exact law.waits g k listed
    · exact fun h => h.2.1 g listed
  · rw [stays fun h => h.2.2 d] at own
    exact law.complete k g d closed forced own

/-- The forced asks of the channels that came into the group. -/
theorem askMoved {ns : List Channel} (law : m.Law c.channelGroup ok due)
    (fits : (m.groups.get g).Fits (c.groupRecord g).maxOpen) :
    (m.askMoved c moved g ns).Law c.channelGroup ok
        (fun k => due k ∨ (k ∈ ns ∧ c.channelGroup k = some g ∧ moved k = true)) ∧
      Local c.channelGroup g m (m.askMoved c moved g ns) ∧
      ((m.askMoved c moved g ns).groups.get g).Fits (c.groupRecord g).maxOpen := by
  induction ns generalizing m due with
  | nil => exact ⟨law.mono (fun _ h => h) (by simp), .refl .., fits⟩
  | cons n ns ih =>
    have rest {k : Channel} (h : due k ∨ (k ∈ n :: ns ∧ c.channelGroup k = some g ∧ moved k = true)) :
        (due k ∨ (k = n ∧ c.channelGroup n = some g ∧ moved n = true)) ∨
          (k ∈ ns ∧ c.channelGroup k = some g ∧ moved k = true) := by
      obtain d | ⟨at_, own, new⟩ := h
      · exact .inl (.inl d)
      · obtain rfl | later := List.mem_cons.mp at_
        · exact .inl (.inr ⟨rfl, own, new⟩)
        · exact .inr ⟨later, own, new⟩
    rw [Mix.askMoved, List.foldl_cons, ← Mix.askMoved]
    split
    case isTrue asks =>
      obtain ⟨own, -, closed, forced⟩ := asks
      obtain ⟨next, near, fit⟩ := law.forcedAsk (due' := fun k => due k ∨ (k = n ∧ c.channelGroup n = some g ∧ moved n = true))
        closed own forced fits (fun _ d => d.imp_right And.left) (askForced_of_group m own)
      obtain ⟨last, far, done⟩ := ih next fit
      exact ⟨last.mono (fun _ h => h) fun k h => rest h, near.trans far, done⟩
    case isFalse quiet =>
      have now : m.Law c.channelGroup ok fun k => due k ∨ (k = n ∧ c.channelGroup n = some g ∧ moved n = true) :=
        law.redue fun k d closed forced => d.resolve_right fun ⟨same, own, new⟩ => by
          subst same
          exact quiet ⟨own, new, closed, forced⟩
      obtain ⟨last, far, done⟩ := ih now fits
      exact ⟨last.mono (fun _ h => h) fun k h => rest h, far, done⟩

/-- A set brought down to its record. -/
theorem shrink (law : m.Law grp ok due) : (m.shrink c g).Law grp ok due ∧ Local grp g m (m.shrink c g) ∧
    ((m.shrink c g).groups.get g).members.length ≤ (c.groupRecord g).maxOpen := by
  obtain ⟨sized, near, -, -, fit⟩ := law.fitAuto (g := g) (maxOpen := (c.groupRecord g).maxOpen) le_rfl
  obtain ⟨forced, far, bound⟩ := sized.fitForced le_rfl fit
  obtain ⟨dropped, beyond, fewer⟩ := forced.dropLastOn (g := g)
  simp only [Mix.shrink, fitOpenSet]
  split
  · exact ⟨forced, near.trans far, bound⟩
  · exact ⟨dropped, (near.trans far).trans beyond, fewer.trans bound⟩

/-- One group at step 5 of a switch (R121). -/
theorem fitAtSwitch (law : m.Law c.channelGroup ok due) :
    (m.fitAtSwitch c moved g).Law c.channelGroup ok (fun k => due k ∨ (c.channelGroup k = some g ∧ moved k = true)) ∧
      Local c.channelGroup g m (m.fitAtSwitch c moved g) ∧
      ((m.fitAtSwitch c moved g).groups.get g).Fits (c.groupRecord g).maxOpen := by
  obtain ⟨shrunk, near, bound⟩ := law.shrink (c := c) (g := g)
  obtain ⟨offered, far, fit⟩ := shrunk.offer (c := c) bound
  obtain ⟨asked, beyond, fit⟩ := offered.askMoved (moved := moved) (ns := List.finRange 16) fit
  rw [fitAtSwitch_eq]
  exact ⟨asked.mono (fun _ h => h) fun k => Or.imp_right fun h => ⟨List.mem_finRange k, h⟩, (near.trans far).trans beyond,
    fit⟩

/-- The groups of a list fitted one after the other. -/
theorem fitGroups {gs : List Group} (law : m.Law c.channelGroup ok due)
    {done : Group → Prop} (fits : ∀ g, done g → (m.groups.get g).Fits (c.groupRecord g).maxOpen) :
    (gs.foldl (fun m g => m.fitAtSwitch c moved g) m).Law c.channelGroup ok
        (fun k => due k ∨ (∃ g ∈ gs, c.channelGroup k = some g ∧ moved k = true)) ∧
      ∀ g, done g ∨ g ∈ gs →
        ((gs.foldl (fun m g => m.fitAtSwitch c moved g) m).groups.get g).Fits (c.groupRecord g).maxOpen := by
  induction gs generalizing m due done with
  | nil => exact ⟨law.mono (fun _ h => h) (by simp), by simpa using fits⟩
  | cons h gs ih =>
    obtain ⟨next, near, fit⟩ := law.fitAtSwitch (g := h) (moved := moved)
    obtain ⟨last, all⟩ := ih next (done := fun g => done g ∨ g = h) fun g now => by
      by_cases same : h = g
      · exact same ▸ fit
      · rw [near.others g same]
        exact fits g (now.resolve_right (Ne.symm same))
    refine ⟨last.mono (fun _ h => h) fun k d => ?_, fun g now => all g ?_⟩
    · obtain d | ⟨g, at_, own, new⟩ := d
      · exact .inl (.inl d)
      · obtain rfl | later := List.mem_cons.mp at_
        · exact .inl (.inr ⟨own, new⟩)
        · exact .inr ⟨g, later, own, new⟩
    · rw [List.mem_cons] at now
      tauto

/-- Step 5 of a switch (R121): every set fits, and every channel that must wait does. -/
theorem fitAll (law : m.Law c.channelGroup ok fun n => moved n = false) :
    (m.fitAll c moved).Law c.channelGroup ok (fun _ => True) ∧ AllFit c (m.fitAll c moved) := by
  obtain ⟨next, fits⟩ := law.fitGroups (moved := moved) (gs := List.finRange 6) (done := fun _ => False) nofun
  refine ⟨{ next with complete := fun k g _ closed forced own => next.complete k g ?_ closed forced own },
    fun g => fits g (.inr (List.mem_finRange g))⟩
  cases new : moved k with
  | false => exact .inl rfl
  | true => exact .inr ⟨g, List.mem_finRange g, own, rfl⟩

/-- A channel taken at a switch is of no set and no list, and those that were stay so (R120, step 2). -/
theorem takeOne (law : m.Law grp ok fun k => moved k = false) (new : moved n = true) {m' : Mix}
    (h : m' = if (memberGroup m.groups n).isSome then m.leaveQuietly n .closed else m.unwait n) :
    m'.Law grp ok (fun k => moved k = false) ∧ m'.Apart n ∧ ∀ k, m.Apart k → m'.Apart k := by
  subst h
  have undue : ¬ moved n = false := by simp [new]
  cases found : memberGroup m.groups n with
  | none =>
    have silent := law.memberGroup_eq_none_iff.mp found
    refine ⟨law.unwait fun d => absurd d undue, ⟨silent, unlisted_unwait m n⟩, fun k apart => ⟨apart.1, fun g listed => ?_⟩⟩
    simp only [Option.isSome_none, Bool.false_eq_true, if_false, unwait_groups_get, List.mem_filter] at listed
    exact apart.2 g listed.1
  | some g =>
    obtain ⟨sounds, -⟩ := law.sounding_of_memberGroup found
    have up : ok n := (law.gate n).ok fun parked => by
      rw [parked] at sounds
      cases sounds
    have waiting (k : Group) : ((m.evict n .closed).groups.get k).waiting = (m.groups.get k).waiting := by
      by_cases same : g = k
      · subst same; rw [evict_groups_get_self found]
      · rw [evict_groups_get_other found _ same]
    have self : (m.evict n .closed).Apart n := by
      refine ⟨by rw [evict_get_self]; rfl, fun k => ?_⟩
      rw [waiting]
      exact law.not_mem_waiting (fun closed => by rw [closed] at sounds; cases sounds) k
    rw [law.leaveQuietly_eq found]
    refine ⟨law.evict found (.inl rfl) fun _ d => absurd d undue, self, fun k apart => ?_⟩
    by_cases same : n = k
    · exact same ▸ self
    · refine ⟨?_, fun g => ?_⟩
      · simp only [Option.isSome_some, if_true]
        rw [evict_get_other _ _ same]
        exact apart.1
      · simp only [Option.isSome_some, if_true]
        rw [waiting]
        exact apart.2 g

/-- Step 2 of a switch (R120): every channel that changes group is of no set and no list. -/
theorem takeMoved {grp' : Channel → Option Group} (law : m.Law grp ok due) (moves : ∀ k, grp' k ≠ grp k → moved k = true)
    (dues : ∀ k, moved k = false → due k) : (m.takeMoved moved).Law grp' ok fun k => moved k = false := by
  have fold (ns : List Channel) {u : Mix} (law : u.Law grp ok fun k => moved k = false) :
      (ns.foldl (fun m n => if moved n then
        if (memberGroup m.groups n).isSome then m.leaveQuietly n .closed else m.unwait n else m) u).Law grp ok
          (fun k => moved k = false) ∧
        ∀ k, u.Apart k ∨ (k ∈ ns ∧ moved k = true) → (ns.foldl (fun m n => if moved n then
          if (memberGroup m.groups n).isSome then m.leaveQuietly n .closed else m.unwait n else m) u).Apart k := by
    induction ns generalizing u with
    | nil => exact ⟨law, by simp⟩
    | cons n ns ih =>
      rw [List.foldl_cons]
      by_cases new : moved n = true
      · obtain ⟨next, self, others⟩ := law.takeOne new rfl
        rw [if_pos new]
        obtain ⟨last, all⟩ := ih next
        refine ⟨last, fun k h => all k ?_⟩
        obtain old | ⟨at_, taken⟩ := h
        · exact .inl (others k old)
        · obtain rfl | later := List.mem_cons.mp at_
          · exact .inl self
          · exact .inr ⟨later, taken⟩
      · rw [if_neg new]
        obtain ⟨last, all⟩ := ih law
        refine ⟨last, fun k h => all k (h.imp_right fun ⟨at_, taken⟩ => ⟨?_, taken⟩)⟩
        obtain rfl | later := List.mem_cons.mp at_
        · exact absurd taken new
        · exact later
  obtain ⟨taken, apart⟩ := fold (List.finRange 16) (law.mono (fun _ h => h) dues)
  refine taken.regroup fun k other => ?_
  obtain ⟨silent, unlisted⟩ := apart k (.inr ⟨List.mem_finRange k, moves k other⟩)
  exact ⟨silent, unlisted, by simp [moves k other]⟩

end Law

/-! ### What an operation parks -/

/-- What leads from `m` to `m'` parks the channels of `p` at most. -/
def Parks (p : Channel → Prop) (m m' : Mix) : Prop :=
  ∀ k, (m'.gates.get k).state = .parked → (m.gates.get k).state = .parked ∨ p k

namespace Parks

variable {p : Channel → Prop} {m u v : Mix} {c : Settings}

theorem refl (p : Channel → Prop) (m : Mix) : Parks p m m := fun _ => .inl

theorem trans (h : Parks p m u) (k : Parks p u v) : Parks p m v := fun x parked => (k x parked).elim (h x) .inr

theorem ite {x : Prop} [Decidable x] (h : Parks p m u) (k : Parks p m v) : Parks p m (if x then u else v) := by
  split
  · exact h
  · exact k

theorem same (h : Parks p m u) (states : ∀ k, (v.gates.get k).state = (u.gates.get k).state) : Parks p m v :=
  fun k parked => h k ((states k).symm.trans parked)

theorem setState (h : Parks p m u) {n : Channel} {st : GateState} (parks : st = .parked → p n) :
    Parks p m (u.setState n st) := fun k parked => by
  rw [setState_get] at parked
  split at parked
  case isTrue same => exact .inr (same ▸ parks parked)
  case isFalse => exact h k parked

theorem evict (h : Parks p m u) {n : Channel} {st : GateState} (parks : st = .parked → p n) :
    Parks p m (u.evict n st) := fun k parked => by
  rw [evict_get] at parked
  split at parked
  case isTrue same => exact .inr (same ▸ parks parked)
  case isFalse => exact h k parked

theorem evictClosed (h : Parks p m u) (n : Channel) : Parks p m (u.evict n .closed) := h.evict nofun

theorem join (h : Parks p m u) (g : Group) (n : Channel) (kind : EntryKind) : Parks p m (u.join g n kind) :=
  fun k parked => by
    rw [join_get] at parked
    split at parked
    · cases parked
    · exact h k parked

theorem onGate (h : Parks p m u) (n : Channel) {f : Gate → Gate}
    (up : (f (u.gates.get n)).state = .parked → (u.gates.get n).state = .parked) :
    Parks p m (u.onGate n f) := fun k parked => by
  by_cases same : n = k
  · subst same
    rw [onGate_gates, Table.get_modify_self] at parked
    exact h n (up parked)
  · rw [onGate_gates, Table.get_modify_other _ _ same] at parked
    exact h k parked

theorem enterForced (h : Parks p m u) (maxOpen : Nat) (g : Group) (n : Channel) :
    Parks p m (u.enterForced maxOpen g n) := by
  unfold Mix.enterForced
  split
  · exact (h.evictClosed _).join g n _
  · refine .ite (h.join g n _) ?_
    split
    · exact (h.evictClosed _).join g n _
    · exact h

theorem askForced (h : Parks p m u) (c : Settings) (n : Channel) : Parks p m (u.askForced c n) := by
  unfold Mix.askForced
  split
  · exact h
  · exact .ite (h.enterForced _ _ n) (h.same fun _ => rfl)

theorem offerList (h : Parks p m u) (maxOpen : Nat) (g : Group) (ns : List Channel) :
    Parks p m (Mix.offerList maxOpen g ns u) := by
  induction ns generalizing u with
  | nil => exact h
  | cons n ns ih => exact .ite (ih (h.enterForced maxOpen g n)) h

theorem offer (h : Parks p m u) (c : Settings) (g : Group) : Parks p m (u.offer c g) := h.offerList _ g _

theorem leave (h : Parks p m u) (c : Settings) {n : Channel} {st : GateState} (parks : st = .parked → p n) :
    Parks p m (u.leave c n st) := by
  unfold Mix.leave
  have off : Parks p m (u.unwait n) := h
  split
  · exact off.setState parks
  · exact (off.evict parks).offer c _

theorem leaveClosed (h : Parks p m u) (c : Settings) (n : Channel) : Parks p m (u.leave c n .closed) := h.leave c nofun

theorem leaveQuietly (h : Parks p m u) {n : Channel} {st : GateState} (parks : st = .parked → p n) :
    Parks p m (u.leaveQuietly n st) := Parks.evict (u := u.unwait n) h parks

theorem leaveParked (h : Parks p m u) (c : Settings) (n : Channel) : Parks p m (u.leaveParked c n) :=
  .ite (Parks.askForced (h.setState (st := .closed) nofun) c n) (h.setState (st := .closed) nofun)

theorem becomeAuto (h : Parks p m u) (c : Settings) (n : Channel) : Parks p m (u.becomeAuto c n) := by
  unfold Mix.becomeAuto
  split
  · exact h
  · exact .ite (Parks.offer (u := u.setKind n .auto) h c _) h

theorem reactMode (h : Parks p m u) (c : Settings) (n : Channel) (mode : GateMode) : Parks p m (u.reactMode c n mode) := by
  unfold Mix.reactMode
  have forced : Parks p m ((u.setState n .opened).setKind n .forced) := h.setState nofun
  split
  case h_1 => exact h
  case h_2 => exact .ite (h.askForced c n) h
  case h_3 =>
    split
    · exact h.becomeAuto c n
    · exact h
    · exact h.leaveClosed c n
  all_goals
    split
    · exact h.becomeAuto c n
    · exact forced
    · exact h.leaveClosed c n

theorem setMode (h : Parks p m u) (c : Settings) (n : Channel) (mode : GateMode) : Parks p m (u.setMode c n mode) :=
  .ite h ((h.onGate n fun up => up).reactMode c n mode)

theorem askAuto (h : Parks p m u) (c : Settings) (n : Channel) (l : Nat) : Parks p m (u.askAuto c n l) := by
  unfold Mix.askAuto
  split
  · exact h
  · split
    · exact (h.evictClosed _).join _ n _
    · refine .ite (h.join _ n _) ?_
      split
      · exact h
      · refine .ite ?_ h
        exact Parks.join (h.evictClosed _) _ n _

theorem endCountdown (h : Parks p m u) (c : Settings) (n : Channel) : Parks p m (u.endCountdown c n) := by
  unfold Mix.endCountdown
  split
  · exact h.leaveClosed c n
  · exact .ite (h.setState nofun) (h.leaveClosed c n)

theorem measure (h : Parks p m u) (c : Settings) (n : Channel) (l : Nat) : Parks p m (u.measure c n l) := by
  have recorded : Parks p m (u.record n l) := fun k parked => h k (by
    rw [← parked]
    by_cases same : n = k
    · subst same
      simp [Mix.record]
    · simp [Mix.record, Table.get_modify_other _ _ same])
  unfold Mix.measure Mix.actOn
  dsimp only
  split
  case h_1 => exact recorded
  case h_2 => exact .ite (recorded.askAuto c n l) recorded
  case h_3 => exact .ite (recorded.onGate n nofun) recorded
  case h_4 => exact .ite (recorded.setState nofun) (.ite (recorded.endCountdown c n) (recorded.onGate n fun up => up))
  case h_5 => exact .ite (recorded.setState nofun) recorded

theorem fitAuto (h : Parks p m u) (maxOpen : Nat) (g : Group) (fuel : Nat) : Parks p m (u.fitAuto maxOpen g fuel) := by
  induction fuel generalizing u with
  | zero => exact h
  | succ fuel ih =>
    refine .ite h ?_
    split
    · exact h
    · exact ih (h.evictClosed _)

theorem dropLastOn (h : Parks p m u) (g : Group) : Parks p m (u.dropLastOn g) := by
  unfold Mix.dropLastOn
  split
  · exact h
  · exact h.evictClosed _

end Parks

end Mix

end Sys2Proof.Machine
end

section
/-! SUPPORT. `GroupLaw` as the law of the sets, the fit of every set and the law of PARKED; and that re-evaluations of
eligibility, changes of mode and operations that touch none of it keep these (R85, R87, R92, R95). -/

namespace Sys2Proof.Machine

open Sys2Proof.Safety

/-- The law of the sets within an event, and no eligible ALIGNED channel PARKED but those of `late`. -/
structure State.Gating (ok due late : Channel → Prop) (s : State) : Prop where
  law : s.mix.Law s.settings.channelGroup ok due
  awake : ∀ n, s.eligible n = true → s.engine.aligned.get n = true → (s.gates.get n).state = .parked → late n

theorem State.Gating.mono {s : State} {ok due late ok' due' late' : Channel → Prop} (h : s.Gating ok due late)
    (oks : ∀ n, ok n → ok' n) (dues : ∀ n, due' n → due n) (lates : ∀ n, late n → late' n) : s.Gating ok' due' late' :=
  ⟨h.law.mono oks dues, fun n eligible aligned parked => lates n (h.awake n eligible aligned parked)⟩

/-- Every set fits its group's record in the active arrangement. -/
def State.Fit (s : State) : Prop := s.mix.AllFit s.settings

theorem groupLaw_gating {s : State} (h : GroupLaw s) :
    s.Gating (fun n => s.eligible n = true) (fun _ => True) (fun _ => False) where
  law :=
    { gate := fun n => ⟨(h.counter n).1, (h.counter n).2, (h.modes n).1, (h.modes n).2, h.own.1 n⟩
      nodup := h.apart.1
      own := fun g y member => h.own.2 g y.channel ((GroupState.holds_iff _ _).mpr ⟨y, member, rfl⟩)
      sounds := fun g y member => by
        change sounding (s.gates.get y.channel).state = true
        rw [← h.membership]
        have some_ : memberGroup s.groups y.channel ≠ none := fun none =>
          (memberGroup_eq_none _ _).mp none g y member rfl
        exact Option.isSome_iff_ne_none.mpr some_
      kind := h.kind
      lastOn := h.lastOn
      held := fun n sounds => by
        have some_ : (memberGroup s.groups n).isSome = true := (h.membership n).trans sounds
        obtain ⟨g, found⟩ := Option.isSome_iff_exists.mp some_
        exact ⟨g, holds_of_memberGroup found⟩
      queue := fun g => (h.waiting g).1
      waits := fun g n listed => ((h.waiting g).2 n).mp listed
      complete := fun n g _ closed forced own => ((h.waiting g).2 n).mpr ⟨closed, forced, own⟩ }
  awake := fun n eligible aligned parked => h.parked n eligible aligned parked

theorem groupLaw_fit {s : State} (h : GroupLaw s) : s.Fit := fun g => ⟨h.bound g, h.full g⟩

theorem State.Gating.groupLaw {s : State} (h : s.Gating (fun n => s.eligible n = true) (fun _ => True) (fun _ => False))
    (fit : s.Fit) : GroupLaw s where
  membership n := by
    cases sounds : sounding (s.gates.get n).state with
    | false => rw [Option.isSome_eq_false_iff, Option.isNone_iff_eq_none]; exact h.law.memberGroup_eq_none_iff.mpr sounds
    | true =>
      obtain ⟨g, found, -⟩ := h.law.memberGroup_isSome sounds
      exact Option.isSome_iff_exists.mpr ⟨g, found⟩
  apart := by
    refine ⟨h.law.nodup, fun g k n here there => ?_⟩
    obtain ⟨y, member, rfl⟩ := (GroupState.holds_iff _ _).mp here
    obtain ⟨z, other, same⟩ := (GroupState.holds_iff _ _).mp there
    have own := h.law.own g y member
    rw [← same, h.law.own k z other] at own
    exact (Option.some.inj own).symm
  counter n := ⟨(h.law.gate n).counts, (h.law.gate n).rests⟩
  bound g := (fit g).bound
  own := ⟨fun n => (h.law.gate n).ok, fun g n holds => by
    obtain ⟨y, member, rfl⟩ := (GroupState.holds_iff _ _).mp holds
    exact h.law.own g y member⟩
  kind := h.law.kind
  modes n := ⟨(h.law.gate n).sounds, (h.law.gate n).auto⟩
  waiting g := ⟨h.law.queue g, fun n => ⟨h.law.waits g n, fun ⟨closed, forced, own⟩ =>
    h.law.complete n g trivial closed forced own⟩⟩
  full g := (fit g).full
  lastOn := h.law.lastOn
  parked n eligible aligned parked := h.awake n eligible aligned parked

/-! ### Eligibility -/

theorem State.eligible_iff (s : State) (n : Channel) : s.eligible n = true ↔
    (∃ g, s.settings.channelGroup n = some g ∧ (s.settings.groupRecord g).enabled = true) ∧
    (s.gates.get n).station.isSome = true ∧ (s.settings.channels.get n).length ≠ 0 ∧
    (s.sockets.get n).phase.ready = true ∧ s.standby = false := by
  cases own : s.settings.channelGroup n <;>
    simp [State.eligible, State.causes, Causes.empty, own, and_assoc]

/-- Eligibility rests on the channel's group and its record, the station, the window, the socket and standby (R85). -/
theorem State.eligible_congr {s t : State} {n : Channel} (group : t.settings.channelGroup n = s.settings.channelGroup n)
    (enabled : ∀ g, s.settings.channelGroup n = some g →
      (t.settings.groupRecord g).enabled = (s.settings.groupRecord g).enabled)
    (station : (t.gates.get n).station.isSome = (s.gates.get n).station.isSome)
    (window : (t.settings.channels.get n).length = (s.settings.channels.get n).length)
    (ready : (t.sockets.get n).phase.ready = (s.sockets.get n).phase.ready) (standby : t.standby = s.standby) :
    t.eligible n = s.eligible n := by
  rw [Bool.eq_iff_iff, State.eligible_iff, State.eligible_iff, group, station, window, ready, standby]
  refine and_congr_left' ?_
  refine exists_congr fun g => ?_
  exact and_congr_right fun own => by rw [enabled g own]

/-- An event at gates and groups that leaves every station leaves eligibility. -/
theorem OnlyMix.eligible {s t : State} (h : OnlyMix s t) (n : Channel)
    (station : (t.gates.get n).station = (s.gates.get n).station) : t.eligible n = s.eligible n :=
  State.eligible_congr (by rw [h.settings]) (fun _ _ => by rw [h.settings]) (by rw [station]) (by rw [h.settings])
    (by rw [h.sockets]) h.standby

theorem State.onMix_eligible {s : State} {f : Mix → Mix} (n : Channel)
    (station : ((f s.mix).gates.get n).station = (s.gates.get n).station) : (s.onMix f).eligible n = s.eligible n :=
  (OnlyMix.onMix s f).eligible n station

/-! ### What touches no gate and no set -/

/-- `t` has the gates, sets and groups of `s`, and, but for the channels of `p`, its eligibility and no more ALIGNED
flags. -/
structure State.Alike (p : Channel → Prop) (s t : State) : Prop where
  gates : ∀ n, (t.gates.get n).state = (s.gates.get n).state ∧ (t.gates.get n).mode = (s.gates.get n).mode ∧
    (t.gates.get n).holdCounter = (s.gates.get n).holdCounter
  members : ∀ g, (t.groups.get g).members = (s.groups.get g).members
  waiting : ∀ g, (t.groups.get g).waiting = (s.groups.get g).waiting
  group : t.settings.channelGroup = s.settings.channelGroup
  maxOpen : ∀ g, (t.settings.groupRecord g).maxOpen = (s.settings.groupRecord g).maxOpen
  eligible : ∀ n, ¬ p n → t.eligible n = s.eligible n
  aligned : ∀ n, ¬ p n → t.engine.aligned.get n = true → s.engine.aligned.get n = true

namespace State.Alike

variable {s t u : State} {p : Channel → Prop}

theorem refl (p : Channel → Prop) (s : State) : Alike p s s :=
  ⟨fun _ => ⟨rfl, rfl, rfl⟩, fun _ => rfl, fun _ => rfl, rfl, fun _ => rfl, fun _ _ => rfl, fun _ _ => id⟩

theorem trans (h : Alike p s t) (k : Alike p t u) : Alike p s u where
  gates n := by
    obtain ⟨a, b, c⟩ := h.gates n
    obtain ⟨d, e, f⟩ := k.gates n
    exact ⟨d.trans a, e.trans b, f.trans c⟩
  members g := (k.members g).trans (h.members g)
  waiting g := (k.waiting g).trans (h.waiting g)
  group := k.group.trans h.group
  maxOpen g := (k.maxOpen g).trans (h.maxOpen g)
  eligible n apart := (k.eligible n apart).trans (h.eligible n apart)
  aligned n apart := h.aligned n apart ∘ k.aligned n apart

theorem mono {q : Channel → Prop} (h : Alike p s t) (wider : ∀ n, p n → q n) : Alike q s t :=
  { h with
    eligible := fun n apart => h.eligible n fun at_ => apart (wider n at_)
    aligned := fun n apart => h.aligned n fun at_ => apart (wider n at_) }

/-- The same gates, groups, settings, sockets and standby. -/
theorem same (gates : t.gates = s.gates) (groups : t.groups = s.groups) (settings : t.settings = s.settings)
    (sockets : t.sockets = s.sockets) (standby : t.standby = s.standby)
    (aligned : ∀ n, t.engine.aligned.get n = true → s.engine.aligned.get n = true) : Alike p s t where
  gates n := by rw [gates]; exact ⟨rfl, rfl, rfl⟩
  members g := by rw [groups]
  waiting g := by rw [groups]
  group := by rw [settings]
  maxOpen g := by rw [settings]
  eligible n _ := State.eligible_congr (by rw [settings]) (fun _ _ => by rw [settings]) (by rw [gates]) (by rw [settings])
    (by rw [sockets]) standby
  aligned n _ := aligned n

theorem mixLaw (h : Alike p s t) {ok due : Channel → Prop} (law : s.mix.Law s.settings.channelGroup ok due) :
    t.mix.Law t.settings.channelGroup ok due := by
  rw [h.group]
  refine law.relabel (m' := t.mix) (fun g => ?_) h.waiting (fun k => ?_) (fun k => ?_) (fun g y member => ?_)
    (fun g y member last => ?_) (fun g k listed => ?_) fun k d closed forced => ?_
  · exact congrArg _ (h.members g)
  · obtain ⟨counts, rests, sounds, auto, up⟩ := law.gate k
    obtain ⟨state, mode, counter⟩ := h.gates k
    change Gate.Lawful (ok k) (t.gates.get k)
    exact ⟨by rw [state, counter]; exact counts, by rw [state, counter]; exact rests, by rw [state, mode]; exact sounds,
      by rw [state, mode]; exact auto, by rw [state]; exact up⟩
  · exact congrArg sounding (h.gates k).1
  · have := law.kind g y ((h.members g) ▸ member)
    change _ ↔ (t.gates.get y.channel).mode = _
    rw [(h.gates _).2.1]
    exact this
  · have now : (s.gates.get y.channel).state = .lastOn := (h.gates _).1.symm.trans last
    rw [law.lastOn g y member now]
    rfl
  · obtain ⟨closed, forced, -⟩ := law.waits g k listed
    obtain ⟨state, mode, -⟩ := h.gates k
    exact ⟨state.trans closed, mode.trans forced⟩
  · obtain ⟨state, mode, -⟩ := h.gates k
    exact ⟨d, state.symm.trans closed, mode.symm.trans forced⟩

theorem fit (h : Alike p s t) (fit : s.Fit) : t.Fit := fun g => by
  rw [h.maxOpen g]
  exact (fit g).of_members (h.members g) fun some none => some ((h.waiting g).trans none)

/-- What is left of `GroupLaw` until the channels of `p` are re-evaluated. -/
theorem gating (h : Alike p s t) (now : GroupLaw s) :
    t.Gating (fun n => t.eligible n = true ∨ p n) (fun _ => True) p where
  law := (h.mixLaw (groupLaw_gating now).law).mono (fun n able => by
    by_cases apart : p n
    · exact .inr apart
    · exact .inl ((h.eligible n apart).trans able)) fun _ d => d
  awake n eligible aligned parked := by
    by_contra apart
    exact (groupLaw_gating now).awake n ((h.eligible n apart).symm.trans eligible) (h.aligned n apart aligned)
      ((h.gates n).1.symm.trans parked)

theorem groupLaw (h : Alike (fun _ => False) s t) (law : GroupLaw s) : GroupLaw t :=
  ((h.gating law).mono (fun _ => Or.rec id False.elim) (fun _ d => d) fun _ => id).groupLaw (h.fit (groupLaw_fit law))

end State.Alike

/-! ### Operations of the arbiter on the state -/

namespace State.Gating

variable {s : State} {ok due late : Channel → Prop}

/-- An operation at gates and groups that parks channels that are not eligible at most. -/
theorem onMix (h : s.Gating ok due late) {f : Mix → Mix} {ok' due' : Channel → Prop}
    (law : (f s.mix).Law s.settings.channelGroup ok' due') (station : ∀ n, ((f s.mix).gates.get n).station = (s.gates.get n).station)
    (parks : Mix.Parks (fun n => s.eligible n = false) s.mix (f s.mix)) : (s.onMix f).Gating ok' due' late where
  law := { law with }
  awake n eligible aligned parked := by
    rw [State.onMix_eligible n (station n)] at eligible
    obtain was | out := parks n parked
    · exact h.awake n eligible aligned was
    · rw [eligible] at out
      cases out

end State.Gating

theorem State.reEvaluate_eligible (s : State) (n k : Channel) : (s.reEvaluate n).eligible k = s.eligible k := by
  unfold State.reEvaluate
  split
  · split
    · exact State.onMix_eligible k (((Mix.Frame.refl _ _).leaveParked Mix.postsGates_all _ n).station k)
    · rfl
  · split
    · rfl
    · exact State.onMix_eligible k (((Mix.Frame.refl _ _).leave Mix.postsGates_all _ n _).station k)

/-- The eligibility of one channel re-evaluated (R85, R87, R95). -/
theorem State.Gating.reEvaluate {s : State} {ok due late : Channel → Prop} (h : s.Gating ok due late) (fit : s.Fit)
    (wide : ∀ k, s.eligible k = true → s.engine.aligned.get k = true → ok k) (n : Channel) :
    (s.reEvaluate n).Gating (fun k => ok k ∧ (k = n → s.eligible n = true)) due (fun k => late k ∧ k ≠ n) ∧
      (s.reEvaluate n).Fit := by
  have frame (k : EventMask) : Mix.Frame k s.mix s.mix := .refl ..
  have strict {m : Mix} (law : m.Law s.settings.channelGroup ok due)
      (up : (m.gates.get n).state ≠ .parked → s.eligible n = true) :
      m.Law s.settings.channelGroup (fun k => ok k ∧ (k = n → s.eligible n = true)) due :=
    { law with gate := fun k => { law.gate k with ok := fun out => ⟨(law.gate k).ok out, fun same => up (same ▸ out)⟩ } }
  unfold State.reEvaluate
  split
  case isTrue eligible =>
    split
    case isTrue leaves =>
      obtain ⟨parked, aligned⟩ := leaves
      obtain ⟨law, fits⟩ := h.law.leaveParked fit parked (wide n eligible aligned)
      have parks := (Mix.Parks.refl (fun k => s.eligible k = false) s.mix).leaveParked s.settings n
      have gating := h.onMix (strict law fun _ => eligible) ((frame _).leaveParked Mix.postsGates_all _ n).station parks
      refine ⟨⟨gating.law, fun k able aligned rests => ⟨gating.awake k able aligned rests, ?_⟩⟩, fits⟩
      rintro rfl
      have woken : Mix.Parks (fun _ => False) (s.mix.setState k .closed) (s.mix.leaveParked s.settings k) :=
        .ite ((Mix.Parks.refl _ _).askForced s.settings k) (.refl _ _)
      obtain now | never := woken k rests
      · rw [Mix.setState_get_self] at now
        cases now
      · exact never
    case isFalse stays =>
      refine ⟨⟨strict h.law fun _ => eligible, fun k able aligned parked =>
        ⟨h.awake k able aligned parked, ?_⟩⟩, fit⟩
      rintro rfl
      exact stays ⟨parked, aligned⟩
  case isFalse barred =>
    have out : ∀ k, s.eligible k = true → k ≠ n := by
      rintro k able rfl
      exact barred able
    split
    case isTrue parked =>
      exact ⟨⟨strict h.law fun up => absurd parked up, fun k able aligned rests =>
        ⟨h.awake k able aligned rests, out k able⟩⟩, fit⟩
    case isFalse =>
      obtain ⟨law, fits⟩ := h.law.leave (n := n) (st := .parked) fit (.inr rfl) nofun nofun
      have parks : Mix.Parks (fun k => s.eligible k = false) s.mix (s.mix.leave s.settings n .parked) :=
        (Mix.Parks.refl _ _).leave s.settings fun _ => Bool.not_eq_true _ ▸ barred
      have gating := h.onMix law ((frame _).leave Mix.postsGates_all _ n _).station parks
      exact ⟨⟨gating.law.mono (fun k able => ⟨able.1, fun same => nomatch able.2 same⟩) fun _ d => d,
        fun k able aligned rests => ⟨gating.awake k able aligned rests, fun same => barred
          (same ▸ (State.onMix_eligible k (((frame _).leave Mix.postsGates_all _ n _).station k) ▸ able))⟩⟩, fits⟩

/-- The eligibility of a list of channels re-evaluated. -/
theorem State.Gating.reEvaluateAll {s : State} {ok due late : Channel → Prop} (h : s.Gating ok due late) (fit : s.Fit)
    (wide : ∀ k, s.eligible k = true → s.engine.aligned.get k = true → ok k) (ns : List Channel) :
    (s.reEvaluateAll ns).Gating (fun k => ok k ∧ (k ∈ ns → s.eligible k = true)) due (fun k => late k ∧ k ∉ ns) ∧
      (s.reEvaluateAll ns).Fit := by
  induction ns generalizing s ok late with
  | nil => exact ⟨h.mono (fun _ able => ⟨able, nofun⟩) (fun _ d => d) (fun _ l => ⟨l, List.not_mem_nil⟩), fit⟩
  | cons n ns ih =>
    obtain ⟨next, fits⟩ := h.reEvaluate fit wide n
    obtain ⟨last, done⟩ := ih next fits fun k able flag => by
      rw [(OnlyMix.reEvaluate s n).engine] at flag
      rw [State.reEvaluate_eligible] at able
      exact ⟨wide k able flag, fun same => same ▸ able⟩
    refine ⟨last.mono (fun k able => ⟨able.1.1, fun at_ => ?_⟩) (fun _ d => d) fun k late => ?_, done⟩
    · obtain rfl | later := List.mem_cons.mp at_
      · exact able.1.2 rfl
      · rw [← State.reEvaluate_eligible s n k]
        exact able.2 later
    · exact ⟨late.1.1, fun at_ => (List.mem_cons.mp at_).elim late.1.2 late.2⟩

theorem State.reEvaluateAll_eligible (s : State) (ns : List Channel) (k : Channel) :
    (s.reEvaluateAll ns).eligible k = s.eligible k := by
  unfold State.reEvaluateAll
  induction ns generalizing s with
  | nil => rfl
  | cons n ns ih => exact (ih _).trans (s.reEvaluate_eligible n k)

/-- What leaves all but one channel as they are, and re-evaluates that channel, keeps `GroupLaw`. -/
theorem State.Alike.reEvaluate {s t : State} {n : Channel} (h : Alike (fun k => k = n) s t) (law : GroupLaw s) :
    GroupLaw (t.reEvaluate n) := by
  obtain ⟨next, fit⟩ := (h.gating law).reEvaluate (h.fit (groupLaw_fit law)) (fun _ able _ => .inl able) n
  refine State.Gating.groupLaw (next.mono (fun k able => ?_) (fun _ d => d) fun k late => late.2 late.1) fit
  rw [State.reEvaluate_eligible]
  obtain able | rfl := able.1
  · exact able
  · exact able.2 rfl

/-- What leaves gates and sets as they are, and re-evaluates every channel, keeps `GroupLaw`. -/
theorem State.Alike.reEvaluateAll {s t : State} (h : Alike (fun _ => True) s t) (law : GroupLaw s) :
    GroupLaw (t.reEvaluateAll (List.finRange 16)) := by
  obtain ⟨next, fit⟩ := (h.gating law).reEvaluateAll (h.fit (groupLaw_fit law)) (fun _ able _ => .inl able)
    (List.finRange 16)
  refine State.Gating.groupLaw (next.mono (fun k able => ?_) (fun _ d => d) fun k late => late.2 (List.mem_finRange k)) fit
  rw [State.reEvaluateAll_eligible]
  exact able.2 (List.mem_finRange k)

/-- Channels that have lost eligibility are parked. -/
theorem State.Gating.parkIneligible {s : State} {ok due late : Channel → Prop} (h : s.Gating ok due late)
    (ns : List Channel) :
    (s.parkIneligible ns).Gating (fun k => ok k ∧ (k ∈ ns → s.eligible k = true)) due late ∧
      (∀ k, (s.parkIneligible ns).eligible k = s.eligible k) ∧
      ∀ g, (∀ k ∈ ns, s.settings.channelGroup k ≠ some g) → (s.parkIneligible ns).groups.get g = s.groups.get g := by
  unfold State.parkIneligible
  induction ns generalizing s ok with
  | nil =>
    exact ⟨h.mono (fun _ able => ⟨able, nofun⟩) (fun _ d => d) fun _ l => l, fun _ => rfl, fun _ _ => rfl⟩
  | cons n ns ih =>
    rw [List.foldl_cons]
    split
    case isTrue stays =>
      have narrow : s.Gating (fun k => ok k ∧ (k = n → s.eligible n = true)) due late :=
        ⟨h.law.narrow fun k up able => ⟨able, fun same => by
          subst same
          simpa [show (s.gates.get k).state ≠ .parked from up] using stays⟩, h.awake⟩
      obtain ⟨last, same, others⟩ := ih narrow
      refine ⟨last.mono (fun k able => ⟨able.1.1, fun at_ => ?_⟩) (fun _ d => d) fun _ l => l, same,
        fun g apart => others g fun k at_ => apart k (List.mem_cons_of_mem n at_)⟩
      obtain rfl | later := List.mem_cons.mp at_
      · exact able.1.2 rfl
      · exact able.2 later
    case isFalse leaves =>
      have barred : s.eligible n = false := by simp_all
      have station (k : Channel) := ((Mix.Frame.refl EventMask.kinds s.mix).leaveQuietly Mix.postsGates_all n .parked).station k
      have eligible (k : Channel) := State.onMix_eligible (s := s) (f := Mix.leaveQuietly n .parked) k (station k)
      have out := h.law.leaveQuietly (n := n) (st := .parked) (.inr rfl) nofun nofun
      have next := h.onMix (out.narrow (ok' := fun k => ok k ∧ k ≠ n) fun k up able => ⟨able, by
          rintro rfl
          rw [Mix.leaveQuietly, Mix.evict_get_self] at up
          exact up rfl⟩) station
        ((Mix.Parks.refl _ _).leaveQuietly fun _ => barred)
      obtain ⟨last, same, others⟩ := ih next
      refine ⟨last.mono (fun k able => ⟨able.1.1, fun at_ => ?_⟩) (fun _ d => d) fun _ l => l,
        fun k => (same k).trans (eligible k), fun g apart => (others g fun k at_ => apart k (List.mem_cons_of_mem n at_)).trans ?_⟩
      · obtain rfl | later := List.mem_cons.mp at_
        · exact absurd rfl able.1.2
        · rw [← eligible k]
          exact able.2 later
      · exact h.law.leaveQuietly_others .parked (apart n List.mem_cons_self)

end Sys2Proof.Machine
end

section
/-! SUPPORT. `GroupLaw` through the operations that commands are made of: moves, modes, measurements, writes, switches,
standby and the resets (R86 to R101, R105, R109, R120, R121, R165). -/

namespace Sys2Proof.Machine

open Sys2Proof.Safety

variable {s t : State}

/-- A field that a change of one entry leaves. -/
theorem Table.get_modify_congr {n : Nat} {α β : Type} (t : Table n α) {i : Fin n} {f : α → α} (p : α → β)
    (same : ∀ a, p (f a) = p a) (k : Fin n) : p ((t.modify i f).get k) = p (t.get k) := by
  by_cases h : i = k
  · subst h
    rw [Table.get_modify_self, same]
  · rw [Table.get_modify_other _ _ h]

theorem groupLaw_same (law : GroupLaw s) (gates : t.gates = s.gates) (groups : t.groups = s.groups)
    (settings : t.settings = s.settings) (sockets : t.sockets = s.sockets) (standby : t.standby = s.standby)
    (aligned : t.engine.aligned = s.engine.aligned) : GroupLaw t :=
  (State.Alike.same gates groups settings sockets standby fun n => by rw [aligned]; exact id).groupLaw law

theorem groupLaw_settle (law : GroupLaw t) (before : State) : GroupLaw (t.settle before) :=
  groupLaw_same law rfl rfl rfl rfl rfl (Engine.askCounts_frame ..).2.1

theorem groupLaw_settleClock (law : GroupLaw t) (before : State) (z : Zone → Bool) : GroupLaw (t.settleClock before z) :=
  groupLaw_same law rfl rfl rfl rfl rfl (Engine.askCounts_frame ..).2.1

theorem groupLaw_post (law : GroupLaw t) (k : EventKind) : GroupLaw (t.post k) := groupLaw_same law rfl rfl rfl rfl rfl rfl

theorem groupLaw_startItem (law : GroupLaw t) (i : Item) (rest : List Item) : GroupLaw (t.startItem i rest) := by
  refine groupLaw_same law rfl rfl rfl rfl rfl ?_
  unfold State.startItem Engine.copyTemperature
  dsimp only
  split <;> rfl

theorem groupLaw_nextItem (law : GroupLaw t) : GroupLaw t.nextItem := by
  unfold State.nextItem
  split
  · exact groupLaw_post (t := { t with engine := { t.engine with flight := none } })
      (groupLaw_same law rfl rfl rfl rfl rfl rfl) _
  · exact groupLaw_startItem law _ _

/-! ### Modes and measurements -/

theorem Mix.setMode_station (c : Settings) (n : Channel) (mode : GateMode) (m : Mix) (k : Channel) :
    ((m.setMode c n mode).gates.get k).station = (m.gates.get k).station := by
  unfold Mix.setMode
  split
  · rfl
  · refine (((Mix.Frame.refl EventMask.kinds _).reactMode Mix.postsGates_all c n mode).station k).trans ?_
    exact Table.get_modify_congr m.gates Gate.station (by exact fun _ => rfl) k

theorem groupLaw_onMix (law : GroupLaw s) {f : Mix → Mix}
    (next : (f s.mix).Law s.settings.channelGroup (fun n => s.eligible n = true) (fun _ => True) ∧
      Mix.AllFit s.settings (f s.mix))
    (station : ∀ n, ((f s.mix).gates.get n).station = (s.gates.get n).station)
    (parks : Mix.Parks (fun n => s.eligible n = false) s.mix (f s.mix)) : GroupLaw (s.onMix f) := by
  refine State.Gating.groupLaw (((groupLaw_gating law).onMix next.1 station parks).mono (fun n able => ?_) (fun _ d => d)
    fun _ l => l) next.2
  rw [State.onMix_eligible n (station n)]
  exact able

theorem groupLaw_reMode (law : GroupLaw s) (n : Channel) : GroupLaw (s.reMode n) :=
  groupLaw_onMix law ((groupLaw_gating law).law.setMode (groupLaw_fit law) _) (Mix.setMode_station _ n _ _)
    ((Mix.Parks.refl _ _).setMode _ n _)

theorem groupLaw_reAct (law : GroupLaw s) (a : ContactAction) : GroupLaw (s.reAct a) := by
  cases a with
  | forceOpenWhile n => exact groupLaw_reMode law n
  | forceClosedWhile n => exact groupLaw_reMode law n
  | zoneMuteWhile j => exact groupLaw_same law rfl rfl rfl rfl rfl rfl
  | none | move | arrange => exact law

theorem groupLaw_takeBlock (law : GroupLaw s) (n : Channel) : GroupLaw (s.takeBlock n) := by
  have gates (k : Channel) : ((s.takeBlock n).gates.get k).state = (s.gates.get k).state ∧
      ((s.takeBlock n).gates.get k).mode = (s.gates.get k).mode ∧
      ((s.takeBlock n).gates.get k).holdCounter = (s.gates.get k).holdCounter :=
    ⟨Table.get_modify_congr _ Gate.state (by exact fun _ => rfl) k, Table.get_modify_congr _ Gate.mode (by exact fun _ => rfl) k,
      Table.get_modify_congr _ Gate.holdCounter (by exact fun _ => rfl) k⟩
  have station (k : Channel) : ((s.takeBlock n).gates.get k).station = (s.gates.get k).station :=
    Table.get_modify_congr _ Gate.station (by exact fun _ => rfl) k
  exact State.Alike.groupLaw
    { gates, members := fun _ => rfl, waiting := fun _ => rfl, group := rfl, maxOpen := fun _ => rfl
      eligible := fun k _ => State.eligible_congr rfl (fun _ _ => rfl) (by rw [station]) rfl rfl rfl
      aligned := fun _ _ => id } law

theorem groupLaw_takeMeasurement (law : GroupLaw s) (settings : SettingsLaw s) (n : Channel) (l : Nat) :
    GroupLaw (s.takeMeasurement n l) := by
  rw [State.takeMeasurement_eq]
  have taken := groupLaw_takeBlock law n
  have hold : 1 ≤ (s.settings.channels.get n).holdTime := by
    obtain ⟨-, channels, -⟩ := settings
    have := (channels n).2.2.1
    omega
  refine groupLaw_settle (groupLaw_onMix taken ?_ (fun k => ?_) ((Mix.Parks.refl _ _).measure _ n l)) s
  · exact (groupLaw_gating taken).law.measure (groupLaw_fit taken) hold l
  · refine (((Mix.Frame.refl EventMask.kinds _).actOn Mix.postsGates_all (by decide) _ n l).station k).trans ?_
    exact Table.get_modify_congr _ Gate.station (by exact fun _ => rfl) k

/-! ### Moves and sockets -/

/-- What changes one channel's station, and clears its ALIGNED flag. -/
theorem State.setStation_alike (s : State) (n : Channel) (st : Option Station) :
    State.Alike (fun k => k = n) s ((s.setStation n st).askChannel n) where
  gates k := ⟨Table.get_modify_congr _ Gate.state (by exact fun _ => rfl) k,
    Table.get_modify_congr _ Gate.mode (by exact fun _ => rfl) k,
    Table.get_modify_congr _ Gate.holdCounter (by exact fun _ => rfl) k⟩
  members _ := rfl
  waiting _ := rfl
  group := rfl
  maxOpen _ := rfl
  eligible k apart := State.eligible_congr rfl (fun _ _ => rfl)
    (by rw [State.askChannel_gates, State.setStation, Table.get_modify_other _ _ (Ne.symm apart)]) rfl rfl rfl
  aligned k apart h := by
    rw [State.askChannel_engine, Engine.askChannel, Table.get_set_other _ _ (Ne.symm apart)] at h
    exact h

theorem groupLaw_moveTo (law : GroupLaw s) (n : Channel) (st : Option Station) :
    GroupLaw (s.moveTo n st) := by
  rw [State.moveTo_eq]
  exact (s.setStation_alike n st).reEvaluate law

/-- What changes one socket. -/
theorem State.Alike.socket {n : Channel} (gates : t.gates = s.gates) (groups : t.groups = s.groups)
    (settings : t.settings = s.settings) (standby : t.standby = s.standby)
    (aligned : t.engine.aligned = s.engine.aligned) (sockets : ∀ k, k ≠ n → t.sockets.get k = s.sockets.get k) :
    State.Alike (fun k => k = n) s t where
  gates k := by rw [gates]; exact ⟨rfl, rfl, rfl⟩
  members g := by rw [groups]
  waiting g := by rw [groups]
  group := by rw [settings]
  maxOpen g := by rw [settings]
  eligible k apart := State.eligible_congr (by rw [settings]) (fun _ _ => by rw [settings]) (by rw [gates]) (by rw [settings])
    (by rw [sockets k apart]) standby
  aligned k _ := by rw [aligned]; exact id

theorem groupLaw_socketEvent {n : Channel} (h : State.Alike (fun k => k = n) s t) (law : GroupLaw s)
    (before : State) : GroupLaw (t.socketEvent n before) :=
  groupLaw_settle (h.reEvaluate law) before

/-- The same gates, groups and settings, and sockets of the same readiness. -/
theorem groupLaw_ready (law : GroupLaw s) (gates : t.gates = s.gates) (groups : t.groups = s.groups)
    (settings : t.settings = s.settings) (standby : t.standby = s.standby)
    (aligned : t.engine.aligned = s.engine.aligned)
    (ready : ∀ k, (t.sockets.get k).phase.ready = (s.sockets.get k).phase.ready) : GroupLaw t := by
  refine State.Alike.groupLaw (s := s) ⟨fun k => ?_, fun g => ?_, fun g => ?_, ?_, fun g => ?_, fun k _ => ?_, fun k _ => ?_⟩
    law
  · rw [gates]; exact ⟨rfl, rfl, rfl⟩
  · rw [groups]
  · rw [groups]
  · rw [settings]
  · rw [settings]
  · exact State.eligible_congr (by rw [settings]) (fun _ _ => by rw [settings]) (by rw [gates]) (by rw [settings]) (ready k)
      standby
  · rw [aligned]; exact id

/-- A change of a socket that leaves its readiness. -/
theorem groupLaw_onSocket (law : GroupLaw s) (n : Channel) {f : Socket → Socket}
    (ready : (f (s.sockets.get n)).phase.ready = (s.sockets.get n).phase.ready) : GroupLaw (s.onSocket n f) :=
  groupLaw_ready law rfl rfl rfl rfl rfl fun k => by
    by_cases same : n = k
    · subst same
      rw [State.onSocket, Table.get_modify_self, ready]
    · rw [State.onSocket, Table.get_modify_other _ _ same]

/-- A PRESENT socket that calls for power is not ready. -/
theorem Socket.powerUp_still (b : Bool) (x : Socket) : (x.powerUp b).phase.ready = x.phase.ready := by
  unfold Socket.powerUp
  split
  case h_1 c present =>
    split
    case isTrue asks =>
      have : c = .condenser := by simp_all [Socket.callsForPower, SocketPhase.sensedClass]
      subst this
      rw [present]
      rfl
    case isFalse => rfl
  case h_2 => rfl

/-! ### Modes of a request -/

theorem Mix.storeMode_of_same {m : Mix} {n : Channel} {mode : GateMode} (h : (m.gates.get n).mode = mode) :
    m.storeMode n mode = m := by
  have gates : (m.storeMode n mode).gates = m.gates := Table.ext_get fun k => by
    by_cases same : n = k
    · subst same
      rw [Mix.storeMode_get_self, ← h]
    · rw [Mix.storeMode_get_other _ _ same]
  calc m.storeMode n mode = { m with gates := (m.storeMode n mode).gates } := rfl
    _ = m := by rw [gates]

theorem groupLaw_setPortMode (law : GroupLaw s) (n : Channel) (mode : GateMode) :
    GroupLaw (s.setPortMode n mode) := by
  rw [State.setPortMode_eq]
  have stored : GroupLaw (s.storeMode n mode) := State.Alike.groupLaw
    { gates := fun k => ⟨Table.get_modify_congr _ Gate.state (by exact fun _ => rfl) k,
        Table.get_modify_congr _ Gate.mode (by exact fun _ => rfl) k,
        Table.get_modify_congr _ Gate.holdCounter (by exact fun _ => rfl) k⟩
      members := fun _ => rfl, waiting := fun _ => rfl, group := rfl, maxOpen := fun _ => rfl, aligned := fun _ _ => id
      eligible := fun k _ => State.eligible_congr rfl (fun _ _ => rfl)
        (congrArg _ (Table.get_modify_congr _ Gate.station (by exact fun _ => rfl) k)) rfl rfl rfl } law
  split
  case isFalse => exact groupLaw_reMode stored n
  case isTrue asks =>
    have closed : ((s.storeMode n mode).gates.get n).state = .closed :=
      (Table.get_modify_congr _ Gate.state (by exact fun _ => rfl) n).trans asks.1
    have now := groupLaw_gating stored
    have storedForced : ((s.storeMode n mode).mix.storeMode n .forceOpen).Law (s.storeMode n mode).settings.channelGroup
        (fun k => (s.storeMode n mode).eligible k = true) (fun k => True ∧ k ≠ n) := by
      by_cases forced : ((s.storeMode n mode).gates.get n).mode = .forceOpen
      · rw [Mix.storeMode_of_same forced]
        exact now.law.mono (fun _ h => h) fun _ _ => trivial
      · exact now.law.storeMode (by rw [show ((s.storeMode n mode).mix.gates.get n).state = .closed from closed]; rfl)
          (now.law.not_mem_waiting_of_mode forced) (fun _ _ => trivial) fun d => absurd rfl d.2
    have fit : Mix.AllFit s.settings ((s.storeMode n mode).mix.storeMode n .forceOpen) :=
      (groupLaw_fit stored : (s.storeMode n mode).Fit)
    refine groupLaw_onMix stored (storedForced.askForced (c := s.settings) fit ?_ ?_ fun k _ => ?_) (fun k => ?_) ?_
    · rw [Mix.storeMode_get_self]
      exact closed
    · rw [Mix.storeMode_get_self]
    · by_cases same : k = n
      · exact .inr same
      · exact .inl ⟨trivial, same⟩
    · refine (((Mix.Frame.refl EventMask.kinds _).askForced Mix.postsGates_all _ n).station k).trans ?_
      exact Table.get_modify_congr _ Gate.station (by exact fun _ => rfl) k
    · exact Mix.Parks.askForced ((Mix.Parks.refl _ _).onGate n fun up => up) _ n

end Sys2Proof.Machine
end

section
/-! SUPPORT. `GroupLaw` through the writes, the arrangement switch, standby, the wake and the resets (R13, R104 to R109, R120,
R121, R165, R167 to R169). -/

namespace Sys2Proof.Machine

open Sys2Proof.Safety

variable {s t : State}

namespace Mix.Law

variable {grp : Channel → Option Group} {ok due : Channel → Prop} {m m' : Mix} {n : Channel} {g : Group} {c : Settings}

/-- A group none of whose channels may be other than PARKED has no member and no list. -/
theorem empty (law : m.Law grp ok due) (barred : ∀ k, grp k = some g → ¬ ok k) :
    (m.groups.get g).members = [] ∧ (m.groups.get g).waiting = [] := by
  constructor
  · refine List.eq_nil_iff_forall_not_mem.mpr fun y member => ?_
    refine barred y.channel (law.own g y member) ((law.gate y.channel).ok fun parked => ?_)
    have sounds := law.sounds g y member
    rw [parked] at sounds
    cases sounds
  · refine List.eq_nil_iff_forall_not_mem.mpr fun k listed => ?_
    obtain ⟨closed, -, own⟩ := law.waits g k listed
    exact barred k own ((law.gate k).ok (by rw [closed]; decide))

/-- Lists emptied. -/
theorem clear (law : m.Law grp ok due) (gates : m'.gates = m.gates)
    (members : ∀ g, (m'.groups.get g).members = (m.groups.get g).members)
    (waiting : ∀ g, (m'.groups.get g).waiting = (m.groups.get g).waiting ∨ (m'.groups.get g).waiting = []) :
    m'.Law grp ok fun k => due k ∧ ∀ g, grp k = some g → (m'.groups.get g).waiting = (m.groups.get g).waiting where
  gate := by rw [gates]; exact law.gate
  nodup g := by rw [members]; exact law.nodup g
  own g := by rw [members]; exact law.own g
  sounds g := by rw [members, gates]; exact law.sounds g
  kind g := by rw [members, gates]; exact law.kind g
  lastOn g := by rw [members, gates]; exact law.lastOn g
  held k sounds := by
    rw [gates] at sounds
    simpa only [members] using law.held k sounds
  queue g := by
    obtain same | none := waiting g
    · rw [same]; exact law.queue g
    · rw [none]; exact List.nodup_nil
  waits g k listed := by
    obtain same | none := waiting g
    · rw [same] at listed
      rw [gates]
      exact law.waits g k listed
    · rw [none] at listed
      cases listed
  complete k g d closed forced own := by
    rw [d.2 g own]
    rw [gates] at closed forced
    exact law.complete k g d.1 closed forced own

/-- Every gate PARKED, and no member and no list. -/
theorem of_parked (parked : ∀ k, (m.gates.get k).state = .parked ∧ (m.gates.get k).holdCounter = 0)
    (none : ∀ g, (m.groups.get g).members = [] ∧ (m.groups.get g).waiting = []) : m.Law grp ok due where
  gate k := by
    obtain ⟨state, counter⟩ := parked k
    refine ⟨fun up => ?_, fun _ => counter, fun up => ?_, fun up => ?_, fun up => absurd state up⟩ <;>
      rw [state] at up <;> simp at up
  nodup g := by rw [(none g).1]; exact List.nodup_nil
  own g y member := by rw [(none g).1] at member; cases member
  sounds g y member := by rw [(none g).1] at member; cases member
  kind g y member := by rw [(none g).1] at member; cases member
  lastOn g y member := by rw [(none g).1] at member; cases member
  held k sounds := by rw [(parked k).1] at sounds; cases sounds
  queue g := by rw [(none g).2]; exact List.nodup_nil
  waits g k listed := by rw [(none g).2] at listed; cases listed
  complete k g _ closed := by rw [(parked k).1] at closed; cases closed

/-- The change of a channel's group (R109, steps 1 and 2): it leaves its old set or list, and is then of the new group. -/
theorem leaveOldGroup {grp' : Channel → Option Group} (law : m.Law grp ok due) (fits : AllFit c m)
    (moves : ∀ k, k ≠ n → grp' k = grp k) :
    (m.leaveOldGroup c n).Law grp' ok (fun k => due k ∧ k ≠ n) ∧ AllFit c (m.leaveOldGroup c n) := by
  have others : m.Law grp ok fun k => due k ∧ k ≠ n := law.mono (fun _ h => h) fun _ d => d.1
  have regrouped {x : Mix} (h : x.Law grp ok fun k => due k ∧ k ≠ n) (silent : sounding (x.gates.get n).state = false)
      (unlisted : ∀ g, n ∉ (x.groups.get g).waiting) : x.Law grp' ok fun k => due k ∧ k ≠ n :=
    h.regroup fun k other => by
      have same : k = n := Classical.not_not.mp fun apart => other (moves k apart)
      subst same
      exact ⟨silent, unlisted, fun d => d.2 rfl⟩
  unfold Mix.leaveOldGroup
  cases found : memberGroup m.groups n with
  | none =>
    rw [if_neg (by simp)]
    exact ⟨regrouped (others.unwait fun d => absurd rfl d.2) (law.memberGroup_eq_none_iff.mp found) (unlisted_unwait m n),
      allFit_unwait fits n⟩
  | some g =>
    obtain ⟨sounds, -⟩ := law.sounding_of_memberGroup found
    have up : (m.gates.get n).state ≠ .closed := fun closed => by
      rw [closed] at sounds
      cases sounds
    have left : m.leave c n .closed = (m.evict n .closed).offer c g := by
      simp only [Mix.leave, found]
      rw [← law.leaveQuietly_eq found, Mix.leaveQuietly]
    have unlisted (k : Group) : n ∉ ((m.evict n .closed).groups.get k).waiting := by
      by_cases same : g = k
      · subst same
        rw [evict_groups_get_self found]
        exact law.not_mem_waiting up g
      · rw [evict_groups_get_other found _ same]
        exact law.not_mem_waiting up k
    have out := regrouped (others.evict found (.inl rfl) fun _ d => absurd rfl d.2) (by rw [evict_get_self]; rfl) unlisted
    have length : ((m.evict n .closed).groups.get g).members.length ≤ (c.groupRecord g).maxOpen := by
      rw [evict_groups_get_self found]
      exact (List.length_filter_le _ _).trans (fits g).bound
    obtain ⟨next, near, fit⟩ := out.offer (c := c) length
    rw [if_pos (by simp), left]
    refine ⟨next, fun k => ?_⟩
    by_cases same : g = k
    · exact same ▸ fit
    · rw [near.others k same, evict_groups_get_other found _ same]
      exact fits k

/-- The forced ask of a channel that is CLOSED in FORCE_OPEN (R109, step 4). -/
theorem askIfForced (law : m.Law c.channelGroup ok fun k => due k ∧ k ≠ n) (fits : AllFit c m) :
    (m.askIfForced c n).Law c.channelGroup ok due ∧ AllFit c (m.askIfForced c n) := by
  unfold Mix.askIfForced
  split
  case isTrue asks =>
    exact law.askForced fits asks.1 asks.2 fun k d => by
      by_cases same : k = n
      · exact .inr same
      · exact .inl ⟨d, same⟩
  case isFalse quiet =>
    refine ⟨law.redue fun k d closed forced => ⟨d, ?_⟩, fits⟩
    rintro rfl
    exact quiet ⟨closed, forced⟩

end Mix.Law

/-! ### Deliveries -/

theorem State.deliverFull_still (chosen : Channel → Bool) (result : Channel → Zone → Result) (s : State) :
    (s.deliverFull chosen result).gates = s.gates ∧ (s.deliverFull chosen result).groups = s.groups ∧
      (s.deliverFull chosen result).settings = s.settings ∧ (s.deliverFull chosen result).sockets = s.sockets ∧
      (s.deliverFull chosen result).standby = s.standby := by
  unfold State.deliverFull
  dsimp only
  split <;> exact ⟨rfl, rfl, rfl, rfl, rfl⟩

/-- A delivery sets the ALIGNED flags of the chosen channels alone. -/
theorem State.deliverFull_alike (chosen : Channel → Bool) (result : Channel → Zone → Result) (s : State) :
    State.Alike (fun k => chosen k = true) s (s.deliverFull chosen result) := by
  obtain ⟨gates, groups, settings, sockets, standby⟩ := s.deliverFull_still chosen result
  refine ⟨fun k => ?_, fun g => ?_, fun g => ?_, ?_, fun g => ?_, fun k _ => ?_, fun k apart => ?_⟩
  · rw [gates]; exact ⟨rfl, rfl, rfl⟩
  · rw [groups]
  · rw [groups]
  · rw [settings]
  · rw [settings]
  · exact State.eligible_congr (by rw [settings]) (fun _ _ => by rw [settings]) (by rw [gates]) (by rw [settings])
      (by rw [sockets]) standby
  · rw [State.deliverFull_engine]
    simp [apart]

theorem groupLaw_deliverChannel (law : GroupLaw s) (n : Channel)
    (result : Channel → Zone → Result) (before : State) :
    GroupLaw (((s.deliverFull (fun k => k == n) result).reEvaluate n).settle before) :=
  groupLaw_settle (((s.deliverFull_alike _ result).mono fun k at_ => by simpa using at_).reEvaluate law) before

theorem groupLaw_deliverAll (law : GroupLaw s) (chosen : Channel → Bool)
    (result : Channel → Zone → Result) (before : State) :
    GroupLaw (((s.deliverFull chosen result).reEvaluateAll (List.finRange 16)).settle before) :=
  groupLaw_settle (((s.deliverFull_alike chosen result).mono fun _ _ => trivial).reEvaluateAll law) before

/-! ### Standby and the resets -/

theorem groupLaw_of_parked (parked : ∀ k, (s.gates.get k).state = .parked ∧ (s.gates.get k).holdCounter = 0)
    (none : ∀ g, (s.groups.get g).members = [] ∧ (s.groups.get g).waiting = [])
    (aligned : ∀ k, s.eligible k = true → s.engine.aligned.get k = false) : GroupLaw s :=
  State.Gating.groupLaw ⟨.of_parked parked none, fun k able flag => by rw [aligned k able] at flag; cases flag⟩ fun g =>
    .of_empty (by rw [show (s.mix.groups.get g).members = [] from (none g).1]; exact Nat.zero_le _) (none g).2

theorem groupLaw_runtimeReset (s : State) (p : Port) : GroupLaw (s.runtimeReset p) :=
  groupLaw_of_parked (fun k => by simp [State.runtimeReset, State.restartGate, Gate.reset])
    (fun g => by simp [State.runtimeReset, GroupState.reset]) fun k _ => by simp [State.runtimeReset, Engine.restart]

theorem groupLaw_powerOn (c : Settings) (presence : Table 16 Bool) (line : Bool) (closed : Table 8 Bool)
    (pending : List Instr) : GroupLaw (.powerOn c presence line closed pending) :=
  groupLaw_of_parked (fun k => by simp [State.powerOn, Gate.reset])
    (fun g => by simp [State.powerOn, GroupState.reset]) fun k _ => by simp [State.powerOn, Engine.powerOn]

/-- The entry to standby parks every channel, so that every set is empty (R165). -/
theorem groupLaw_enterStandby (law : GroupLaw s) : GroupLaw s.enterStandby := by
  set silent : State := { s with standby := true, groups := s.groups.map fun _ x => { x with waiting := [] } }
  have cleared := (groupLaw_gating law).law.clear (m' := silent.mix) rfl (fun g => by simp [silent, State.mix])
    fun g => .inr (by simp [silent, State.mix])
  set told := ((({ s with standby := true } : State).onZones fun _ z => { z with standby := true }).emptyWaiting
    |>.freshDetectors.onSockets fun _ x => x.powerDown)
  have alike : State.Alike (fun _ => True) silent told :=
    ⟨fun k => by simp [told, silent, State.freshDetectors, State.onSockets, State.emptyWaiting, State.onZones],
      fun _ => rfl, fun _ => rfl, rfl, fun _ => rfl, fun k apart => absurd trivial apart, fun k apart => absurd trivial apart⟩
  have asleep (k : Channel) : told.eligible k = false := by
    rw [← Bool.not_eq_true, State.eligible_iff]
    rintro ⟨-, -, -, -, awake⟩
    cases awake
  obtain ⟨parked, eligible, -⟩ := State.Gating.parkIneligible (s := told) (late := fun _ => True)
    ⟨alike.mixLaw cleared, fun _ _ _ _ => trivial⟩ (List.finRange 16)
  have barred (k : Channel) (h : (s.eligible k = true) ∧ (k ∈ List.finRange 16 → told.eligible k = true)) : False := by
    have able := h.2 (List.mem_finRange k)
    rw [asleep k] at able
    cases able
  refine groupLaw_settleClock (t := told.parkIneligible (List.finRange 16)) (State.Gating.groupLaw ⟨?_, fun k able => ?_⟩
    fun g => ?_) s _
  · exact (parked.law.mono (fun k h => (barred k h).elim) fun _ d => d).redue fun k _ closed _ =>
      (barred k ((parked.law.gate k).ok (by rw [closed]; decide))).elim
  · rw [eligible k, asleep k] at able
    cases able
  · obtain ⟨members, waiting⟩ := parked.law.empty (g := g) fun k _ => barred k
    exact .of_empty (by rw [members]; exact Nat.zero_le _) waiting

/-- The wake (R167). -/
theorem groupLaw_leaveStandby (law : GroupLaw s) : GroupLaw s.leaveStandby := by
  unfold State.leaveStandby
  refine groupLaw_settle (State.Alike.reEvaluateAll (s := s) ?_ law) s
  exact ⟨fun k => by simp [State.freshDetectors, State.onSockets, State.retargetClock, State.onZones], fun _ => rfl, fun _ => rfl, rfl, fun _ => rfl, fun k apart => absurd trivial apart,
    fun k apart => absurd trivial apart⟩

/-! ### Writes -/

theorem groupLaw_onSettings (law : GroupLaw s) {f : Settings → Settings}
    (group : (f s.settings).channelGroup = s.settings.channelGroup)
    (records : (f s.settings).groupRecord = s.settings.groupRecord)
    (windows : ∀ k, ((f s.settings).channels.get k).length = (s.settings.channels.get k).length) :
    GroupLaw (s.onSettings f) :=
  State.Alike.groupLaw (s := s) ⟨fun _ => ⟨rfl, rfl, rfl⟩, fun _ => rfl, fun _ => rfl, group,
    fun g => by rw [State.onSettings_settings, records],
    fun k _ => State.eligible_congr (congrFun group k) (fun g _ => by rw [State.onSettings_settings, records]) rfl (windows k)
      rfl rfl, fun _ _ => id⟩ law

/-- A channel record stored. -/
def Settings.setChannel (n : Channel) (r : ChannelRec) (c : Settings) : Settings :=
  { c with channels := c.channels.set n r }

/-- A window is moved: the channel is of no set, and is PARKED and off the lists (R13). -/
theorem groupLaw_moveWindow (law : GroupLaw s) {n : Channel} (idle : memberGroup s.groups n = none) (r : ChannelRec) :
    GroupLaw ((s.onSettings (Settings.setChannel n r)).moveWindow n r) := by
  set stored := s.onSettings (Settings.setChannel n r)
  have length (k : Channel) (apart : k ≠ n) : (stored.settings.channels.get k).length = (s.settings.channels.get k).length := by
    rw [State.onSettings_settings, Settings.setChannel, Table.get_set_other _ _ (Ne.symm apart)]
  have alike : State.Alike (fun k => k = n) s stored :=
    ⟨fun _ => ⟨rfl, rfl, rfl⟩, fun _ => rfl, fun _ => rfl, rfl, fun _ => rfl,
      fun k apart => State.eligible_congr rfl (fun _ _ => rfl) rfl (length k apart) rfl rfl, fun _ _ => id⟩
  obtain ⟨now, awake⟩ := alike.gating law
  have silent : sounding (stored.mix.gates.get n).state = false := now.memberGroup_eq_none_iff.mp idle
  have parked := now.unwait_rest silent (st := .parked) (.inr rfl) nofun nofun
  have eligible (k : Channel) : (stored.moveWindow n r).eligible k = stored.eligible k :=
    State.eligible_congr rfl (fun _ _ => rfl)
      (congrArg Option.isSome (Table.get_modify_congr _ Gate.station (by exact fun _ => rfl) k)) rfl rfl rfl
  refine State.Gating.groupLaw ⟨parked.narrow fun k up able => ?_, fun k able aligned rests => ?_⟩
    (Mix.Law.allFit_unwait (alike.fit (groupLaw_fit law)) n)
  · refine (eligible k).trans (able.resolve_right ?_)
    rintro rfl
    rw [Mix.setState_get_self] at up
    exact up rfl
  · have apart : n ≠ k := by
      rintro rfl
      simp [State.moveWindow, Engine.askChannel] at aligned
    rw [eligible k] at able
    refine apart (awake k able ?_ ?_).symm
    · simpa [State.moveWindow, Engine.askChannel, Table.get_set_other _ _ apart] using aligned
    · simpa [State.moveWindow, State.mix, Mix.setState, Table.get_modify_other _ _ apart] using rests

theorem groupLaw_autoPowerOn (law : GroupLaw s) (n : Channel) (before r : ChannelRec) :
    GroupLaw (s.autoPowerOn n before r) := by
  unfold State.autoPowerOn
  split
  · exact groupLaw_onSocket law n (Socket.powerUp_still true _)
  · exact law

theorem groupLaw_storeChannel (law : GroupLaw s) {n : Channel} {r : ChannelRec}
    (window : (s.settings.channels.get n).sameWindow r ∨ s.windowBusy n = false) : GroupLaw (s.storeChannel n r) := by
  have eq : s.storeChannel n r = (if r.start = (s.settings.channels.get n).start ∧
      r.length = (s.settings.channels.get n).length then s.onSettings (Settings.setChannel n r)
      else (s.onSettings (Settings.setChannel n r)).moveWindow n r).autoPowerOn n (s.settings.channels.get n) r := rfl
  rw [eq]
  refine groupLaw_autoPowerOn ?_ n _ r
  split
  case isTrue same =>
    refine groupLaw_onSettings law rfl rfl fun k => ?_
    by_cases at_ : n = k
    · subst at_
      rw [Settings.setChannel, Table.get_set_self]
      exact same.2
    · rw [Settings.setChannel, Table.get_set_other _ _ at_]
  case isFalse moved =>
    have idle := window.resolve_left moved
    simp only [State.windowBusy, Bool.or_eq_false_iff, Option.isSome_eq_false_iff, Option.isNone_iff_eq_none] at idle
    exact groupLaw_moveWindow law idle.1 r

/-- A change of a channel's group in the active arrangement (R109). -/
theorem groupLaw_changeGroup (law : GroupLaw s) {n : Channel} {f : Settings → Settings}
    (groups : ∀ k, k ≠ n → (f s.settings).channelGroup k = s.settings.channelGroup k)
    (records : (f s.settings).groupRecord = s.settings.groupRecord) (channels : (f s.settings).channels = s.settings.channels) :
    GroupLaw ((s.onSettings f).changeGroup n) := by
  set stored := s.onSettings f
  have fit : Mix.AllFit stored.settings s.mix := fun g => by
    rw [State.onSettings_settings, records]
    exact groupLaw_fit law g
  obtain ⟨leftLaw, leftFit⟩ := (groupLaw_gating law).law.leaveOldGroup (n := n) fit groups
  have frame : Mix.Frame EventMask.kinds s.mix (s.mix.leaveOldGroup stored.settings n) :=
    .ite ((Mix.Frame.refl _ _).leave Mix.postsGates_all _ n _) ((Mix.Frame.refl _ _).unwait n)
  have parks : Mix.Parks (fun _ => False) s.mix (s.mix.leaveOldGroup stored.settings n) :=
    .ite ((Mix.Parks.refl _ _).leaveClosed _ n) (.refl _ _)
  set asked := ((stored.onMix (Mix.leaveOldGroup stored.settings n)).askCounts stored).askChannel n
  have eligible (k : Channel) (apart : k ≠ n) : asked.eligible k = s.eligible k :=
    State.eligible_congr (groups k apart) (fun _ _ => congrArg GroupRec.enabled (congrFun records _))
      (congrArg Option.isSome (frame.station k)) (congrArg (fun t : Table 16 ChannelRec => (t.get k).length) channels) rfl rfl
  have gating : asked.Gating (fun k => asked.eligible k = true ∨ k = n) (fun k => True ∧ k ≠ n) (fun _ => False) := by
    refine ⟨{ leftLaw.narrow (ok' := fun k => asked.eligible k = true ∨ k = n) fun k _ able => ?_ with },
      fun k able aligned rests => ?_⟩
    · by_cases same : k = n
      · exact .inr same
      · exact .inl ((eligible k same).trans able)
    · have apart : k ≠ n := by
        rintro rfl
        simp [asked, Engine.askChannel] at aligned
      have aligned' : s.engine.aligned.get k = true := by
        simpa [asked, Engine.askChannel, Table.get_set_other _ _ (Ne.symm apart), (Engine.askCounts_frame _ _ _).2.1,
          stored] using aligned
      rw [eligible k apart] at able
      obtain was | never := parks k rests
      · exact law.parked k able aligned' was
      · exact never
  obtain ⟨next, nextFit⟩ := gating.reEvaluate leftFit (fun _ able _ => .inl able) n
  have settings : (asked.reEvaluate n).settings = stored.settings := (OnlyMix.reEvaluate asked n).settings
  have asks := next.law
  have fit' := nextFit
  unfold State.Fit at fit'
  rw [settings] at asks fit'
  obtain ⟨last, lastFit⟩ := asks.askIfForced fit'
  have done : stored.changeGroup n = (asked.reEvaluate n).onMix (Mix.askIfForced stored.settings n) := rfl
  have station (k : Channel) : (((asked.reEvaluate n).mix.askIfForced stored.settings n).gates.get k).station =
      ((asked.reEvaluate n).gates.get k).station :=
    Mix.Frame.station (kinds := EventMask.kinds)
      (.ite ((Mix.Frame.refl _ _).askForced Mix.postsGates_all _ n) (.refl _ _)) k
  have parks' : Mix.Parks (fun k => (asked.reEvaluate n).eligible k = false) (asked.reEvaluate n).mix
      ((asked.reEvaluate n).mix.askIfForced stored.settings n) :=
    .ite ((Mix.Parks.refl _ _).askForced _ n) (.refl _ _)
  have final := next.onMix (f := Mix.askIfForced stored.settings n) (by rw [settings]; exact last) station parks'
  rw [done]
  refine State.Gating.groupLaw (final.mono (fun k able => ?_) (fun _ d => d) fun k late => late.1) ?_
  · rw [State.onMix_eligible k (station k), State.reEvaluate_eligible]
    obtain able | rfl := able.1
    · exact able
    · exact able.2 rfl
  · unfold State.Fit
    rw [State.onMix_settings, settings]
    exact lastFit

end Sys2Proof.Machine
end

section
/-! SUPPORT. `GroupLaw` through the GROUP and MEMBERSHIP writes, the arrangement switch and every command (R104 to R109, R120,
R121). -/

namespace Sys2Proof.Machine

open Sys2Proof.Safety

variable {s t : State}

theorem groupLaw_storeMembership (law : GroupLaw s) (k : Arrangement) (x : Zone ⊕ Channel)
    (g : Option Group) : GroupLaw (s.storeMembership k x g) := by
  unfold State.storeMembership
  dsimp only
  have other (apart : k ≠ s.settings.active) (n : Channel) :
      (Settings.setMembership k x g s.settings).channelGroup n = s.settings.channelGroup n := by
    cases x with
    | inl j => rfl
    | inr m => simp only [Settings.channelGroup, Settings.setMembership, Table.get_modify_other _ _ apart]
  split
  case isTrue idle =>
    refine groupLaw_onSettings law (funext fun n => ?_) (by cases x <;> rfl) fun _ => by cases x <;> rfl
    obtain apart | same := idle
    · exact other apart n
    · cases x with
      | inl j => rfl
      | inr m =>
        by_cases at_ : k = s.settings.active
        · subst at_
          subst same
          simp only [Settings.channelGroup, Settings.setMembership, Table.get_modify_self, Settings.membership]
          by_cases self : m = n
          · subst self
            rw [Table.get_set_self]
          · rw [Table.get_set_other _ _ self]
        · exact other at_ n
  case isFalse moves =>
    cases x with
    | inl j => exact groupLaw_settle (groupLaw_onSettings law rfl rfl fun _ => rfl) s
    | inr n =>
      refine groupLaw_settle (groupLaw_changeGroup law (fun m apart => ?_) rfl rfl) s
      obtain ⟨active, -⟩ := not_or.mp moves
      rw [Classical.not_not] at active
      subst active
      simp only [Settings.channelGroup, Settings.setMembership, Table.get_modify_self]
      rw [Table.get_set_other _ _ (Ne.symm apart)]

/-! ### GROUP writes (R105) -/

/-- The record of Gg in the active arrangement replaced. -/
def State.recorded (s : State) (g : Group) (r : GroupRec) : State := s.onSettings (Settings.setGroup s.settings.active g r)

theorem State.recorded_groupRecord_self (s : State) (g : Group) (r : GroupRec) :
    (s.recorded g r).settings.groupRecord g = r := by
  simp [State.recorded, Settings.setGroup, Settings.groupRecord]

theorem State.recorded_groupRecord_other (s : State) {g h : Group} (r : GroupRec) (apart : g ≠ h) :
    (s.recorded g r).settings.groupRecord h = s.settings.groupRecord h := by
  simp [State.recorded, Settings.setGroup, Settings.groupRecord, Table.get_set_other _ _ apart]

theorem State.recorded_eligible (s : State) {g : Group} {r : GroupRec} {n : Channel}
    (h : s.settings.channelGroup n = some g → r.enabled = (s.settings.groupRecord g).enabled) :
    (s.recorded g r).eligible n = s.eligible n := by
  refine State.eligible_congr rfl (fun k own => ?_) rfl rfl rfl rfl
  by_cases same : g = k
  · subst same
    rw [s.recorded_groupRecord_self, h own]
  · rw [s.recorded_groupRecord_other r same]

/-- What holds of a GROUP write after its first two steps (R105): every set but the group's own fits, and its own is as it
was, or fits the new record already. -/
structure State.Resizing (before t : State) (g : Group) (r : GroupRec) : Prop where
  settings : t.settings = (before.recorded g r).settings
  gating : t.Gating (fun n => t.eligible n = true) (fun _ => True) (fun _ => False)
  others : ∀ h, g ≠ h → (t.groups.get h).Fits (before.settings.groupRecord h).maxOpen
  own : t.groups.get g = before.groups.get g ∨ (t.groups.get g).Fits r.maxOpen

/-- A group whose enabled field stays (R105). -/
theorem State.Resizing.stored (law : GroupLaw s) {g : Group} {r : GroupRec}
    (enabled : r.enabled = (s.settings.groupRecord g).enabled) : s.Resizing (s.recorded g r) g r := by
  have eligible (n : Channel) := s.recorded_eligible (n := n) fun _ => enabled
  refine ⟨rfl, ⟨?_, fun n able => ?_⟩, fun h _ => groupLaw_fit law h, .inl rfl⟩
  · simp only [eligible]
    exact (groupLaw_gating law).law
  · rw [eligible] at able
    exact (groupLaw_gating law).awake n able

/-- Enabled cleared (R105, step 1). -/
theorem State.Resizing.disabled (law : GroupLaw s) {g : Group} {r : GroupRec} (off : r.enabled = false) :
    s.Resizing ((s.recorded g r).groupDisabled g) g r := by
  set stored := s.recorded g r
  have barred (n : Channel) (own : s.settings.channelGroup n = some g) : stored.eligible n = false := by
    rw [← Bool.not_eq_true, State.eligible_iff]
    rintro ⟨⟨h, group, enabled⟩, -⟩
    have same : g = h := Option.some.inj (own.symm.trans group)
    subst same
    rw [s.recorded_groupRecord_self, off] at enabled
    cases enabled
  have eligible (n : Channel) (apart : s.settings.channelGroup n ≠ some g) : stored.eligible n = s.eligible n :=
    s.recorded_eligible fun own => absurd own apart
  set cleared : State := { stored with groups := stored.groups.modify g fun x => { x with waiting := [] } }
  have groups (h : Group) (apart : g ≠ h) : cleared.groups.get h = s.groups.get h := Table.get_modify_other _ _ apart
  have clearLaw := (groupLaw_gating law).law.clear (m' := cleared.mix) rfl
    (fun h => by
      by_cases same : g = h
      · subst same; simp [cleared, State.mix, stored, State.recorded]
      · rw [show cleared.mix.groups.get h = s.groups.get h from groups h same]; rfl)
    (fun h => by
      by_cases same : g = h
      · subst same; exact .inr (by simp [cleared, State.mix])
      · rw [show cleared.mix.groups.get h = s.groups.get h from groups h same]; exact .inl rfl)
  have same (n : Channel) : cleared.eligible n = stored.eligible n := rfl
  have channels (n : Channel) : n ∈ stored.settings.channelsOf g ↔ s.settings.channelGroup n = some g := by
    have group : stored.settings.channelGroup n = s.settings.channelGroup n := rfl
    simp [Settings.channelsOf, group]
  have gating : cleared.Gating (fun n => cleared.eligible n = true ∨ s.settings.channelGroup n = some g)
      (fun n => s.settings.channelGroup n ≠ some g) (fun _ => False) := by
    refine ⟨clearLaw.mono (fun n able => ?_) fun n apart => ⟨trivial, fun h own => ?_⟩, fun n able => ?_⟩
    · by_cases own : s.settings.channelGroup n = some g
      · exact .inr own
      · exact .inl ((eligible n own).trans able)
    · have other : g ≠ h := by
        rintro rfl
        exact apart own
      rw [show cleared.mix.groups.get h = s.groups.get h from groups h other]
      rfl
    · by_cases own : s.settings.channelGroup n = some g
      · rw [same, barred n own] at able
        cases able
      · rw [same, eligible n own] at able
        exact (groupLaw_gating law).awake n able
  obtain ⟨parked, still, others⟩ := gating.parkIneligible (stored.settings.channelsOf g)
  have up (n : Channel) (h : (cleared.eligible n = true ∨ s.settings.channelGroup n = some g) ∧
      (n ∈ stored.settings.channelsOf g → cleared.eligible n = true)) : cleared.eligible n = true :=
    h.1.elim id fun own => h.2 ((channels n).mpr own)
  have settings : (stored.groupDisabled g).settings = stored.settings := (OnlyMix.parkIneligible _ cleared).settings
  have group (n : Channel) : (stored.groupDisabled g).settings.channelGroup n = s.settings.channelGroup n := by
    rw [settings]
    rfl
  refine ⟨settings, ⟨?_, fun n able aligned rests => parked.awake n able aligned rests⟩, fun h apart => ?_, .inr ?_⟩
  · refine (parked.law.mono (fun n h => (still n).trans (up n h)) fun _ d => d).redue fun n _ closed _ own => ?_
    have able := up n ((parked.law.gate n).ok (by rw [closed]; decide))
    rw [same, barred n own] at able
    cases able
  · have eq : (stored.groupDisabled g).groups.get h = cleared.groups.get h :=
      others h fun n listed own => apart (Option.some.inj (((channels n).mp listed).symm.trans own))
    rw [eq, groups h apart]
    exact groupLaw_fit law h
  · obtain ⟨members, waiting⟩ := parked.law.empty (g := g) fun n own able => by
      have able := up n able
      rw [same, barred n ((group n).symm.trans own)] at able
      cases able
    refine .of_empty ?_ waiting
    rw [show ((stored.groupDisabled g).groups.get g).members = [] from members]
    exact Nat.zero_le _

/-- Enabled set (R105, step 2). -/
theorem State.Resizing.enabled (law : GroupLaw s) {g : Group} {r : GroupRec}
    (off : (s.settings.groupRecord g).enabled = false) :
    s.Resizing ((s.recorded g r).reEvaluateAll ((s.recorded g r).settings.channelsOf g)) g r := by
  set stored := s.recorded g r
  have barred (n : Channel) (own : s.settings.channelGroup n = some g) : ¬ s.eligible n = true := by
    rw [State.eligible_iff]
    rintro ⟨⟨h, group, enabled⟩, -⟩
    have same : g = h := Option.some.inj (own.symm.trans group)
    subst same
    rw [off] at enabled
    cases enabled
  have eligible (n : Channel) (apart : s.settings.channelGroup n ≠ some g) : stored.eligible n = s.eligible n :=
    s.recorded_eligible fun own => absurd own apart
  have channels (n : Channel) : n ∈ stored.settings.channelsOf g ↔ s.settings.channelGroup n = some g := by
    have group : stored.settings.channelGroup n = s.settings.channelGroup n := rfl
    simp [Settings.channelsOf, group]
  have now := groupLaw_gating law
  obtain ⟨members, waiting⟩ := now.law.empty (g := g) barred
  have fit : stored.Fit := fun h => by
    by_cases same : g = h
    · subst same
      refine .of_empty ?_ waiting
      rw [show (stored.mix.groups.get g).members = [] from members]
      exact Nat.zero_le _
    · rw [s.recorded_groupRecord_other r same]
      exact groupLaw_fit law h
  have gating : stored.Gating (fun n => stored.eligible n = true) (fun _ => True)
      (fun n => s.settings.channelGroup n = some g) := by
    refine ⟨now.law.mono (fun n able => ?_) fun _ d => d, fun n able aligned rests => ?_⟩
    · rw [eligible n fun own => barred n own able]
      exact able
    · by_contra own
      rw [eligible n own] at able
      exact now.awake n able aligned rests
  obtain ⟨next, nextFit⟩ := gating.reEvaluateAll fit (fun _ able _ => able) (stored.settings.channelsOf g)
  have settings := (OnlyMix.reEvaluateAll (stored.settings.channelsOf g) stored).settings
  refine ⟨settings, next.mono (fun n able => ?_) (fun _ d => d) fun n late => late.2 ((channels n).mpr late.1),
    fun h apart => ?_, .inr ?_⟩
  · rw [State.reEvaluateAll_eligible]
    exact able.1
  · have := nextFit h
    rw [settings, s.recorded_groupRecord_other r apart] at this
    exact this
  · have := nextFit g
    rw [settings, s.recorded_groupRecord_self] at this
    exact this

/-- The steps of a GROUP write that size the set (R105, steps 3 and 4; R106). -/
theorem State.Resizing.resized {g : Group} {r : GroupRec} (law : GroupLaw s) (ready : s.Resizing t g r)
    (size : (s.groups.get g).forcedCount ≤ r.maxOpen) :
    GroupLaw (t.groupResized g (s.settings.groupRecord g).maxOpen r.maxOpen) := by
  have self : (t.settings.groupRecord g).maxOpen = r.maxOpen := by rw [ready.settings, s.recorded_groupRecord_self]
  have other (h : Group) (apart : g ≠ h) : t.settings.groupRecord h = s.settings.groupRecord h := by
    rw [ready.settings, s.recorded_groupRecord_other r apart]
  have old := (groupLaw_fit law g).bound
  have fitting {m : Mix} (near : Mix.Local t.settings.channelGroup g t.mix m) (fit : (m.groups.get g).Fits r.maxOpen) :
      Mix.AllFit t.settings m := fun h => by
    by_cases same : g = h
    · subst same
      rw [self]
      exact fit
    · rw [near.others h same, other h same]
      exact ready.others h same
  have done {f : Mix → Mix} (law : (f t.mix).Law t.settings.channelGroup (fun n => t.eligible n = true) fun _ => True)
      (near : Mix.Local t.settings.channelGroup g t.mix (f t.mix)) (fit : ((f t.mix).groups.get g).Fits r.maxOpen)
      (station : ∀ n, ((f t.mix).gates.get n).station = (t.gates.get n).station)
      (parks : Mix.Parks (fun n => t.eligible n = false) t.mix (f t.mix)) : GroupLaw (t.onMix f) := by
    refine State.Gating.groupLaw ((ready.gating.onMix law station parks).mono (fun n able => ?_) (fun _ d => d) fun _ l => l)
      fun h => fitting near fit h
    rw [State.onMix_eligible n (station n)]
    exact able
  unfold State.groupResized
  split
  case isTrue same =>
    refine ready.gating.groupLaw (fitting (.refl ..) ?_)
    obtain stood | fits := ready.own
    · rw [show t.mix.groups.get g = s.groups.get g from stood, same]
      exact groupLaw_fit law g
    · exact fits
  case isFalse changed =>
    split
    case isTrue raised =>
      have bound : (t.mix.groups.get g).members.length ≤ (t.settings.groupRecord g).maxOpen := by
        rw [self]
        obtain stood | fits := ready.own
        · rw [show t.mix.groups.get g = s.groups.get g from stood]
          exact old.trans raised.le
        · exact fits.bound
      obtain ⟨next, near, fit⟩ := ready.gating.law.offer (c := t.settings) bound
      rw [self] at fit
      exact done next near fit ((Mix.Frame.refl EventMask.kinds _).offer Mix.postsGates_all _ g).station
        ((Mix.Parks.refl _ _).offer _ g)
    case isFalse =>
      obtain ⟨sized, near, sub, -, small⟩ := ready.gating.law.fitAuto (g := g) (maxOpen := r.maxOpen) le_rfl
      have bound : ((t.mix.fitOpenSet r.maxOpen g).groups.get g).members.length ≤ (t.settings.groupRecord g).maxOpen := by
        rw [self]
        obtain fits | forced := small
        · exact fits
        · obtain stood | fits := ready.own
          · have all := sub.filter fun y => y.kind == .forced
            rw [List.filter_eq_self.mpr fun y member => by simp [forced y member]] at all
            have count : ((t.mix.groups.get g).members.filter fun y => y.kind == .forced).length =
                (s.groups.get g).forcedCount := by
              rw [show t.mix.groups.get g = s.groups.get g from stood]
              rfl
            exact all.length_le.trans (count.le.trans size)
          · exact sub.length_le.trans fits.bound
      obtain ⟨next, far, fit⟩ := sized.offer (c := t.settings) bound
      rw [self] at fit
      refine done (f := fun m => (m.fitOpenSet r.maxOpen g).offer t.settings g) next (near.trans far) fit ?_ ?_
      · exact (((Mix.Frame.refl EventMask.kinds _).fitAuto Mix.postsGates_all _ g _).offer Mix.postsGates_all _ g).station
      · exact ((Mix.Parks.refl _ _).fitAuto _ g _).offer _ g

theorem groupLaw_groupHoldCleared (law : GroupLaw s) (g : Group) :
    GroupLaw (s.groupHoldCleared g) := by
  obtain ⟨dropped, near, fewer⟩ := (groupLaw_gating law).law.dropLastOn (g := g)
  obtain ⟨next, far, fit⟩ := dropped.offer (c := s.settings) (fewer.trans (groupLaw_fit law g).bound)
  refine groupLaw_onMix (f := fun m => (m.dropLastOn g).offer s.settings g) law
    ⟨next, Mix.Law.allFit_of_local (groupLaw_fit law) (near.trans far) fit⟩ ?_ ?_
  · exact (((Mix.Frame.refl EventMask.kinds _).dropLastOn Mix.postsGates_all g).offer Mix.postsGates_all _ g).station
  · exact ((Mix.Parks.refl _ _).dropLastOn g).offer _ g

/-- A GROUP write in the active arrangement (R105). -/
theorem groupLaw_groupEffects (law : GroupLaw s) {g : Group} {r : GroupRec}
    (size : (s.groups.get g).forcedCount ≤ r.maxOpen) :
    GroupLaw ((s.recorded g r).groupEffects g (s.settings.groupRecord g) r) := by
  set stored := s.recorded g r
  set toggled := if ¬(s.settings.groupRecord g).enabled ∧ r.enabled then
      (if (s.settings.groupRecord g).enabled ∧ ¬r.enabled then stored.groupDisabled g else stored).reEvaluateAll
        (stored.settings.channelsOf g)
    else if (s.settings.groupRecord g).enabled ∧ ¬r.enabled then stored.groupDisabled g else stored with toggledEq
  have ready : s.Resizing toggled g r := by
    rw [toggledEq]
    cases before : (s.settings.groupRecord g).enabled <;> cases after : r.enabled
    · exact .stored law (after.trans before.symm)
    · exact .enabled law before
    · exact .disabled law after
    · exact .stored law (after.trans before.symm)
  have resized := ready.resized law size
  have settings : (toggled.groupResized g (s.settings.groupRecord g).maxOpen r.maxOpen).settings = stored.settings := by
    unfold State.groupResized
    split
    · exact ready.settings
    · split <;> exact ready.settings
  have released : GroupLaw (if (s.settings.groupRecord g).lastHold ∧ ¬r.lastHold then
      (toggled.groupResized g (s.settings.groupRecord g).maxOpen r.maxOpen).groupHoldCleared g
      else toggled.groupResized g (s.settings.groupRecord g).maxOpen r.maxOpen) := by
    split
    · exact groupLaw_groupHoldCleared resized g
    · exact resized
  have eq : stored.groupEffects g (s.settings.groupRecord g) r = if (s.settings.groupRecord g).master = r.master then
      (if (s.settings.groupRecord g).lastHold ∧ ¬r.lastHold then
        (toggled.groupResized g (s.settings.groupRecord g).maxOpen r.maxOpen).groupHoldCleared g
        else toggled.groupResized g (s.settings.groupRecord g).maxOpen r.maxOpen)
      else (if (s.settings.groupRecord g).lastHold ∧ ¬r.lastHold then
        (toggled.groupResized g (s.settings.groupRecord g).maxOpen r.maxOpen).groupHoldCleared g
        else toggled.groupResized g (s.settings.groupRecord g).maxOpen r.maxOpen).askGroup g := rfl
  rw [eq]
  split
  · exact released
  · exact groupLaw_same released rfl rfl rfl rfl rfl rfl

theorem groupLaw_storeGroup (law : GroupLaw s) {k : Arrangement} {g : Group} {r : GroupRec}
    (size : k = s.settings.active → (s.groups.get g).forcedCount ≤ r.maxOpen) :
    GroupLaw (s.storeGroup k g r) := by
  unfold State.storeGroup
  dsimp only
  split
  case isTrue active =>
    subst active
    exact groupLaw_settle (groupLaw_groupEffects law (size rfl)) s
  case isFalse apart =>
    refine groupLaw_onSettings law rfl (funext fun h => ?_) fun _ => rfl
    simp only [Settings.groupRecord, Settings.setGroup, Table.get_modify_other _ _ apart]

/-! ### Switches (R120, R121) -/

theorem Mix.fitAll_station (c : Settings) (moved : Channel → Bool) (m : Mix) (n : Channel) :
    ((m.fitAll c moved).gates.get n).station = (m.gates.get n).station := by
  have frame : Mix.Frame EventMask.kinds m (m.fitAll c moved) := by
    unfold Mix.fitAll
    exact .foldl (.refl ..) (fun g u => u.fitAtSwitch Mix.postsGates_all c moved g) _
  exact frame.station n

theorem groupLaw_switchTo (law : GroupLaw s) (k : Arrangement) : GroupLaw (s.switchTo k) := by
  rw [State.switchTo_eq]
  refine groupLaw_post ?_ _
  set taken := (s.select k).onMix (Mix.takeMoved (s.changesGroup k))
  have takenLaw : taken.mix.Law taken.settings.channelGroup (fun _ => True) fun n => s.changesGroup k n = false :=
    { ((groupLaw_gating law).law.mono (ok' := fun _ => True) (fun _ _ => trivial) fun _ d => d).takeMoved
        (grp' := (s.select k).settings.channelGroup) (moved := s.changesGroup k)
        (fun n other => bne_iff_ne.mpr other) fun _ _ => trivial with }
  obtain ⟨parked, eligible, -⟩ := State.Gating.parkIneligible (s := taken) (late := fun _ => True)
    ⟨takenLaw, fun _ _ _ _ => trivial⟩ (List.finRange 16)
  have same : s.switched k = (taken.parkIneligible (List.finRange 16)).askAll := rfl
  have kept := (OnlyMix.parkIneligible (List.finRange 16) taken).settings
  generalize taken.parkIneligible (List.finRange 16) = quiet at parked eligible same kept
  have switched : (s.switched k).mix.Law (s.select k).settings.channelGroup (fun n => (s.switched k).eligible n = true)
      fun n => s.changesGroup k n = false := by
    have law := parked.law
    rw [kept] at law
    rw [same]
    exact law.mono (fun n able => (eligible n).trans (able.2 (List.mem_finRange n))) fun _ d => d
  have settingsEq := s.switched_settings k
  have flags (n : Channel) : (s.switched k).engine.aligned.get n = false := by
    rw [same, State.askAll_engine, Engine.askAll, Table.get_ofFn]
  clear_value taken
  clear same takenLaw
  generalize s.switched k = done at *
  obtain ⟨next, fit⟩ := switched.fitAll
  have station := Mix.fitAll_station (s.select k).settings (s.changesGroup k) done.mix
  refine State.Gating.groupLaw ⟨?_, fun n _ aligned _ => ?_⟩ ?_
  · rw [State.onMix_settings, settingsEq]
    refine { next.mono (fun n able => ?_) fun _ d => d with }
    rw [State.onMix_eligible n (station n)]
    exact able
  · rw [State.onMix_engine, flags n] at aligned
    cases aligned
  · unfold State.Fit
    rw [State.onMix_settings, settingsEq]
    exact fit

end Sys2Proof.Machine
end

section
/-! PROOFS. The gates, the open sets and the forced-wait lists (R86 to R90, R93, R95, R110, R112, R115, R116), and when a
channel is eligible (R85). -/

namespace Sys2Proof.Machine

open Sys2Proof.Safety

variable {s t : State}

theorem groupLaw_askChannels (law : GroupLaw s) (chosen : Channel → Bool) : GroupLaw (s.askChannels chosen) := by
  unfold State.askChannels
  generalize (List.finRange 16).filter chosen = ns
  induction ns generalizing s with
  | nil => exact law
  | cons n ns ih =>
    refine ih (State.Alike.groupLaw (s := s) (.same rfl rfl rfl rfl rfl fun k h => ?_) law)
    replace h : (s.engine.aligned.set n false).get k = true := h
    by_cases same : n = k
    · subst same
      rw [Table.get_set_self] at h
      cases h
    · rwa [Table.get_set_other _ _ same] at h

theorem groupLaw_askAll (law : GroupLaw s) : GroupLaw s.askAll :=
  State.Alike.groupLaw (s := s) (.same rfl rfl rfl rfl rfl fun n h => by
    rw [State.askAll_engine, Engine.askAll, Table.get_ofFn] at h
    cases h) law

theorem groupLaw_reportTemperature (law : GroupLaw s) (v : Int) : GroupLaw (s.reportTemperature v) := by
  unfold State.reportTemperature
  have told : GroupLaw { s with engine := { s.engine with reported := v, tempUnset := false } } :=
    groupLaw_same law rfl rfl rfl rfl rfl rfl
  dsimp only
  split
  · exact groupLaw_askAll told
  · exact told

theorem groupLaw_deliverLevels (law : GroupLaw s) {f : MemberInputs → Zone → Option Nat} (ms : List MemberInputs) :
    GroupLaw (ms.foldl (fun s m => s.deliverLevels m (f m)) s) := by
  induction ms generalizing s with
  | nil => exact law
  | cons m ms ih => exact ih (groupLaw_same law rfl rfl rfl rfl rfl rfl)

theorem groupLaw_applyContact (law : GroupLaw s) (k : ContactIn) :
    GroupLaw (s.applyContact k) := by
  unfold State.applyContact
  split
  · split
    · exact groupLaw_moveTo law _ _
    · exact law
  · split
    · exact groupLaw_switchTo law _
    · exact law
  · exact groupLaw_reAct law _

theorem groupLaw_storeContactIn (law : GroupLaw s) (k : ContactIn) (b : ContactBinding) :
    GroupLaw (s.storeContactIn k b) := by
  have stored : GroupLaw (s.onSettings fun c => { c with contactIn := c.contactIn.set k b }) :=
    groupLaw_onSettings law rfl rfl fun _ => rfl
  have first := groupLaw_reAct stored (s.settings.contactIn.get k).action
  exact groupLaw_settle (groupLaw_reAct first b.action) s

theorem Socket.tick_ready (x : Socket) : x.tick.phase.ready = x.phase.ready := by
  unfold Socket.tick
  cases x.phase <;> rfl

theorem groupLaw_tick (law : GroupLaw s) : GroupLaw s.tick :=
  groupLaw_ready law rfl rfl rfl rfl rfl fun k => by
    rw [State.tick, Table.get_map, Socket.tick_ready]

theorem groupLaw_storeStation (law : GroupLaw s) (k : Station) (r : StationRec) : GroupLaw (s.storeStation k r) := by
  have stored : GroupLaw (s.onSettings fun c => { c with stations := c.stations.set k r }) :=
    groupLaw_onSettings law rfl rfl fun _ => rfl
  unfold State.storeStation
  dsimp only
  split
  · exact stored
  · exact groupLaw_askChannels stored _

theorem groupLaw_storeZone (law : GroupLaw s) (j : Zone) (r : ZoneRec) : GroupLaw (s.storeZone j r) := by
  have stored : GroupLaw (s.onSettings fun c => { c with zones := c.zones.set j r }) :=
    groupLaw_onSettings law rfl rfl fun _ => rfl
  unfold State.storeZone
  dsimp only
  split
  · exact stored
  · exact groupLaw_askAll stored

theorem groupLaw_storeRouting (law : GroupLaw s) (q : Port) (r : Routing) : GroupLaw (s.storeRouting q r) := by
  have stored : GroupLaw (s.onSettings fun c => { c with routing := c.routing.set q r }) :=
    groupLaw_onSettings law rfl rfl fun _ => rfl
  unfold State.storeRouting
  dsimp only
  split
  · exact stored
  · exact groupLaw_same stored rfl rfl rfl rfl rfl rfl

theorem groupLaw_storeSystem (law : GroupLaw s) (r : SystemRec) : GroupLaw (s.storeSystem r) := by
  have stored : GroupLaw (s.onSettings fun c => { c with system := r }) :=
    groupLaw_onSettings law rfl rfl fun _ => rfl
  unfold State.storeSystem
  dsimp only
  split
  · exact stored
  · exact groupLaw_same stored rfl rfl rfl rfl rfl rfl

theorem groupLaw_setHolder (law : GroupLaw s) (g : Group) (x : Option Port) : GroupLaw (s.setHolder g x) := by
  refine State.Alike.groupLaw (s := s) ⟨fun _ => ⟨rfl, rfl, rfl⟩, fun h => ?_, fun h => ?_, rfl, fun _ => rfl, fun _ _ => rfl,
    fun _ _ => id⟩ law
  · exact Table.get_modify_congr s.groups GroupState.members (by exact fun _ => rfl) h
  · exact Table.get_modify_congr s.groups GroupState.waiting (by exact fun _ => rfl) h

theorem groupLaw_input (law : GroupLaw s) {gates : Table 16 Gate} {delay : DelayMemory} {announcement : Sample}
    (same : ∀ n, (gates.get n).state = (s.gates.get n).state ∧ (gates.get n).mode = (s.gates.get n).mode ∧
      (gates.get n).holdCounter = (s.gates.get n).holdCounter ∧ (gates.get n).station = (s.gates.get n).station) :
    GroupLaw { s with delay := delay, gates := gates, announcement := announcement } := by
  refine State.Alike.groupLaw (s := s) ⟨fun n => ?_, fun _ => rfl, fun _ => rfl, rfl, fun _ => rfl, fun n _ => ?_,
    fun _ _ => id⟩ law
  · obtain ⟨state, mode, counter, -⟩ := same n
    exact ⟨state, mode, counter⟩
  · obtain ⟨-, -, -, station⟩ := same n
    exact State.eligible_congr rfl (fun _ _ => rfl) (congrArg _ station) rfl rfl rfl

theorem groupLaw_insertion (law : GroupLaw s) (n : Channel) : GroupLaw (s.onSocket n fun x =>
    { x with
      presence := true
      debounce := none
      suppressed := false
      phase := if x.phase = .empty then .sensing Config.sensingTime else x.phase }) := by
  refine groupLaw_onSocket law n ?_
  dsimp only
  split
  case isTrue empty => rw [empty]; rfl
  case isFalse => rfl

/-- A socket event at Mn: gates, groups, settings and the other sockets stand until Mn is re-evaluated. -/
theorem groupLaw_atSocket (law : GroupLaw s) {n : Channel} (gates : t.gates = s.gates)
    (groups : t.groups = s.groups) (settings : t.settings = s.settings) (standby : t.standby = s.standby)
    (aligned : t.engine.aligned = s.engine.aligned) (sockets : ∀ k, n ≠ k → t.sockets.get k = s.sockets.get k) :
    GroupLaw (t.socketEvent n s) :=
  groupLaw_socketEvent (.socket gates groups settings standby aligned fun k apart => sockets k (Ne.symm apart)) law s

theorem groupLaw_onZones (law : GroupLaw s) (f : Zone → ZoneState → ZoneState) : GroupLaw (s.onZones f) :=
  groupLaw_same law rfl rfl rfl rfl rfl rfl

theorem groupLaw_onZone (law : GroupLaw s) (j : Zone) (f : ZoneState → ZoneState) : GroupLaw (s.onZone j f) :=
  groupLaw_same law rfl rfl rfl rfl rfl rfl

theorem groupLaw_takeOver (law : GroupLaw s) (z : Zone → Bool) : GroupLaw (s.takeOver z) :=
  groupLaw_same law rfl rfl rfl rfl rfl rfl

theorem groupLaw_onOverride (law : GroupLaw s) (f : Override → Override) : GroupLaw (s.onOverride f) :=
  groupLaw_same law rfl rfl rfl rfl rfl rfl

theorem groupLaw_onClock (law : GroupLaw s) (f : Clock → Clock) : GroupLaw (s.onClock f) :=
  groupLaw_same law rfl rfl rfl rfl rfl rfl

theorem groupLaw_onContact (law : GroupLaw s) (k : ContactIn) (f : Contact → Contact) : GroupLaw (s.onContact k f) :=
  groupLaw_same law rfl rfl rfl rfl rfl rfl

theorem groupLaw_onCrosspoints (law : GroupLaw s) (f : Nat → Crosspoint → Crosspoint) : GroupLaw (s.onCrosspoints f) :=
  groupLaw_same law rfl rfl rfl rfl rfl rfl

theorem groupLaw_sendFeeds (law : GroupLaw s) : GroupLaw s.sendFeeds := by
  unfold State.sendFeeds
  split <;> exact groupLaw_same law rfl rfl rfl rfl rfl rfl

theorem groupLaw_postTo (law : GroupLaw s) (p : Port) (m : EventMask) : GroupLaw (s.postTo p m) :=
  groupLaw_same law rfl rfl rfl rfl rfl rfl

/-- Every command's act keeps `GroupLaw`. -/
theorem Act.groupLaw {c : Instr} {s t : State} (act : Act c s t) (law : GroupLaw s) (settings : SettingsLaw s) :
    GroupLaw t := by
  cases act with
  | nothing => exact law
  | station => exact groupLaw_storeStation law _ _
  | zone => exact groupLaw_storeZone law _ _
  | channel _ window => exact groupLaw_storeChannel law (window.imp_right And.left)
  | group size range => exact groupLaw_storeGroup law size
  | membership => exact groupLaw_storeMembership law _ _ _
  | contactIn => exact groupLaw_storeContactIn law _ _
  | profile | contactOut => exact groupLaw_onSettings law rfl rfl fun _ => rfl
  | routing => exact groupLaw_storeRouting law _ _
  | system => exact groupLaw_storeSystem law _
  | moveSource => exact groupLaw_settle (groupLaw_moveTo law _ _) s
  | gateMode => exact groupLaw_settle (groupLaw_setPortMode law _ _) s
  | temperature => exact groupLaw_reportTemperature law _
  | temperatureClamped => exact groupLaw_post (groupLaw_reportTemperature law _) _
  | arrangement => exact groupLaw_settle (groupLaw_switchTo law _) s
  | hold | release => exact groupLaw_setHolder law _ _
  | breakHold => exact groupLaw_postTo (groupLaw_setHolder law _ none) _ _
  | mute => exact groupLaw_settle (groupLaw_onZone law _ _) s
  | resume => exact groupLaw_settle (groupLaw_post (groupLaw_onZones (groupLaw_onOverride law _) _) _) s
  | rearm => exact groupLaw_settleClock (groupLaw_onZones law _) s _
  | clockSilenced => exact groupLaw_settleClock (groupLaw_onZones (groupLaw_post (groupLaw_onClock law _) _) _) s _
  | socketOn | socketOff | resense =>
    exact groupLaw_atSocket law rfl rfl rfl rfl rfl fun k apart => Table.get_modify_other _ _ apart
  | rampedUp | overcurrent =>
    exact groupLaw_atSocket law rfl rfl rfl rfl rfl fun k apart => Table.get_modify_other _ _ apart
  | sensingEnd =>
    split
    · exact groupLaw_atSocket law rfl rfl rfl rfl rfl fun k apart => Table.get_modify_other _ _ apart
    · refine groupLaw_atSocket law rfl rfl rfl rfl rfl fun k apart => ?_
      exact (Table.get_modify_other _ _ apart).trans (Table.get_modify_other _ _ apart)
  | removal =>
    split <;> exact groupLaw_atSocket law rfl rfl rfl rfl rfl fun k apart => Table.get_modify_other _ _ apart
  | insertion => exact groupLaw_insertion law _
  | standby => exact groupLaw_enterStandby law
  | wake => exact groupLaw_leaveStandby law
  | runtimeReset | resetAtEnd => exact groupLaw_runtimeReset s _
  | powerOnReset => exact groupLaw_powerOn _ _ _ _ _
  | itemStart => exact groupLaw_startItem law _ _
  | channelDropped | allDropped => exact groupLaw_nextItem law
  | channelDelivered => exact groupLaw_nextItem (groupLaw_deliverChannel law _ _ s)
  | allDelivered => exact groupLaw_nextItem (groupLaw_deliverAll law _ _ s)
  | groupDelivered => exact groupLaw_nextItem (groupLaw_deliverLevels law _)
  | measurement => exact groupLaw_takeMeasurement law settings _ _
  | asserted =>
    exact groupLaw_settle (groupLaw_post (groupLaw_takeOver (groupLaw_onOverride (groupLaw_onOverride law _) _) _) _) s
  | deasserted =>
    exact groupLaw_settle (groupLaw_post (groupLaw_onZones (groupLaw_onOverride (groupLaw_onOverride law _) _) _) _) s
  | contact =>
    exact groupLaw_settle (groupLaw_applyContact (groupLaw_post (groupLaw_onContact law _ _) _) _) s
  | output =>
    exact groupLaw_tick (groupLaw_sendFeeds (groupLaw_onCrosspoints (groupLaw_onCrosspoints law _) _))
  | input =>
    refine groupLaw_input law fun n => ?_
    split
    · exact ⟨rfl, rfl, rfl, rfl⟩
    · rw [Table.get_map]
      exact ⟨rfl, rfl, rfl, rfl⟩
  | rawPresence =>
    refine groupLaw_onSocket law _ ?_
    unfold Socket.follow
    split <;> rfl
  | faulted | socketRefused | clearEvents | forceEvents | freeze | held | rampEnd | crossfadeEnd | lineHeard | lineReleased |
    clockEdge | qualified | gapPassed | clockLost | pulseEnd | rawLine | rawContact =>
    exact groupLaw_same law rfl rfl rfl rfl rfl rfl

/-- Settles O54: every operation of the arbiter keeps the law of the sets within an event, and every command is made of
such operations. -/
theorem everyStepKeepsTheOpenSetLaws : Obligations.EveryStepKeepsTheOpenSetLaws := by
  unfold Obligations.EveryStepKeepsTheOpenSetLaws
  refine ⟨fun s t law settings h => ?_, fun s n => ?_⟩
  · refine (step_keeps (P := fun s => GroupLaw s ∧ SettingsLaw s) (fun s q ⟨law, settings⟩ => ⟨?_, settings⟩)
      (fun s p ⟨law, settings⟩ => ⟨?_, settings⟩) (fun act ⟨law, settings⟩ => ⟨act.groupLaw law settings, act.settingsLaw settings⟩)
      ⟨law, settings⟩ h).1 <;> exact groupLaw_same law rfl rfl rfl rfl rfl rfl
  · rw [State.eligible_iff]
    have ready : (s.sockets.get n).phase.ready = true ↔ SocketReady (s.sockets.get n).phase := by
      cases (s.sockets.get n).phase with
      | present k => cases k <;> simp [SocketPhase.ready, SocketReady]
      | _ => simp [SocketPhase.ready, SocketReady]
    rw [ready, Option.isSome_iff_exists]
    rfl

end Sys2Proof.Machine
end

section
/-! PROOFS. What standby means (R140, R146, R165). -/

namespace Sys2Proof.Machine

open Sys2Proof.Safety

variable {s t : State}

/-! ### The zones under the contacts -/

/-- A while-action moves the contact mute of a zone at most (R198). -/
theorem State.reAct_zone (s : State) (a : ContactAction) (j : Zone) :
    ∃ b, (s.reAct a).zones.get j = { s.zones.get j with contactMute := b } := by
  cases a with
  | zoneMuteWhile k =>
    by_cases same : k = j
    · subst same
      exact ⟨_, Table.get_modify_self ..⟩
    · exact ⟨_, Table.get_modify_other _ _ same⟩
  | _ => exact ⟨_, rfl⟩

theorem State.storeContactIn_zone (s : State) (k : ContactIn) (b : ContactBinding) (j : Zone) :
    ∃ m, (s.storeContactIn k b).zones.get j = { s.zones.get j with contactMute := m } := by
  set stored := s.onSettings fun c => { c with contactIn := c.contactIn.set k b }
  obtain ⟨m, first⟩ := stored.reAct_zone (s.settings.contactIn.get k).action j
  obtain ⟨m', second⟩ := (stored.reAct (s.settings.contactIn.get k).action).reAct_zone b.action j
  refine ⟨m', second.trans ?_⟩
  rw [first]
  rfl

theorem State.applyContact_zone (s : State) (k : ContactIn) (j : Zone) :
    ∃ m, (s.applyContact k).zones.get j = { s.zones.get j with contactMute := m } := by
  have still {t : State} (h : t.ground = s.ground) : ∃ m, t.zones.get j = { s.zones.get j with contactMute := m } :=
    ⟨_, by rw [← State.ground_zones, h]; rfl⟩
  unfold State.applyContact
  split
  · split
    · exact still (State.moveTo_ground ..)
    · exact still rfl
  · split
    · exact ⟨(s.zones.get j).contactMute, by rw [← State.ground_zones, State.switchTo_ground]; rfl⟩
    · exact still rfl
  · exact s.reAct_zone _ j

/-! ### Zones and phantom in standby -/

@[simp] theorem ZoneState.release_standby (z : ZoneState) : z.release.standby = z.standby := by
  unfold ZoneState.release
  split <;> rfl

theorem Act.zoneStandby {c : Instr} (act : Act c s t) (law : ∀ j, (s.zones.get j).standby = s.standby) (j : Zone) :
    (t.zones.get j).standby = t.standby := by
  have kept := law j
  rw [← State.ground_zones, ← State.ground_standby]
  cases act with
  | @contactIn _ _ _ _ k b =>
    obtain ⟨m, h⟩ := s.storeContactIn_zone k b j
    rw [State.storeContactIn_ground]
    simp only [h]
    exact kept
  | @contact s k =>
    rw [State.settle_ground]
    set told := (s.onContact k fun c => { c with debounced := c.raw, debounce := none }).post .contactChange
    obtain ⟨m, zone⟩ := told.applyContact_zone k j
    have standby : (told.applyContact k).standby = told.standby := by
      rw [← State.ground_standby]
      obtain h | h | ⟨a, h⟩ := told.applyContact_ground k <;> rw [h] <;> rfl
    rw [State.ground_zones, State.ground_standby, zone, standby]
    exact kept
  | @mute _ _ _ k b =>
    rw [State.settle_ground, State.onZone_ground]
    exact (Table.get_modify_congr _ ZoneState.standby (by exact fun _ => rfl) j).trans kept
  | asserted =>
    simp only [State.settle_ground, State.post_ground, State.takeOver_ground, Table.get_map]
    split <;> exact kept
  | sensingEnd | removal =>
    rw [State.socketEvent_ground]
    split <;> exact kept
  | nothing | held | freeze | input => exact kept
  | powerOnReset => simp [State.powerOn, State.ground, ZoneState.powerOn]
  | standby | wake => simp
  | _ => simpa [State.ground_zones, State.ground_standby] using kept

/-- In standby no socket carries phantom (R140). -/
def Ground.Dark (x : Ground) : Prop := x.standby = true → ∀ n, (x.sockets.get n).phase.phantomOn = false

theorem State.onSocket_dark (dark : s.ground.Dark) (m : Channel) {f : Socket → Socket}
    (off : s.standby = true → (s.sockets.get m).phase.phantomOn = false → (f (s.sockets.get m)).phase.phantomOn = false) :
    (s.onSocket m f).ground.Dark := fun asleep n => by
  rw [State.onSocket_ground]
  by_cases same : m = n
  · subst same
    rw [Table.get_modify_self]
    exact off asleep (dark asleep m)
  · rw [Table.get_modify_other _ _ same]
    exact dark asleep n

theorem State.setPhase_dark (dark : s.ground.Dark) (m : Channel) {ph : SocketPhase} (off : ph.phantomOn = false) :
    (s.setPhase m ph).ground.Dark := s.onSocket_dark dark m fun _ _ => off

theorem Socket.tick_phantomOn (x : Socket) : x.tick.phase.phantomOn = x.phase.phantomOn := by
  unfold Socket.tick
  cases x.phase <;> rfl

theorem Socket.powerDown_phantomOn (x : Socket) : x.powerDown.phase.phantomOn = false := by
  unfold Socket.powerDown
  split <;> simp_all [SocketPhase.phantomOn]

theorem Socket.powerOffRequest_phantomOn (x : Socket) : x.powerOffRequest.phase.phantomOn = false := by
  unfold Socket.powerOffRequest
  cases h : x.phase <;> rfl

theorem State.autoPowerOn_dark {n : Channel} {before r : ChannelRec} (dark : s.ground.Dark) :
    (s.autoPowerOn n before r).ground.Dark := by
  unfold State.autoPowerOn
  split
  case isTrue acts => exact fun asleep => absurd asleep acts.2.2.1
  case isFalse => exact dark

theorem Act.dark {c : Instr} (act : Act c s t) (dark : s.ground.Dark) : t.ground.Dark := by
  cases act with
  | @channel _ _ _ _ m r =>
    unfold State.storeChannel
    dsimp only
    refine State.autoPowerOn_dark ?_
    split
    · exact dark
    · exact dark
  | socketOn condenser awake =>
    rw [State.socketEvent_ground]
    exact fun asleep => absurd (awake.symm.trans asleep) (by decide)
  | socketOff =>
    rw [State.socketEvent_ground]
    exact s.onSocket_dark dark _ fun _ _ => Socket.powerOffRequest_phantomOn _
  | resense =>
    rw [State.socketEvent_ground]
    exact s.onSocket_dark dark _ fun _ _ => rfl
  | insertion =>
    refine s.onSocket_dark dark _ fun _ off => ?_
    dsimp only
    split
    · rfl
    · exact off
  | sensingEnd =>
    rw [State.socketEvent_ground]
    split
    case isTrue => exact s.setPhase_dark dark _ rfl
    case isFalse awake => exact fun asleep => absurd asleep awake
  | rampedUp ramping =>
    rw [State.socketEvent_ground, State.post_ground]
    refine s.onSocket_dark dark _ fun asleep off => ?_
    rw [ramping] at off
    cases off
  | overcurrent =>
    rw [State.socketEvent_ground, State.post_ground]
    exact s.setPhase_dark dark _ rfl
  | removal =>
    rw [State.socketEvent_ground]
    split <;> exact s.onSocket_dark dark _ fun _ _ => rfl
  | standby =>
    rw [State.enterStandby_ground]
    intro _ n
    rw [Table.get_map]
    exact Socket.powerDown_phantomOn _
  | wake =>
    rw [State.leaveStandby_ground]
    exact nofun
  | powerOnReset => exact nofun
  | output =>
    rw [State.tick_ground]
    intro asleep n
    rw [Table.get_map, Socket.tick_phantomOn, ← State.ground_sockets]
    simp only [State.sendFeeds_ground, State.onCrosspoints_ground] at asleep ⊢
    exact dark asleep n
  | rawPresence =>
    refine s.onSocket_dark dark _ fun _ off => ?_
    unfold Socket.follow
    split <;> exact off
  | @contact s k =>
    rw [State.settle_ground]
    obtain h | h | ⟨a, h⟩ := State.applyContact_ground
      ((s.onContact k fun c => { c with debounced := c.raw, debounce := none }).post .contactChange) k <;>
    · rw [h]
      exact dark
  | contactIn => rw [State.storeContactIn_ground]; exact dark
  | nothing | held | freeze | input => exact dark
  | _ => simpa [Ground.Dark] using dark

/-- In standby `GroupLaw` says that every channel is PARKED and every set and list is empty (R165). -/
theorem groupLaw_asleep (law : GroupLaw s) (asleep : s.standby = true) :
    (∀ n, (s.gates.get n).state = .parked) ∧ ∀ g, (s.groups.get g).members = [] ∧ (s.groups.get g).waiting = [] := by
  have barred (n : Channel) : ¬ s.eligible n = true := by
    rw [State.eligible_iff]
    rintro ⟨-, -, -, -, awake⟩
    rw [asleep] at awake
    cases awake
  refine ⟨fun n => ?_, fun g => (groupLaw_gating law).law.empty fun n _ => barred n⟩
  by_contra up
  exact barred n (law.own.1 n up)

/-- Settles O56: standby and phantom by each command's act, and the rest by `GroupLaw`, as in standby no channel is
eligible. -/
theorem everyStepKeepsTheStandbyLaw : Obligations.EveryStepKeepsTheStandbyLaw := by
  unfold Obligations.EveryStepKeepsTheStandbyLaw
  intro s t law groups settings h
  have kept := step_keeps (P := fun s => (∀ j, (s.zones.get j).standby = s.standby) ∧ s.ground.Dark) (fun _ _ => id)
    (fun _ _ => id) (fun act ⟨zones, dark⟩ => ⟨act.zoneStandby zones, act.dark dark⟩)
    ⟨law.1, fun asleep => (law.2 asleep).2.2⟩ h
  refine ⟨kept.1, fun asleep => ?_⟩
  obtain ⟨parked, empty⟩ := groupLaw_asleep (everyStepKeepsTheOpenSetLaws.1 s t groups settings h) asleep
  exact ⟨parked, empty, kept.2 asleep⟩

end Sys2Proof.Machine
end

section
/-! PROOFS. The override monitor with its line and the zones (R149 to R153), and what the contacts bear on (R92, R146,
R198). -/

namespace Sys2Proof.Machine

open Sys2Proof.Safety

variable {s t u : State}

/-! ### The override -/

/-- The law of the override, as it looks at the monitor and the zones alone. -/
def Ground.Overriding (x : Ground) : Prop :=
  (x.override.debounced = true ↔ x.override.state = .active) ∧
    (∀ j, (x.zones.get j).taken = true → x.override.state = .active) ∧
    ∀ j, (x.zones.get j).overrideLatch = true → x.override.state ≠ .idle

/-- The zones differ in their contact mutes alone. -/
theorem Ground.Overriding.remute {x y : Ground} (law : x.Overriding) (override : y.override = x.override)
    (zones : ∀ j, ∃ m, y.zones.get j = { x.zones.get j with contactMute := m }) : y.Overriding := by
  obtain ⟨line, taken, latched⟩ := law
  unfold Ground.Overriding
  rw [override]
  refine ⟨line, fun j h => ?_, fun j h => ?_⟩ <;> obtain ⟨m, same⟩ := zones j <;> rw [same] at h
  · exact taken j h
  · exact latched j h

theorem Act.overriding {c : Instr} (act : Act c s t) (law : s.ground.Overriding) : t.ground.Overriding := by
  obtain ⟨line, taken, latched⟩ := id law
  simp only [State.ground_override, State.ground_zones] at line taken latched
  cases act with
  | @contactIn _ _ _ _ k b =>
    refine law.remute ?_ (s.storeContactIn_zone k b)
    rw [State.storeContactIn_ground]
  | @contact s k =>
    rw [State.settle_ground]
    set told := (s.onContact k fun c => { c with debounced := c.raw, debounce := none }).post .contactChange
    refine Ground.Overriding.remute (x := told.ground) law ?_ (told.applyContact_zone k)
    obtain h | h | ⟨a, h⟩ := told.applyContact_ground k <;> rw [h]
  | @mute _ _ _ j b =>
    rw [State.settle_ground, State.onZone_ground]
    refine ⟨line, fun i h => taken i ?_, fun i h => latched i ?_⟩
    · rw [← h]; exact (Table.get_modify_congr _ ZoneState.taken (by exact fun _ => rfl) i).symm
    · rw [← h]; exact (Table.get_modify_congr _ ZoneState.overrideLatch (by exact fun _ => rfl) i).symm
  | lineHeard active => exact ⟨by simp [Override.take, active], fun _ _ => active, latched⟩
  | asserted =>
    simp only [State.settle_ground, State.post_ground, State.takeOver_ground, State.onOverride_ground]
    exact ⟨by simp [Override.take], fun _ _ => rfl, fun _ _ => by simp⟩
  | lineReleased inactive =>
    exact ⟨by simpa [Override.take] using inactive, taken, latched⟩
  | deasserted active =>
    simp only [State.settle_ground, State.post_ground, State.onZones_ground, State.onOverride_ground]
    refine ⟨by simp [Override.take], fun j h => ?_, fun _ _ => by simp⟩
    simp only [Table.get_map, ZoneState.release] at h
    split at h
    · cases h
    case isFalse free => exact absurd h free
  | resume latch =>
    simp only [State.settle_ground, State.post_ground, State.onZones_ground, State.onOverride_ground]
    refine ⟨⟨fun h => ?_, nofun⟩, fun j h => ?_, fun j h => ?_⟩
    · have := line.mp h
      rw [latch] at this
      cases this
    · rw [Table.get_map] at h
      have := taken j h
      rw [latch] at this
      cases this
    · rw [Table.get_map] at h
      cases h
  | powerOnReset => simp [State.powerOn, State.ground, Ground.Overriding, ZoneState.powerOn, Override.powerOn]
  | output =>
    have kept : ((s.onCrosspoints fun len x => x.endFade len).onCrosspoints fun _ x => x.advance).sendFeeds.ground.Overriding := by
      rw [State.sendFeeds_ground]
      exact law
    rw [State.tick_ground]
    exact kept
  | rawLine =>
    rw [State.onOverride_ground]
    unfold Override.follow
    split <;> exact law
  | sensingEnd | removal =>
    rw [State.socketEvent_ground]
    split <;> exact law
  | nothing | held | freeze | input => exact law
  | _ => simpa [Ground.Overriding, State.ground_zones, State.ground_override] using law

/-! ### Modes -/

/-- The effective and the port-set modes of `s` and `t` agree. -/
def State.SameModes (s t : State) : Prop :=
  ∀ n, (t.gates.get n).mode = (s.gates.get n).mode ∧ (t.gates.get n).portMode = (s.gates.get n).portMode

namespace State.SameModes

theorem refl (s : State) : SameModes s s := fun _ => ⟨rfl, rfl⟩

theorem trans (h : SameModes s t) (k : SameModes t u) : SameModes s u := fun n =>
  ⟨(k n).1.trans (h n).1, (k n).2.trans (h n).2⟩

theorem move (h : SameModes s t) (gates : u.gates = t.gates) : SameModes s u := fun n => by
  rw [gates]
  exact h n

theorem onMix (h : SameModes s t) {f : Mix → Mix} {kinds : EventMask} (frame : Mix.Frame kinds t.mix (f t.mix)) :
    SameModes s (t.onMix f) := h.trans fun n => ⟨frame.mode n, frame.portMode n⟩

theorem ite {c : Prop} [Decidable c] (h : SameModes s t) (k : SameModes s u) : SameModes s (if c then t else u) := by
  split
  · exact h
  · exact k

theorem modify (h : SameModes s t) {n : Channel} {f : Gate → Gate} (gates : u.gates = t.gates.modify n f)
    (same : ∀ g, (f g).mode = g.mode ∧ (f g).portMode = g.portMode) : SameModes s u := h.trans fun k => by
  rw [gates]
  exact ⟨Table.get_modify_congr _ Gate.mode (fun g => (same g).1) k,
    Table.get_modify_congr _ Gate.portMode (fun g => (same g).2) k⟩

theorem reEvaluate (h : SameModes s t) (n : Channel) : SameModes s (t.reEvaluate n) :=
  .ite (.ite (h.onMix ((Mix.Frame.refl ..).leaveParked Mix.postsGates_all _ n)) h)
    (.ite h (h.onMix ((Mix.Frame.refl ..).leave Mix.postsGates_all _ n _)))

theorem reEvaluateAll (h : SameModes s t) (ns : List Channel) : SameModes s (t.reEvaluateAll ns) := by
  unfold State.reEvaluateAll
  induction ns generalizing t with
  | nil => exact h
  | cons n ns ih => exact ih (h.reEvaluate n)

theorem parkIneligible (h : SameModes s t) (ns : List Channel) : SameModes s (t.parkIneligible ns) := by
  unfold State.parkIneligible
  induction ns generalizing t with
  | nil => exact h
  | cons n ns ih => exact ih (.ite h (h.onMix ((Mix.Frame.refl ..).leaveQuietly Mix.postsGates_all n _)))

theorem moveTo (h : SameModes s t) (n : Channel) (st : Option Station) : SameModes s (t.moveTo n st) := by
  rw [State.moveTo_eq]
  refine SameModes.reEvaluate ?_ n
  exact h.modify (u := (t.setStation n st).askChannel n) (f := fun g => { g with station := st }) rfl fun _ => ⟨rfl, rfl⟩

theorem switchTo (h : SameModes s t) (k : Arrangement) : SameModes s (t.switchTo k) := by
  rw [State.switchTo_eq]
  have taken : SameModes s ((t.select k).onMix (Mix.takeMoved (t.changesGroup k))) :=
    SameModes.onMix (t := t.select k) h (kinds := EventMask.kinds)
      (.foldl (.refl ..) (fun n u => .ite (.ite (u.leaveQuietly Mix.postsGates_all n _) (u.unwait n)) u) _)
  have switched : SameModes s (t.switched k) := (taken.parkIneligible (List.finRange 16)).move (by
    rw [State.switched, State.askAll_gates])
  refine SameModes.move (switched.onMix (kinds := EventMask.kinds) (f := Mix.fitAll (t.select k).settings (t.changesGroup k)) ?_) rfl
  unfold Mix.fitAll
  exact .foldl (.refl ..) (fun g u => u.fitAtSwitch Mix.postsGates_all _ _ g) _

theorem takeMeasurement (h : SameModes s t) (n : Channel) (l : Nat) : SameModes s (t.takeMeasurement n l) := by
  rw [State.takeMeasurement_eq]
  have block : SameModes s (t.takeBlock n) :=
    h.modify (f := fun g => { g with detector := { g.detector with done := none } }) rfl fun _ => ⟨rfl, rfl⟩
  refine block.trans fun k => ?_
  have acted := (Mix.Frame.refl EventMask.kinds (Mix.record n l (t.takeBlock n).mix)).actOn Mix.postsGates_all (by decide)
    t.settings n l
  refine ⟨(acted.mode k).trans ?_, (acted.portMode k).trans ?_⟩
  · exact Table.get_modify_congr _ Gate.mode (by exact fun _ => rfl) k
  · exact Table.get_modify_congr _ Gate.portMode (by exact fun _ => rfl) k

theorem groupDisabled (h : SameModes s t) (g : Group) : SameModes s (t.groupDisabled g) :=
  SameModes.parkIneligible (t := { t with groups := t.groups.modify g fun x => { x with waiting := [] } }) h _

theorem groupResized (h : SameModes s t) (g : Group) (before after : Nat) : SameModes s (t.groupResized g before after) :=
  .ite h (.ite (h.onMix ((Mix.Frame.refl EventMask.kinds _).offer Mix.postsGates_all _ g))
    (h.onMix (((Mix.Frame.refl EventMask.kinds _).fitAuto Mix.postsGates_all _ g _).offer Mix.postsGates_all _ g)))

theorem groupHoldCleared (h : SameModes s t) (g : Group) : SameModes s (t.groupHoldCleared g) :=
  h.onMix (((Mix.Frame.refl EventMask.kinds _).dropLastOn Mix.postsGates_all g).offer Mix.postsGates_all _ g)

theorem groupEffects (h : SameModes s t) (g : Group) (before after : GroupRec) :
    SameModes s (t.groupEffects g before after) := by
  have disabled : SameModes s (if before.enabled ∧ ¬after.enabled then t.groupDisabled g else t) :=
    .ite (h.groupDisabled g) h
  have enabled := SameModes.ite (c := ¬before.enabled ∧ after.enabled)
    (disabled.reEvaluateAll (t.settings.channelsOf g)) disabled
  have resized := enabled.groupResized g before.maxOpen after.maxOpen
  have released := SameModes.ite (c := before.lastHold ∧ ¬after.lastHold) (resized.groupHoldCleared g) resized
  exact SameModes.ite (c := before.master = after.master) released (released.move rfl)

theorem storeGroup (s : State) (k : Arrangement) (g : Group) (r : GroupRec) : SameModes s (s.storeGroup k g r) := by
  unfold State.storeGroup
  dsimp only
  split
  · exact SameModes.move (SameModes.groupEffects (t := s.onSettings _) (SameModes.refl s) g _ r) rfl
  · exact refl s

theorem changeGroup (h : SameModes s t) (n : Channel) : SameModes s (t.changeGroup n) := by
  have left := h.onMix (f := Mix.leaveOldGroup t.settings n) (kinds := EventMask.kinds)
    (.ite ((Mix.Frame.refl _ _).leave Mix.postsGates_all _ n _) ((Mix.Frame.refl _ _).unwait n))
  have evaluated := SameModes.reEvaluate (t := ((t.onMix (Mix.leaveOldGroup t.settings n)).askCounts t).askChannel n) left n
  exact evaluated.onMix (kinds := EventMask.kinds) (.ite ((Mix.Frame.refl _ _).askForced Mix.postsGates_all _ n) (.refl _ _))

theorem storeMembership (s : State) (k : Arrangement) (x : Zone ⊕ Channel) (g : Option Group) :
    SameModes s (s.storeMembership k x g) := by
  unfold State.storeMembership
  dsimp only
  split
  · exact refl s
  · split
    · exact refl s
    · exact SameModes.move (SameModes.changeGroup (t := s.onSettings _) (SameModes.refl s) _) rfl

theorem autoPowerOn (h : SameModes s t) (n : Channel) (before r : ChannelRec) :
    SameModes s (t.autoPowerOn n before r) := by
  unfold State.autoPowerOn
  split
  · exact h.move rfl
  · exact h

theorem storeChannel (s : State) (n : Channel) (r : ChannelRec) : SameModes s (s.storeChannel n r) := by
  have moved : SameModes s ((s.onSettings fun x => { x with channels := x.channels.set n r }).moveWindow n r) :=
    SameModes.move (SameModes.onMix (kinds := EventMask.kinds) (f := fun m => (m.unwait n).setState n .parked)
      (SameModes.refl s) (((Mix.Frame.refl _ _).unwait n).setState n _)) rfl
  refine SameModes.autoPowerOn ?_ n _ r
  split
  · exact refl s
  · exact moved

theorem askChannels (h : SameModes s t) (chosen : Channel → Bool) : SameModes s (t.askChannels chosen) :=
  h.move (by have := congrArg Prod.fst (State.askChannels_gates_groups_events chosen t); exact this)

theorem settle (h : SameModes s t) (before : State) : SameModes s (t.settle before) := h

theorem settleClock (h : SameModes s t) (before : State) (z : Zone → Bool) : SameModes s (t.settleClock before z) := h

theorem sendFeeds (h : SameModes s t) : SameModes s t.sendFeeds := h.move (by unfold State.sendFeeds; split <;> rfl)

theorem onCrosspoints (h : SameModes s t) (f : Nat → Crosspoint → Crosspoint) : SameModes s (t.onCrosspoints f) := h

theorem tick (h : SameModes s t) : SameModes s t.tick := h

theorem nextItem (h : SameModes s t) : SameModes s t.nextItem := h.move (by unfold State.nextItem; split <;> rfl)

theorem deliverLevels (h : SameModes s t) {f : MemberInputs → Zone → Option Nat} (ms : List MemberInputs) :
    SameModes s (ms.foldl (fun s m => s.deliverLevels m (f m)) t) := by
  induction ms generalizing t with
  | nil => exact h
  | cons m ms ih => exact ih (h.move rfl)

theorem freshDetectors (h : SameModes s t) : SameModes s t.freshDetectors := fun k => by
  simpa [State.freshDetectors] using h k

theorem enterStandby (s : State) : SameModes s s.enterStandby := by
  have told : SameModes s ((({ s with standby := true } : State).onZones fun _ z => { z with standby := true }).emptyWaiting
    |>.freshDetectors.onSockets fun _ x => x.powerDown) :=
    (freshDetectors (t := (({ s with standby := true } : State).onZones _).emptyWaiting) (refl s)).move rfl
  exact settleClock (told.parkIneligible (List.finRange 16)) s _

theorem leaveStandby (s : State) : SameModes s s.leaveStandby := by
  unfold State.leaveStandby
  refine settle (reEvaluateAll ?_ _) s
  exact (freshDetectors (t := ({ s with standby := false, delay := .silent } : State).onZones _) (refl s)).move rfl

theorem socketEvent (gates : t.gates = s.gates) (n : Channel) (before : State) : SameModes s (t.socketEvent n before) :=
  settle (((refl s).move gates).reEvaluate n) before

end State.SameModes

/-! ### What the contacts bear on -/

/-- The law of the contacts but for what the actions of `stale` bear on. -/
structure State.Contacted (stale : ContactAction → Prop) (s : State) : Prop where
  mode : ∀ n, ¬ stale (.forceOpenWhile n) → ¬ stale (.forceClosedWhile n) →
    (s.gates.get n).mode = s.modeFrom n (s.gates.get n).portMode
  mute : ∀ j, ¬ stale (.zoneMuteWhile j) → (s.zones.get j).contactMute = s.anyActive (.zoneMuteWhile j)

theorem contactLaw_contacted (law : ContactLaw s) (stale : ContactAction → Prop) : s.Contacted stale :=
  ⟨fun n _ _ => law.1 n, fun j _ => law.2 j⟩

theorem State.Contacted.contactLaw (h : s.Contacted fun _ => False) : ContactLaw s := ⟨fun n => h.mode n id id, fun j => h.mute j id⟩

theorem State.modeFrom_congr {n : Channel} (opened : t.anyActive (.forceOpenWhile n) = s.anyActive (.forceOpenWhile n))
    (closed : t.anyActive (.forceClosedWhile n) = s.anyActive (.forceClosedWhile n)) (m : GateMode) :
    t.modeFrom n m = s.modeFrom n m := by
  simp only [State.modeFrom, State.contactForce, opened, closed]

/-- What the contacts hold and what their bindings are decide which actions are active (R197, R198). -/
theorem State.anyActive_congr (contacts : ∀ k, (t.contacts.get k).debounced = (s.contacts.get k).debounced)
    (bindings : t.settings.contactIn = s.settings.contactIn) (a : ContactAction) : t.anyActive a = s.anyActive a := by
  simp only [State.anyActive, State.contactActive, contacts, bindings]

/-- One contact or its binding changes: only the old and the new action can be moved. -/
theorem State.anyActive_of_other {k : ContactIn} {a : ContactAction}
    (contacts : ∀ i, i ≠ k → (t.contacts.get i).debounced = (s.contacts.get i).debounced)
    (bindings : ∀ i, i ≠ k → t.settings.contactIn.get i = s.settings.contactIn.get i)
    (old : (s.settings.contactIn.get k).action ≠ a) (new : (t.settings.contactIn.get k).action ≠ a) :
    t.anyActive a = s.anyActive a := by
  have each (i : ContactIn) : (t.contactActive i && (t.settings.contactIn.get i).action == a) =
      (s.contactActive i && (s.settings.contactIn.get i).action == a) := by
    by_cases same : i = k
    · subst same
      rw [beq_false_of_ne old, beq_false_of_ne new, Bool.and_false, Bool.and_false]
    · rw [State.contactActive, State.contactActive, contacts i same, bindings i same]
  simp only [State.anyActive, each]

/-- The modes, the contact mutes and the contacts stand. -/
theorem State.Contacted.stands {stale : ContactAction → Prop} (h : s.Contacted stale) (modes : s.SameModes t)
    (zones : ∀ j, (t.zones.get j).contactMute = (s.zones.get j).contactMute)
    (contacts : ∀ k, (t.contacts.get k).debounced = (s.contacts.get k).debounced)
    (bindings : t.settings.contactIn = s.settings.contactIn) : t.Contacted stale where
  mode n opened closed := by
    have active := State.anyActive_congr contacts bindings
    rw [(modes n).1, (modes n).2, h.mode n opened closed, State.modeFrom_congr (active _) (active _)]
  mute j fresh := by rw [zones, h.mute j fresh, State.anyActive_congr contacts bindings]

/-- The effective mode after a re-evaluation (R92). -/
theorem Mix.setMode_mode (c : Settings) (n k : Channel) (mode : GateMode) (m : Mix) :
    ((m.setMode c n mode).gates.get k).mode = (if n = k then mode else (m.gates.get k).mode) ∧
      ((m.setMode c n mode).gates.get k).portMode = (m.gates.get k).portMode := by
  unfold Mix.setMode
  split
  case isTrue same =>
    refine ⟨?_, rfl⟩
    split
    case isTrue at_ => rw [← at_, same]
    case isFalse => rfl
  case isFalse =>
    have frame := (Mix.Frame.refl EventMask.kinds (m.onGate n fun g => { g with mode := mode })).reactMode Mix.postsGates_all
      c n mode
    refine ⟨(frame.mode k).trans ?_, (frame.portMode k).trans ?_⟩
    · split
      case isTrue at_ => subst at_; simp
      case isFalse at_ => simp [Table.get_modify_other _ _ at_]
    · exact Table.get_modify_congr _ Gate.portMode (by exact fun _ => rfl) k

theorem State.reMode_mode (s : State) (n k : Channel) :
    ((s.reMode n).gates.get k).mode =
        (if n = k then s.modeFrom n (s.gates.get n).portMode else (s.gates.get k).mode) ∧
      ((s.reMode n).gates.get k).portMode = (s.gates.get k).portMode :=
  Mix.setMode_mode s.settings n k _ s.mix

/-- Re-evaluating what an action bears on makes it fresh (R198). -/
theorem State.Contacted.reAct {stale : ContactAction → Prop} (h : s.Contacted stale) (a : ContactAction) :
    (s.reAct a).Contacted fun x => stale x ∧ x ≠ a := by
  have remoded (n : Channel) (is : a = .forceOpenWhile n ∨ a = .forceClosedWhile n) :
      (s.reMode n).Contacted fun x => stale x ∧ x ≠ a := by
    have active (x : ContactAction) : (s.reMode n).anyActive x = s.anyActive x := rfl
    refine ⟨fun k opened closed => ?_, fun j fresh => ?_⟩
    · rw [State.modeFrom_congr (active _) (active _), (s.reMode_mode n k).1, (s.reMode_mode n k).2]
      by_cases at_ : n = k
      · subst at_
        rw [if_pos rfl]
      · rw [if_neg at_]
        refine h.mode k (fun was => opened ⟨was, ?_⟩) fun was => closed ⟨was, ?_⟩
        all_goals
          rintro rfl
          simp only [reduceCtorEq, or_false, false_or, ContactAction.forceOpenWhile.injEq,
            ContactAction.forceClosedWhile.injEq] at is
          exact at_ is.symm
    · refine h.mute j fun was => fresh ⟨was, ?_⟩
      rintro rfl
      simp at is
  cases a with
  | forceOpenWhile n => exact remoded n (.inl rfl)
  | forceClosedWhile n => exact remoded n (.inr rfl)
  | zoneMuteWhile j =>
    refine ⟨fun k opened closed => h.mode k (fun was => opened ⟨was, nofun⟩) fun was => closed ⟨was, nofun⟩,
      fun i fresh => ?_⟩
    change ((s.zones.modify j _).get i).contactMute = s.anyActive _
    by_cases at_ : j = i
    · subst at_
      rw [Table.get_modify_self]
    · rw [Table.get_modify_other _ _ at_]
      refine h.mute i fun was => fresh ⟨was, ?_⟩
      simpa using Ne.symm at_
  | none | move | arrange =>
    exact ⟨fun k opened closed => h.mode k (fun was => opened ⟨was, nofun⟩) fun was => closed ⟨was, nofun⟩,
      fun j fresh => h.mute j fun was => fresh ⟨was, nofun⟩⟩

theorem contactLaw_settle (law : ContactLaw s) (before : State) : ContactLaw (s.settle before) := law

theorem contactLaw_storeContactIn (law : ContactLaw s) (k : ContactIn) (b : ContactBinding) :
    ContactLaw (s.storeContactIn k b) := by
  set stored := s.onSettings fun c => { c with contactIn := c.contactIn.set k b }
  have active (a : ContactAction) (fresh : ¬(a = (s.settings.contactIn.get k).action ∨ a = b.action)) :
      stored.anyActive a = s.anyActive a :=
    State.anyActive_of_other (k := k) (fun _ _ => rfl) (fun i apart => Table.get_set_other _ _ (Ne.symm apart))
      (fun same => fresh (.inl same.symm)) fun same => fresh (.inr (by
        rw [← same]
        exact congrArg _ (Table.get_set_self ..)))
  have stale : stored.Contacted fun x => x = (s.settings.contactIn.get k).action ∨ x = b.action :=
    ⟨fun n opened closed => by
      rw [State.modeFrom_congr (active _ opened) (active _ closed)]
      exact law.1 n, fun j fresh => by
      rw [active _ fresh]
      exact law.2 j⟩
  have fresh := ((stale.reAct (s.settings.contactIn.get k).action).reAct b.action)
  refine contactLaw_settle (State.Contacted.contactLaw ?_) s
  exact ⟨fun n _ _ => fresh.mode n (by tauto) (by tauto), fun j _ => fresh.mute j (by tauto)⟩

theorem contactLaw_applyContact (law : ContactLaw s) {k : ContactIn} {f : Contact → Contact} :
    ContactLaw (((s.onContact k f).post .contactChange).applyContact k) := by
  set told := (s.onContact k f).post .contactChange
  have stale : told.Contacted fun x => x = (s.settings.contactIn.get k).action := by
    have active (a : ContactAction) (fresh : a ≠ (s.settings.contactIn.get k).action) : told.anyActive a = s.anyActive a :=
      State.anyActive_of_other (k := k) (fun i apart => congrArg _ (Table.get_modify_other _ _ (Ne.symm apart)))
        (fun _ _ => rfl) (Ne.symm fresh) (Ne.symm fresh)
    refine ⟨fun n opened closed => ?_, fun j fresh => ?_⟩
    · rw [State.modeFrom_congr (active _ opened) (active _ closed)]
      exact law.1 n
    · rw [active _ fresh]
      exact law.2 j
  have idle (h : ∀ n j, (s.settings.contactIn.get k).action ≠ .forceOpenWhile n ∧
      (s.settings.contactIn.get k).action ≠ .forceClosedWhile n ∧ (s.settings.contactIn.get k).action ≠ .zoneMuteWhile j) :
      ContactLaw told :=
    ⟨fun n => stale.mode n (Ne.symm (h n 0).1) (Ne.symm (h n 0).2.1), fun j => stale.mute j (Ne.symm (h 0 j).2.2)⟩
  have stands {t : State} (law : ContactLaw told) (modes : told.SameModes t) (ground : t.ground.zones = told.ground.zones)
      (contacts : t.ground.contacts = told.ground.contacts)
      (bindings : t.ground.settings.contactIn = told.ground.settings.contactIn) : ContactLaw t :=
    ((contactLaw_contacted law _).stands modes (fun j => by rw [← State.ground_zones, ground]; rfl)
      (fun i => by rw [← State.ground_contacts, contacts]; rfl) bindings).contactLaw
  have action : (told.settings.contactIn.get k).action = (s.settings.contactIn.get k).action := rfl
  unfold State.applyContact
  rw [action]
  split
  case h_1 n st move =>
    have law := idle fun n j => by rw [move]; exact ⟨nofun, nofun, nofun⟩
    split
    · refine stands law ((State.SameModes.refl _).moveTo n st) ?_ ?_ ?_ <;> rw [State.moveTo_ground]
    · exact law
  case h_2 a arrange =>
    have law := idle fun n j => by rw [arrange]; exact ⟨nofun, nofun, nofun⟩
    split
    · refine stands law ((State.SameModes.refl _).switchTo a) ?_ ?_ ?_ <;> rw [State.switchTo_ground]
      rfl
    · exact law
  case h_3 =>
    have fresh := stale.reAct (s.settings.contactIn.get k).action
    exact ⟨fun n => fresh.mode n (by tauto) (by tauto), fun j => fresh.mute j (by tauto)⟩

theorem contactLaw_setPortMode (law : ContactLaw s) (n : Channel) (mode : GateMode) : ContactLaw (s.setPortMode n mode) := by
  rw [State.setPortMode_eq]
  have other (k : Channel) (apart : k ≠ n) : (s.storeMode n mode).gates.get k = s.gates.get k :=
    Table.get_modify_other _ _ (Ne.symm apart)
  split
  case isTrue asks =>
    have forced : s.modeFrom n mode = .forceOpen := by
      have would := asks.2
      unfold State.wouldForceOpen at would
      unfold State.modeFrom
      cases h : s.contactForce n <;> simp_all
    have frame := (Mix.Frame.refl EventMask.kinds ((s.storeMode n mode).mix.onGate n fun g => { g with mode := .forceOpen })).askForced
      Mix.postsGates_all (s.storeMode n mode).settings n
    refine ⟨fun k => ?_, law.2⟩
    refine (frame.mode k).trans (Eq.trans ?_ (congrArg (s.modeFrom k) (frame.portMode k).symm))
    by_cases at_ : n = k
    · subst at_
      simp [State.mix, State.storeMode, forced]
    · simp only [Mix.onGate_gates, State.mix, State.storeMode, Table.get_modify_other _ _ at_]
      exact law.1 k
  case isFalse =>
    have stale : (s.storeMode n mode).Contacted fun x => x = .forceOpenWhile n := by
      refine ⟨fun k opened _ => ?_, fun j _ => law.2 j⟩
      have apart : k ≠ n := by
        rintro rfl
        exact opened rfl
      rw [other k apart]
      exact law.1 k
    have fresh := stale.reAct (.forceOpenWhile n)
    exact ⟨fun k => fresh.mode k (by tauto) (by tauto), fun j => fresh.mute j (by tauto)⟩

theorem State.modeFrom_of_inactive (h : ∀ k, s.contactActive k = false) (n : Channel) (m : GateMode) : s.modeFrom n m = m := by
  have none (a : ContactAction) : s.anyActive a = false := by simp [State.anyActive, h]
  simp [State.modeFrom, State.contactForce, none]

theorem contactLaw_powerOn (c : Settings) (presence : Table 16 Bool) (line : Bool) (closed : Table 8 Bool)
    (pending : List Instr) : ContactLaw (.powerOn c presence line closed pending) := by
  have inactive (k : ContactIn) : (State.powerOn c presence line closed pending).contactActive k = false := by
    simp [State.contactActive, State.powerOn, Contact.powerOn]
  refine ⟨fun n => ?_, fun j => ?_⟩
  · rw [State.modeFrom_of_inactive inactive]
    simp [State.powerOn, Gate.reset]
  · simp only [State.anyActive, inactive]
    simp [State.powerOn, ZoneState.powerOn]

theorem Contact.restart_debounced (b : ContactBinding) (c : Contact) : (c.restart b).debounced = c.debounced := by
  unfold Contact.restart
  split <;> rfl

theorem contactLaw_runtimeReset (s : State) (p : Port) : ContactLaw (s.runtimeReset p) := by
  have active (a : ContactAction) : (s.runtimeReset p).anyActive a = s.anyActive a :=
    State.anyActive_congr (s := s) (t := s.runtimeReset p)
      (fun k => by simp [State.runtimeReset, Contact.restart_debounced]) rfl a
  refine ⟨fun n => ?_, fun j => ?_⟩
  · rw [State.modeFrom_congr (active _) (active _)]
    simp [State.runtimeReset, State.restartGate, Gate.reset]
  · rw [active]
    simp [State.runtimeReset]

/-- The commands that bear on no mode but through gates (R92). -/
theorem Act.sameModes {c : Instr} (act : Act c s t) : s.SameModes t ∨ (∃ k b, t = s.storeContactIn k b) ∨
    (∃ n mode, t = (s.setPortMode n mode).settle s) ∨
    (∃ k f, t = (((s.onContact k f).post .contactChange).applyContact k).settle s) ∨ (∃ p, t = s.runtimeReset p) ∨
    ∃ presence line closed pending, t = .powerOn s.settings presence line closed pending := by
  have still {t : State} (h : t.gates = s.gates) : s.SameModes t := (State.SameModes.refl s).move h
  cases act with
  | contactIn => exact .inr (.inl ⟨_, _, rfl⟩)
  | gateMode => exact .inr (.inr (.inl ⟨_, _, rfl⟩))
  | contact => exact .inr (.inr (.inr (.inl ⟨_, _, rfl⟩)))
  | runtimeReset | resetAtEnd => exact .inr (.inr (.inr (.inr (.inl ⟨_, rfl⟩))))
  | powerOnReset => exact .inr (.inr (.inr (.inr (.inr ⟨_, _, _, _, rfl⟩))))
  | station =>
    refine .inl ?_
    unfold State.storeStation
    dsimp only
    split
    · exact still rfl
    · exact ((State.SameModes.refl s).move (u := s.onSettings _) rfl).askChannels _
  | zone =>
    refine .inl (still ?_)
    unfold State.storeZone
    dsimp only
    split <;> rfl
  | channel => exact .inl (.storeChannel s _ _)
  | group => exact .inl (.storeGroup s _ _ _)
  | membership => exact .inl (.storeMembership s _ _ _)
  | routing =>
    refine .inl (still ?_)
    unfold State.storeRouting
    dsimp only
    split <;> rfl
  | system =>
    refine .inl (still ?_)
    unfold State.storeSystem
    dsimp only
    split <;> rfl
  | moveSource => exact .inl (((State.SameModes.refl s).moveTo _ _).settle s)
  | temperature | temperatureClamped =>
    refine .inl (still ?_)
    unfold State.reportTemperature
    dsimp only
    split <;> rfl
  | arrangement => exact .inl (((State.SameModes.refl s).switchTo _).settle s)
  | socketOn | socketOff | resense | rampedUp | overcurrent => exact .inl (.socketEvent (by rfl) _ s)
  | sensingEnd | removal => exact .inl (.socketEvent (by split <;> rfl) _ s)
  | standby =>
    exact .inl (State.SameModes.enterStandby s)
  | wake =>
    exact .inl (State.SameModes.leaveStandby s)
  | channelDropped | allDropped => exact .inl (State.SameModes.refl s).nextItem
  | channelDelivered =>
    exact .inl (((still (State.deliverFull_still _ _ s).1).reEvaluate _).settle s).nextItem
  | allDelivered =>
    exact .inl (((still (State.deliverFull_still _ _ s).1).reEvaluateAll _).settle s).nextItem
  | groupDelivered => exact .inl ((State.SameModes.refl s).deliverLevels _).nextItem
  | measurement => exact .inl ((State.SameModes.refl s).takeMeasurement _ _)
  | output =>
    exact .inl (((State.SameModes.refl s).onCrosspoints _).onCrosspoints _).sendFeeds.tick
  | input => 
    refine .inl fun n => ?_
    dsimp only
    split
    · exact ⟨rfl, rfl⟩
    · rw [Table.get_map]
      exact ⟨rfl, rfl⟩
  | mute | resume | asserted | deasserted => exact .inl (State.SameModes.settle (still (by rfl)) s)
  | rearm | clockSilenced => exact .inl (State.SameModes.settleClock (still (by rfl)) s _)
  | _ => exact .inl (still (by rfl))

/-- What of the ground the contacts bear on, and what makes it stand. -/
def Ground.SameContacts (x y : Ground) : Prop :=
  (∀ j, (y.zones.get j).contactMute = (x.zones.get j).contactMute) ∧
    (∀ k, (y.contacts.get k).debounced = (x.contacts.get k).debounced) ∧ y.settings.contactIn = x.settings.contactIn

theorem ZoneState.release_contactMute (z : ZoneState) : z.release.contactMute = z.contactMute := by
  unfold ZoneState.release
  split <;> rfl

theorem Contact.follow_debounced (b : ContactBinding) (closed : Bool) (c : Contact) :
    (c.follow b closed).debounced = c.debounced := by
  unfold Contact.follow
  split <;> rfl

theorem Act.sameContacts {c : Instr} (act : Act c s t) : s.ground.SameContacts t.ground ∨ (∃ k b, t = s.storeContactIn k b) ∨
    (∃ k f, t = (((s.onContact k f).post .contactChange).applyContact k).settle s) ∨ (∃ p, t = s.runtimeReset p) ∨
    ∃ presence line closed pending, t = .powerOn s.settings presence line closed pending := by
  cases act with
  | contactIn => exact .inr (.inl ⟨_, _, rfl⟩)
  | contact => exact .inr (.inr (.inl ⟨_, _, rfl⟩))
  | runtimeReset | resetAtEnd => exact .inr (.inr (.inr (.inl ⟨_, rfl⟩)))
  | powerOnReset => exact .inr (.inr (.inr (.inr ⟨_, _, _, _, rfl⟩)))
  | @membership _ _ _ _ k x g => exact .inl (by cases x <;> simp [Ground.SameContacts, Settings.setMembership, State.ground_settings])
  | @mute _ _ _ j b =>
    rw [State.settle_ground, State.onZone_ground]
    exact .inl ⟨fun i => Table.get_modify_congr _ ZoneState.contactMute (by exact fun _ => rfl) i, fun _ => rfl, rfl⟩
  | asserted =>
    rw [State.settle_ground, State.post_ground, State.takeOver_ground]
    refine .inl ⟨fun j => ?_, fun _ => rfl, rfl⟩
    simp only [Table.get_map]
    split <;> rfl
  | deasserted =>
    rw [State.settle_ground, State.post_ground, State.onZones_ground]
    refine .inl ⟨fun j => ?_, fun _ => rfl, rfl⟩
    simp only [Table.get_map, ZoneState.release_contactMute]
    rfl
  | rawContact =>
    refine .inl ⟨fun _ => rfl, fun i => ?_, rfl⟩
    exact Table.get_modify_congr s.contacts Contact.debounced (Contact.follow_debounced _ _) i
  | sensingEnd | removal =>
    rw [State.socketEvent_ground]
    split <;> exact .inl ⟨fun _ => rfl, fun _ => rfl, rfl⟩
  | output =>
    rw [State.tick_ground]
    refine .inl ⟨fun j => ?_, fun i => ?_, ?_⟩
    · simp
    · simp [← State.ground_contacts]
    · simp
  | nothing | held | freeze | input => exact .inl ⟨fun _ => rfl, fun _ => rfl, rfl⟩
  | _ => exact .inl (by simp [Ground.SameContacts, Settings.setGroup, State.ground_zones, State.ground_settings])

theorem Act.contactLaw {c : Instr} (act : Act c s t) (law : ContactLaw s) : ContactLaw t := by
  obtain modes | ⟨k, b, rfl⟩ | ⟨n, mode, rfl⟩ | ⟨k, f, rfl⟩ | ⟨p, rfl⟩ | ⟨presence, line, closed, pending, rfl⟩ := act.sameModes
  · obtain ⟨mutes, contacts, bindings⟩ | ⟨k, b, rfl⟩ | ⟨k, f, rfl⟩ | ⟨p, rfl⟩ | ⟨presence, line, closed, pending, rfl⟩ :=
      act.sameContacts
    · exact ((contactLaw_contacted law fun _ => False).stands modes mutes contacts bindings).contactLaw
    · exact contactLaw_storeContactIn law k b
    · exact contactLaw_applyContact law
    · exact contactLaw_runtimeReset s p
    · exact contactLaw_powerOn _ _ _ _ _
  · exact contactLaw_storeContactIn law k b
  · exact contactLaw_setPortMode law n mode
  · exact contactLaw_applyContact law
  · exact contactLaw_runtimeReset s p
  · exact contactLaw_powerOn _ _ _ _ _

/-- Settles O55: the override by each command's act on the monitor and the zones; the contacts by the acts that leave modes,
mutes and contacts, and those that re-form what they bear on. -/
theorem everyStepKeepsTheOverrideLaw : Obligations.EveryStepKeepsTheOverrideLaw := by
  unfold Obligations.EveryStepKeepsTheOverrideLaw
  refine ⟨fun s t law h => ?_, fun s t law h => ?_⟩
  · exact step_keeps (P := fun s => s.ground.Overriding) (fun _ _ => id) (fun _ _ => id) Act.overriding law h
  · exact step_keeps (P := ContactLaw) (fun _ _ => id) (fun _ _ => id) Act.contactLaw law h

end Sys2Proof.Machine
end

section
/-! PROOFS. The queue of commands, the held part, and the resets (R168, R169, R187). -/

namespace Sys2Proof.Machine

open Sys2Proof.Safety

variable {s t : State}

/-- No command touches the queue of commands. -/
theorem Act.pending {c : Instr} (act : Act c s t) : t.ground.pending = s.ground.pending := by
  cases act with
  | contactIn => rw [State.storeContactIn_ground]
  | @contact s k =>
    rw [State.settle_ground]
    obtain h | h | ⟨a, h⟩ := State.applyContact_ground
      ((s.onContact k fun c => { c with debounced := c.raw, debounce := none }).post .contactChange) k <;> rw [h] <;> rfl
  | sensingEnd | removal =>
    rw [State.socketEvent_ground]
    split <;> rfl
  | nothing | powerOnReset | held | freeze | input => rfl
  | _ => simp

/-- Every command answers a next state. -/
theorem exec_next (c : Instr) (s : State) : ∃ t, exec c s = .next t := by
  cases c <;> exact ⟨_, rfl⟩

/-- Settles O1: a command is an act with some request handlers, and no act touches the queue. -/
theorem stepRunsTheFrontCommand : Obligations.StepRunsTheFrontCommand := by
  unfold Obligations.StepRunsTheFrontCommand
  refine ⟨⟨fun s c rest front => ?_, fun s idle => ?_⟩, fun c s => ?_⟩
  · simp only [step, front]
  · simp only [step, idle]
  · obtain ⟨t, h⟩ := exec_next c s
    obtain ⟨u, ports, act, rfl⟩ := exec_act h
    exact ⟨_, h, act.pending⟩

/-- Nothing but the resets and the raw pins reaches a part that is held (R168). -/
theorem exec_of_held (c : Instr) (held : s.held = true) :
    exec c s = .next s ∨ c = .powerOnReset ∨ c = .heldInReset ∨ (∃ n b, c = .rawPresenceChange n b) ∨
      (∃ i, c = .rawLineChange i) ∨ ∃ k b, c = .rawContactChange k b := by
  cases c with
  | powerOnReset => exact .inr (.inl rfl)
  | heldInReset => exact .inr (.inr (.inl rfl))
  | rawPresenceChange n b => exact .inr (.inr (.inr (.inl ⟨n, b, rfl⟩)))
  | rawLineChange i => exact .inr (.inr (.inr (.inr (.inl ⟨i, rfl⟩))))
  | rawContactChange k b => exact .inr (.inr (.inr (.inr (.inr ⟨k, b, rfl⟩))))
  | _ => exact .inl (congrArg Host.Outcome.next (if_pos held))

/-- Settles O2: every other command is an event of a part that is not held, and so is every pin. -/
theorem heldPartHearsOnlyItsPins : Obligations.HeldPartHearsOnlyItsPins := by
  unfold Obligations.HeldPartHearsOnlyItsPins
  intro c s held
  refine ⟨exec_of_held c held, fun n => ⟨?_, ?_⟩, fun p => ?_, fun q => ?_, fun p => ?_⟩
  · simp [State.phantom, held]
  · simp [State.phantomVolts, held]
  · simp [State.attentionLine, held]
  · simp [State.relayClosed, held]
  · simp [State.driving, held]

/-- A port's set holds RESTARTED alone after a reset (R190). -/
@[simp] theorem PortEvents.restart_sticky (r : Routing) (pulse : Option Nat) :
    (PortEvents.restart r pulse).sticky = EventKind.restarted.mask := rfl

/-- A reset contact input is inactive, whatever its binding (R200). -/
theorem State.powerOn_contactActive (c : Settings) (presence : Table 16 Bool) (line : Bool) (closed : Table 8 Bool)
    (pending : List Instr) (k : ContactIn) : (State.powerOn c presence line closed pending).contactActive k = false := by
  simp [State.contactActive, State.powerOn, Contact.powerOn]

/-- Settles O3, field by field of the reset state. -/
theorem powerOnResetLeaves : Obligations.PowerOnResetLeaves := by
  unfold Obligations.PowerOnResetLeaves
  intro s
  refine ⟨_, rfl, ?_⟩
  have inactive := State.powerOn_contactActive s.settings (s.sockets.map fun _ x => x.raw) s.override.raw
    (s.contacts.map fun _ c => c.raw) s.pending
  have mode := fun n => State.modeFrom_of_inactive inactive n (s.settings.channels.get n).defaultMode
  generalize made : State.powerOn s.settings (s.sockets.map fun _ x => x.raw) s.override.raw
    (s.contacts.map fun _ c => c.raw) s.pending = t at inactive mode ⊢
  have gate (n : Channel) : t.gates.get n = Gate.reset (s.settings.channels.get n) := by
    rw [← made]; simp [State.powerOn]
  refine ⟨?_, ?_, ?_, ?_, ?_, ?_, fun n j => ?_, fun n => ?_, fun g => ?_, fun n => ?_, fun j => ?_, ?_, ?_, ?_, ?_,
    fun p => ?_, fun p => ?_, fun k => ⟨inactive k, ?_, ?_⟩⟩
  case refine_8 =>
    rw [gate n]
    exact ⟨rfl, rfl, rfl, rfl, rfl, (mode n).symm⟩
  case refine_16 => rw [← made]; cases p <;> rfl
  all_goals rw [← made]
  all_goals simp [State.powerOn, DelayMemory.silent, Engine.powerOn, Crosspoint.reset, GroupState.reset,
    Socket.powerOn, ZoneState.powerOn, Override.powerOn, Clock.powerOn, Clock.start, Contact.powerOn]

end Sys2Proof.Machine
end

section
/-! PROOFS. The state as delivered (R185 and the reset rules of each chapter). -/

namespace Sys2Proof.Machine

open Sys2Proof.Safety

/-- The state after reset is what a power-on reset makes of the settings as delivered, with every contact open and the line
deasserted. -/
theorem State.reset_eq_powerOn :
    State.reset = .powerOn .delivered (.ofFn fun _ => false) false (.ofFn fun _ => false) [] := by
  simp only [State.reset, State.powerOn, Table.get_ofFn, Settings.delivered]
  rfl

section
variable (c : Settings) (presence : Table 16 Bool) (line : Bool) (closed : Table 8 Bool) (pending : List Instr)

theorem State.powerOn_crosspoint (n : Channel) (j : Zone) :
    ((State.powerOn c presence line closed pending).crosspoints.get n).get j = .reset := by
  simp [State.powerOn]

theorem State.powerOn_gate (n : Channel) :
    (State.powerOn c presence line closed pending).gates.get n = Gate.reset (c.channels.get n) := by
  simp [State.powerOn]

theorem State.powerOn_zone (j : Zone) : (State.powerOn c presence line closed pending).zones.get j = .powerOn := by
  simp [State.powerOn]

theorem State.powerOn_group (g : Group) : (State.powerOn c presence line closed pending).groups.get g = .reset := by
  simp [State.powerOn]

theorem arrayLaw_powerOn : ArrayLaw (.powerOn c presence line closed pending) := by
  refine ⟨fun n j => ?_, fun n j => ?_, fun n j _ => ?_⟩ <;> rw [State.powerOn_crosspoint]
  · simp [CrosspointLaw, LevelInRange, PhaseLaw, Crosspoint.reset]
  · simp [State.targetOf, Crosspoint.reset]
  · rfl

theorem tapLaw_powerOn : TapLaw (.powerOn c presence line closed pending) where
  taps n j := by rw [State.powerOn_crosspoint]; trivial
  unparked n apart := absurd (by rw [State.powerOn_gate]; rfl) apart
  aligned n aligned := by simp [State.powerOn, Engine.powerOn] at aligned
  inFlight := trivial

theorem overrideLaw_powerOn : OverrideLaw (.powerOn c presence line closed pending) := by
  refine ⟨?_, fun j h => ?_, fun j h => ?_⟩
  · simp [State.powerOn, Override.powerOn]
  all_goals simp [State.powerOn_zone, ZoneState.powerOn] at h

theorem standbyLaw_powerOn : StandbyLaw (.powerOn c presence line closed pending) :=
  ⟨fun j => by rw [State.powerOn_zone]; rfl, nofun⟩

theorem queueLaw_powerOn : QueueLaw (.powerOn c presence line closed pending) :=
  ⟨List.nodup_singleton _, fun _ => rfl⟩

theorem temperatureLaw_powerOn : TemperatureLaw (.powerOn c presence line closed pending) := by
  refine ⟨?_, ?_, fun _ => rfl⟩ <;> simp [State.powerOn, Engine.powerOn, TemperatureInRange]

theorem portLaw_powerOn : PortLaw (.powerOn c presence line closed pending) := by
  intro p
  cases p <;> trivial

end

/-- Two windows as delivered share no cell: the one of the channel with the smaller number ends before the other. -/
theorem windowsApart_delivered : WindowsApart .delivered := by
  intro n m apart
  have : n.val ≠ m.val := fun same => apart (Fin.ext same)
  simp only [Settings.delivered, Table.get_ofFn, ChannelRec.delivered, windowsOverlap, Bool.and_eq_false_iff,
    decide_eq_false_iff_not]
  omega

theorem windowsInArray_delivered : WindowsInArray .delivered := by
  intro n
  have := n.isLt
  simp only [Settings.delivered, Table.get_ofFn, ChannelRec.delivered, windowInRange, Config.delayUnits,
    Bool.and_eq_true, decide_eq_true_eq]
  omega

theorem delayLaw_reset : DelayLaw State.reset :=
  ⟨rfl, nofun, fun n => by simp [State.reset, DelayMemory.silent], windowsInArray_delivered, windowsApart_delivered⟩

theorem settingsLaw_reset : SettingsLaw State.reset := by
  refine ⟨fun j => ?_, fun n => ?_, fun k g => ?_, fun k => ?_, fun k => ?_, Nat.zero_le _⟩ <;>
    simp only [State.reset, Settings.delivered, Table.get_ofFn]
  · simp [ZoneInRange, ZoneRec.delivered]
  · simp [ChannelInRange, ChannelRec.delivered]
  · simp [GroupInRange, GroupRec.delivered]
  · unfold deliveredProfile
    split
    · omega
    · split
      · omega
      · split <;> omega
  · simp [ContactBinding.delivered]

theorem eventLaw_reset : EventLaw State.reset := by
  intro p
  cases p <;> decide

/-- Every law holds of the state after reset. -/
theorem safe_reset : Safe State.reset where
  delay := delayLaw_reset
  queue := by rw [State.reset_eq_powerOn]; exact queueLaw_powerOn ..
  temperature := by rw [State.reset_eq_powerOn]; exact temperatureLaw_powerOn ..
  array := by rw [State.reset_eq_powerOn]; exact arrayLaw_powerOn ..
  taps := by rw [State.reset_eq_powerOn]; exact tapLaw_powerOn ..
  groups := by rw [State.reset_eq_powerOn]; exact groupLaw_powerOn ..
  contacts := by rw [State.reset_eq_powerOn]; exact contactLaw_powerOn ..
  override := by rw [State.reset_eq_powerOn]; exact overrideLaw_powerOn ..
  standby := by rw [State.reset_eq_powerOn]; exact standbyLaw_powerOn ..
  settings := settingsLaw_reset
  events := eventLaw_reset
  ports := by rw [State.reset_eq_powerOn]; exact portLaw_powerOn _ _ _ _ _

/-- Settles O4: the delivered values, table by table, and the laws of the reset state. -/
theorem resetStateIsAsDelivered : Obligations.ResetStateIsAsDelivered := by
  unfold Obligations.ResetStateIsAsDelivered
  refine ⟨⟨fun k => ⟨?_, fun i => ?_⟩, fun j => ?_, fun n => ?_, fun k g => ?_, fun k j => ?_, fun k n => ?_, ?_,
    fun k => ?_, fun q => ?_, fun p => ?_, rfl, rfl⟩, safe_reset⟩
  case refine_8 => rfl
  case refine_11 => cases p <;> rfl
  all_goals simp [State.reset, Settings.delivered, StationRec.delivered, Point.origin, ZoneRec.delivered,
    ChannelRec.delivered, GroupRec.delivered, ContactBinding.delivered, OutBinding.delivered]
  case refine_5 => exact beq_eq_decide g 0

end Sys2Proof.Machine
end

section
/-! PROOFS. The end of a response, the runtime reset, the raw pins, and what a port does with a frame it cannot serve
(R169, R176 to R181, R187). -/

namespace Sys2Proof.Machine

open Sys2Proof.Safety

variable {s t : State}

theorem exec_responseEnd (awake : s.held = false) (p : Port) :
    exec (.responseEnd p) s = .next (s.endResponse p) := occur_of_awake awake

theorem exec_runtimeReset {p : Port} {r : Response} (awake : s.held = false) (h : s.ports.get p = .responding r true) :
    exec (.runtimeReset p) s = .next (s.runtimeReset p) := by
  simp only [exec, execRuntimeReset, occur_of_awake awake, h]

/-- The handlers of the other ports after a runtime reset (R187). -/
theorem State.runtimeReset_port_other (s : State) {p q : Port} (h : q ≠ p) :
    (s.runtimeReset p).ports.get q = (s.ports.get q).restart := by
  simp only [State.runtimeReset, ByPort.get_set_other _ _ (Ne.symm h), ByPort.get_map]

theorem Contact.restart_eq (b : ContactBinding) (c : Contact) : (c.restart b).debounced = c.debounced ∧
    (c.restart b).raw = c.raw ∧ (c.debounce.isSome → (c.restart b).debounce = some b.debounceSamples) := by
  unfold Contact.restart
  split
  · exact ⟨rfl, rfl, fun _ => rfl⟩
  · exact ⟨rfl, rfl, fun running => absurd running ‹_›⟩

/-- The modes and the mutes that the contacts give are read off the bindings and the debounced levels. -/
theorem State.anyActive_runtimeReset (s : State) (p : Port) (a : ContactAction) :
    (s.runtimeReset p).anyActive a = s.anyActive a := by
  have same (k : ContactIn) : (s.runtimeReset p).contactActive k = s.contactActive k := by
    simp [State.contactActive, State.runtimeReset, Contact.restart_eq]
  simp only [State.anyActive, same]
  rfl

theorem State.modeFrom_runtimeReset (s : State) (p : Port) (n : Channel) (m : GateMode) :
    (s.runtimeReset p).modeFrom n m = s.modeFrom n m := by
  simp only [State.modeFrom, State.contactForce, State.anyActive_runtimeReset]

/-- Settles O5, block by block. -/
theorem runtimeResetLeaves : Obligations.RuntimeResetLeaves := by
  unfold Obligations.RuntimeResetLeaves
  intro s p r awake answer
  have reset := exec_runtimeReset awake answer
  refine ⟨?_, _, reset, rfl, rfl, fun n => ?_, rfl, rfl, rfl, fun n j => ?_, fun n => ?_, fun g => ?_, ?_,
    fun q other => s.runtimeReset_port_other other, fun q => ?_, fun j => ?_, fun k => ?_,
    rfl, rfl, rfl, rfl, rfl, rfl, rfl⟩
  · rw [exec_responseEnd awake, reset, State.endResponse, answer]
  · simp [State.runtimeReset, Engine.restart]
  · simp [State.runtimeReset, Crosspoint.reset]
  · rw [State.modeFrom_runtimeReset]
    simp [State.runtimeReset, State.restartGate, Gate.reset, Detector.fresh]
  · simp [State.runtimeReset, GroupState.reset]
  · simp [State.runtimeReset]
  · simp [State.runtimeReset]
  · rw [State.anyActive_runtimeReset]
    simp [State.runtimeReset]
  · simpa [State.runtimeReset] using Contact.restart_eq (s.settings.contactIn.get k) (s.contacts.get k)

/-- Settles O6: each pin's rule as the model states it. -/
theorem pinsAndResponseEnds : Obligations.PinsAndResponseEnds := by
  unfold Obligations.PinsAndResponseEnds
  refine ⟨fun s p r awake answer => ?_, fun s => rfl, fun s n closed => rfl, fun s i => rfl, fun s k closed => rfl⟩
  rw [exec_responseEnd awake, State.endResponse, answer]

/-- A frame's length byte is taken exactly where it lies between 1 and 250 (R175). -/
theorem receiveByte_nil (b : Byte) : receiveByte [] b =
    if 1 ≤ b.toNat ∧ b.toNat ≤ 250 then some (.receiving [b] 960) else none := rfl

/-- A request that comes while a response goes out is lost (R178). -/
theorem State.request_responding {s : State} {p : Port} {kind : Byte} {body : List Byte} {reset : Bool}
    {f : State → Reply} (h : ∃ r b, s.ports.get p = .responding r b) : s.request p kind body reset f = s.collide p := by
  obtain ⟨r, b, h⟩ := h
  simp only [State.request, h]

theorem knownKind_eq_false {kind : Byte} (h : kind.toNat = 0 ∨ 0x16 ≤ kind.toNat) : knownKind kind = false := by
  simp only [knownKind, Bool.and_eq_false_iff, decide_eq_false_iff_not]
  omega

/-- Settles O8, each fault and refusal by the state of its handler. -/
theorem portFaultsAndRefusedFrames : Obligations.PortFaultsAndRefusedFrames := by
  unfold Obligations.PortFaultsAndRefusedFrames
  intro s p awake
  refine ⟨fun frame bad idle => ?_, fun kind body unknown ready => ?_, fun frame timer receiving => ?_,
    fun timer b receiving outside => ?_, fun frame receiving => ?_, fun busy => ?_, fun body answering => ⟨?_, ?_⟩⟩
  · simp only [exec, execBadCheck, occur_of_awake awake, bad, if_true, idle, badCheckAnswer]
  · simp only [exec, execUnknownRequest, occur_of_awake awake, knownKind_eq_false unknown, Bool.false_eq_true, if_false,
      State.request_answer ready, refuse_state, refuse_status, refuse_body]
  · simp only [exec, execFrameAbandoned, occur_of_awake awake, receiving, abandons, if_true, State.abandon]
  · have refused : ¬(1 ≤ b.toNat ∧ b.toNat ≤ 250) := by omega
    simp only [exec, execFrameAbandoned, occur_of_awake awake, receiving, abandons, receiveByte_nil, if_neg refused,
      Option.isNone_none, if_true, State.abandon]
  · simp only [exec, execInterByteTimeout, occur_of_awake awake, receiving, State.abandon]
  · obtain ⟨k, b, h⟩ | ⟨r, b, h⟩ := busy <;>
      simp only [exec, execByteDuringService, occur_of_awake awake, h, State.collide]
  · simp only [exec, execMoveSource, occur_of_awake awake, State.request_responding answering, State.collide]
  · simp only [exec, execReadEntry, occur_of_awake awake, State.request_responding answering, State.collide]

end Sys2Proof.Machine
end

section
/-! SUPPORT. The requests served, each by its reply, and bodies of two bytes. -/

namespace Sys2Proof.Machine

open Sys2Proof.Safety

/-- What a request with this reply leaves: the state of the reply, its answer being sent. -/
def Reply.sentTo (r : Reply) (p : Port) (kind : Byte) : State := answering r.state p kind r.status r.body

@[simp] theorem refuse_sentTo (s : State) (st : Status) (p : Port) (kind : Byte) :
    (refuse s st).sentTo p kind = answering s p kind st [] := rfl
@[simp] theorem accept_sentTo (s : State) (p : Port) (kind : Byte) :
    (accept s).sentTo p kind = answering s p kind .ok [] := rfl
theorem acceptClamped_sentTo (b : Bool) (s : State) (p : Port) (kind : Byte) :
    (acceptClamped b s).sentTo p kind = answering s p kind (if b then .okClamped else .ok) [] := rfl

section
variable {s : State} {p : Port} {body : List Byte}

theorem exec_moveSource (h : Ready s p 0x03 body) :
    exec (.moveSource p body) s = .next ((serveMoveSource p body s).sentTo p 0x03) := occur_request h
theorem exec_setGateMode (h : Ready s p 0x04 body) :
    exec (.setGateMode p body) s = .next ((serveSetGateMode p body s).sentTo p 0x04) := occur_request h
theorem exec_selectArrangement (h : Ready s p 0x06 body) :
    exec (.selectArrangement p body) s = .next ((serveSelectArrangement p body s).sentTo p 0x06) := occur_request h
theorem exec_zoneMute (h : Ready s p 0x0A body) :
    exec (.zoneMute p body) s = .next ((serveZoneMute p body s).sentTo p 0x0A) := occur_request h
theorem exec_resenseSocket (h : Ready s p 0x0C body) :
    exec (.resenseSocket p body) s = .next ((serveResense body s).sentTo p 0x0C) := occur_request h
theorem exec_readEvents (h : Ready s p 0x0D body) :
    exec (.readEvents p body) s = .next ((serveReadEvents p body s).sentTo p 0x0D) := occur_request h
theorem exec_clearEvents (h : Ready s p 0x0E body) :
    exec (.clearEvents p body) s = .next ((serveClearEvents p body s).sentTo p 0x0E) := occur_request h
theorem exec_forceEvents (h : Ready s p 0x0F body) :
    exec (.forceEvents p body) s = .next ((serveForceEvents p body s).sentTo p 0x0F) := occur_request h
theorem exec_freezeGeometry (h : Ready s p 0x12 body) :
    exec (.freezeGeometry p body) s = .next ((serveFreeze body s).sentTo p 0x12) := occur_request h
theorem exec_standby (h : Ready s p 0x13 body) :
    exec (.standby p body) s = .next ((serveStandby body s).sentTo p 0x13) := occur_request h
theorem exec_wake (h : Ready s p 0x14 body) :
    exec (.wake p body) s = .next ((serveWake body s).sentTo p 0x14) := occur_request h
theorem exec_readEntry (h : Ready s p 0x01 body) :
    exec (.readEntry p body) s = .next ((serveReadEntry body s).sentTo p 0x01) := occur_request h

/-- RESET_RUNTIME marks its response where its body is empty (R169). -/
theorem exec_resetRuntime (h : Ready s p 0x15 body) : exec (.resetRuntime p body) s =
    .next (s.serve p 0x15 body.isEmpty (serveResetRuntime body)) := by
  simp only [exec, execResetRuntime, occur_of_awake h.1, State.request_ready h]

end

/-- A body of two bytes goes to the thing that its first byte numbers. -/
theorem naming_pair {n : Nat} {s : State} {own : Fin n → Reply} (i : Fin n) (v : Byte) (hn : n < 256) :
    naming 2 [numberByte i, v] s own = own i :=
  naming_of_some rfl (numbered_numberByte i hn)

/-- A body of two bytes whose first numbers nothing is refused (R180, step 5). -/
theorem naming_pair_outside {n : Nat} {s : State} {own : Fin n → Reply} {v w : Byte} (h : v.toNat = 0 ∨ n < v.toNat) :
    naming 2 [v, w] s own = refuse s .badIndex :=
  naming_of_index rfl (numbered_eq_none.mpr h)

/-- The yes or no that a flag byte carries. -/
theorem yesNo_flagOf (b : Bool) : yesNo (flagOf b).toNat = some b := by cases b <;> rfl

theorem yesNo_eq_none {v : Nat} (h : 1 < v) : yesNo v = none := by
  rw [yesNo, if_neg (by omega), if_neg (by omega)]

/-- Two answers with different statuses are different outcomes. -/
theorem answering_ne {s t : State} {p : Port} {kind : Byte} {st st' : Status} {b b' : List Byte} (h : st ≠ st') :
    (.next (answering s p kind st b) : Host.Outcome State Fault Refusal) ≠ .next (answering t p kind st' b') := by
  intro same
  have ports := congrArg (fun u : State => u.ports.get p) (Host.Outcome.next.inj same)
  simp only [State.setPort_ports, ByPort.get_set_self] at ports
  injection ports with answer
  injection answer with _ status
  exact h status

/-- A group is held elsewhere for every port but its holder (R124). -/
theorem heldElsewhere_some {groups : Table 6 GroupState} {p q : Port} {g : Group}
    (held : (groups.get g).holder = some q) : heldElsewhere groups p (some g) = (q != p) := by
  simp only [heldElsewhere, held]

end Sys2Proof.Machine
end

section
/-! PROOFS. What a hold refuses (R124), ZONE_MUTE (R148), the freeze and the requests without a body (R15, R169), and the
asks of the engine (R42, R43). -/

namespace Sys2Proof.Machine

open Sys2Proof.Safety

section
variable {s : State} {p : Port}

/-- What MOVE_SOURCE answers for the channel `n` (R98). -/
theorem serveMoveSource_pair (n : Channel) (v : Byte) : serveMoveSource p [numberByte n, v] s =
    if heldElsewhere s.groups p (s.settings.channelGroup n) then refuse s .heldElsewhere
    else match numberedOrNone 32 v.toNat with
      | none => refuse s .badValue
      | some st => accept ((s.moveTo n st).settle s) :=
  naming_pair n v (by decide)

theorem serveSetGateMode_pair (n : Channel) (v : Byte) : serveSetGateMode p [numberByte n, v] s =
    if heldElsewhere s.groups p (s.settings.channelGroup n) then refuse s .heldElsewhere
    else if s.forcedAskFails n (gateModeOf v.toNat) then refuse s .groupFull
    else match gateModeOf v.toNat with
      | none => refuse s .badValue
      | some mode => accept ((s.setPortMode n mode).settle s) :=
  naming_pair n v (by decide)

theorem serveZoneMute_pair (j : Zone) (v : Byte) : serveZoneMute p [numberByte j, v] s =
    if heldElsewhere s.groups p (s.settings.zoneGroup j) then refuse s .heldElsewhere
    else match yesNo v.toNat with
      | none => refuse s .badValue
      | some mute => accept ((s.onZone j fun z => { z with requestMute := mute }).settle s) :=
  naming_pair j v (by decide)

theorem serveSelectArrangement_byte (v : Byte) : serveSelectArrangement p [v] s =
    if (List.finRange 6).any fun g : Group => heldElsewhere s.groups p (some g) then refuse s .heldElsewhere
    else match numbered 4 v.toNat with
      | none => refuse s .badValue
      | some k => if k = s.settings.active then accept s else accept ((s.switchTo k).settle s) :=
  sized_of_length (show [v].length = 1 from rfl)

/-- Where no group is held elsewhere, MOVE_SOURCE does not say so. -/
theorem serveMoveSource_status (n : Channel) (v : Byte)
    (free : heldElsewhere s.groups p (s.settings.channelGroup n) = false) :
    (serveMoveSource p [numberByte n, v] s).status ≠ .heldElsewhere := by
  rw [serveMoveSource_pair, free, if_neg Bool.false_ne_true]
  split <;> exact nofun

theorem serveZoneMute_status (j : Zone) (v : Byte)
    (free : heldElsewhere s.groups p (s.settings.zoneGroup j) = false) :
    (serveZoneMute p [numberByte j, v] s).status ≠ .heldElsewhere := by
  rw [serveZoneMute_pair, free, if_neg Bool.false_ne_true]
  split <;> exact nofun

end

/-- Settles O20: each request of another port meets the hold before its own steps. -/
theorem heldGroupsRefuseOthers : Obligations.HeldGroupsRefuseOthers := by
  unfold Obligations.HeldGroupsRefuseOthers
  intro s p q g held
  have elsewhere (other : p ≠ q) : heldElsewhere s.groups p (some g) = true := by
    rw [heldElsewhere_some held, bne_iff_ne]
    exact other.symm
  have own (same : p = q) : heldElsewhere s.groups p (some g) = false := by
    rw [heldElsewhere_some held, same, bne_self_eq_false]
  refine ⟨fun n v group => ⟨fun ready => ⟨fun other => ?_, fun same => ?_⟩, fun ready other => ?_⟩,
    fun j v group ready => ⟨fun other => ?_, fun same => ?_⟩, fun v ready other => ?_⟩
  · rw [exec_moveSource ready, serveMoveSource_pair, group, elsewhere other]
    rfl
  · rw [exec_moveSource ready]
    exact answering_ne (serveMoveSource_status n v (group ▸ own same))
  · rw [exec_setGateMode ready, serveSetGateMode_pair, group, elsewhere other]
    rfl
  · rw [exec_zoneMute ready, serveZoneMute_pair, group, elsewhere other]
    rfl
  · rw [exec_zoneMute ready]
    exact answering_ne (serveZoneMute_status j v (group ▸ own same))
  · have any : (List.finRange 6).any (fun g : Group => heldElsewhere s.groups p (some g)) = true :=
      List.any_eq_true.mpr ⟨g, List.mem_finRange g, elsewhere other⟩
    rw [exec_selectArrangement ready, serveSelectArrangement_byte, if_pos any]
    rfl

/-- A mute changed is an event at the zones that moves one zone alone. -/
theorem State.zoneChange_requestMute (s : State) (j : Zone) (mute : Bool) :
    ZoneChange s (s.onZone j fun z => { z with requestMute := mute }) := { ZoneChange.refl s with }

/-- A zone with a silencing cause is live for no channel (R62). -/
theorem State.live_of_silenced {s : State} {j : Zone} (h : (s.zones.get j).silenced = true) (n : Channel) :
    s.live n j = false := by
  unfold State.live
  split
  · rfl
  · simp [h]

/-- Settles O24. -/
theorem zoneMuteActs : Obligations.ZoneMuteActs := by
  unfold Obligations.ZoneMuteActs
  intro s p j
  refine ⟨fun free law => ⟨fun mute ready => ?_, fun v large ready => ?_⟩, fun v w outside ready => ?_⟩
  · have run := exec_zoneMute ready
    rw [serveZoneMute_pair, free, if_neg Bool.false_ne_true, yesNo_flagOf] at run
    have change := s.zoneChange_requestMute j mute
    have ⟨_, targetBefore, _⟩ := law
    have ⟨_, target, _⟩ := (exec_keepsArray run).keeps law
    simp only [State.settle_eq_settleClock, accept_sentTo] at run target
    refine ⟨_, run, rfl, rfl, target, fun n i other => ?_, fun muted n => ?_,
      zoneFrame_answering (change.settleClock _) .., rfl, rfl, rfl⟩
    · exact change.settleClock_get_of_zone targetBefore rfl (Table.get_modify_other _ _ (Ne.symm other)) n
    · have dead : (s.onZone j fun z => { z with requestMute := mute }).live n j = false :=
        State.live_of_silenced (by simp [ZoneState.silenced, muted]) n
      have off (x : Crosspoint) : (s.onZone j fun z => { z with requestMute := mute }).targetOf n j x = none := by
        rw [State.targetOf, dead, if_neg Bool.false_ne_true]
      simp only [State.setPort_crosspoints, State.settleClock_get, Bool.false_eq_true, if_false, off,
        State.onZone_crosspoints, State.onZone_settings]
      refine ⟨Crosspoint.retarget_target .., fun l steady => ?_⟩
      have sounds : (none : Option Nat) ≠ ((s.crosspoints.get n).get j).target := by
        have phase := (lawful_of_arrayLaw law n j).phase
        rw [steady] at phase
        simp [show ((s.crosspoints.get n).get j).target = some l from phase]
      rw [Crosspoint.retarget, if_neg sounds, steady]
      rfl
  · rw [exec_zoneMute ready, serveZoneMute_pair, free, if_neg Bool.false_ne_true, yesNo_eq_none large]
    rfl
  · rw [exec_zoneMute ready, serveZoneMute, naming_pair_outside outside]
    rfl

/-- Settles O27. -/
theorem freezeAndResetRequests : Obligations.FreezeAndResetRequests := by
  unfold Obligations.FreezeAndResetRequests
  intro s p
  refine ⟨fun ready => by rw [exec_freezeGeometry ready]; rfl, fun ready => by rw [exec_resetRuntime ready]; rfl,
    fun body carries => ?_⟩
  have other : body.length ≠ 0 := fun h => carries (List.length_eq_zero_iff.mp h)
  refine ⟨fun ready => ?_, fun ready => ?_, fun ready => ?_, fun ready => ?_, fun ready => ?_, fun ready => ?_,
    fun ready => ?_⟩
  · rw [exec_freezeGeometry ready, serveFreeze, sized_of_other other]; rfl
  · have kept : body.isEmpty = false := by simpa using carries
    rw [exec_resetRuntime ready, State.serve_eq, serveResetRuntime, sized_of_other other, kept]; rfl
  · rw [exec_standby ready, serveStandby, sized_of_other other]; rfl
  · rw [exec_wake ready, serveWake, sized_of_other other]; rfl
  · rw [exec_resumeAfterOverride ready, serveResume, sized_of_other other]; rfl
  · rw [exec_rearmOutputs ready, serveRearm, sized_of_other other]; rfl
  · rw [exec_readEvents ready, serveReadEvents, sized_of_other other]; rfl

/-- The queue after an ask (R42). -/
theorem mergeItem_eq (i : Item) (q : List Item) :
    mergeItem i q = if Item.all ∈ q ∨ i ∈ q then q else q ++ [i] := by
  simp only [mergeItem, Bool.or_eq_true, List.contains_iff_mem]

/-- Settles O29. -/
theorem asksMergeInTheQueue : Obligations.AsksMergeInTheQueue := by
  unfold Obligations.AsksMergeInTheQueue
  intro e
  refine ⟨fun n => ⟨mergeItem_eq _ _, ?_, fun k other => ?_, rfl⟩, fun g => ⟨mergeItem_eq _ _, rfl, rfl⟩, rfl,
    fun k => ?_, rfl⟩
  · simp [Engine.askChannel]
  · exact Table.get_set_other _ _ (Ne.symm other)
  · simp [Engine.askAll]

end Sys2Proof.Machine
end

section
/-! PROOFS. The sticky sets, the attention lines and the contact outputs (R189 to R195, R201). -/

namespace Sys2Proof.Machine

open Sys2Proof.Safety

/-! ### Kinds and their bits (R189, R190) -/

/-- The kinds in the order of their bits. -/
def EventKind.all : List EventKind :=
  [.restarted, .gateOpened, .gateClosed, .openDenied, .socketChange, .liveRemoval, .powerReady, .powerRefused,
    .powerFault, .contactChange, .clockLost, .clockLocked, .overrideChange, .holdBroken, .arrangementChanged,
    .clamped, .zoneClipped, .queueIdle, .portFault]

theorem EventKind.all_get_bit (k : EventKind) : EventKind.all[k.bit]? = some k := by cases k <;> rfl

theorem EventKind.bit_injective {k k' : EventKind} (h : k.bit = k'.bit) : k = k' :=
  Option.some.inj ((all_get_bit k).symm.trans (h ▸ all_get_bit k'))

theorem EventKind.bit_lt (k : EventKind) : k.bit < 19 := by cases k <;> decide

/-- Each of bits 0 to 18 is the bit of a kind. -/
theorem EventKind.exists_bit {i : Nat} (h : i < 19) : ∃ k : EventKind, k.bit = i := by
  have at' : ∀ i : Fin 19, (EventKind.all.get i).bit = i.val := by decide
  exact ⟨_, at' ⟨i, h⟩⟩

/-- The mask of a kind has its bit alone. -/
theorem EventKind.mask_getLsbD (k : EventKind) (i : Nat) : k.mask.getLsbD i = decide (k.bit = i) := by
  have := k.bit_lt
  rw [EventKind.mask, BitVec.getLsbD_ofNat, Nat.testBit_two_pow]
  by_cases same : k.bit = i
  · simp [same]; omega
  · simp [same]

/-- A mask meets that of one kind exactly where it holds the kind. -/
theorem EventKind.mask_and_ne_zero (k : EventKind) (m : EventMask) : k.mask &&& m ≠ 0 ↔ m.getLsbD k.bit = true := by
  constructor
  · intro met
    by_contra without
    refine met (BitVec.eq_of_getLsbD_eq fun i _ => ?_)
    rw [BitVec.getLsbD_and, k.mask_getLsbD, BitVec.ofNat_eq_ofNat, BitVec.getLsbD_zero]
    by_cases same : k.bit = i
    · simpa [← same] using without
    · simp [same]
  · intro held none
    have := congrArg (·.getLsbD k.bit) none
    simp [k.mask_getLsbD, held] at this

/-- The bits that stand for no kind. -/
theorem EventMask.not_kinds_getLsbD : ∀ i : Fin 24, (~~~EventMask.kinds).getLsbD i.val = decide (19 ≤ i.val) := by decide

/-- A mask without bits 19 to 23 holds bits of kinds alone. -/
theorem lt_of_maskValid {m : EventMask} (valid : maskValid m = true) {i : Nat} (h : m.getLsbD i = true) : i < 19 := by
  by_contra beyond
  have inside : i < 24 := BitVec.lt_of_getLsbD h
  have none := congrArg (·.getLsbD i) (beq_iff_eq.mp valid)
  have outside := EventMask.not_kinds_getLsbD ⟨i, inside⟩
  rw [decide_eq_true (Nat.le_of_not_lt beyond)] at outside
  simp [h, outside] at none

/-- Two sets of kinds meet exactly where they have a kind in common. -/
theorem and_ne_zero_iff_kind {m n : EventMask} (valid : maskValid m = true) :
    m &&& n ≠ 0 ↔ ∃ k : EventKind, m.getLsbD k.bit = true ∧ n.getLsbD k.bit = true := by
  constructor
  · intro met
    by_contra none
    refine met (BitVec.eq_of_getLsbD_eq fun i _ => ?_)
    rw [BitVec.getLsbD_and, BitVec.ofNat_eq_ofNat, BitVec.getLsbD_zero, Bool.and_eq_false_iff]
    by_contra both
    simp only [not_or, Bool.not_eq_false] at both
    obtain ⟨k, rfl⟩ := EventKind.exists_bit (lt_of_maskValid valid both.1)
    exact none ⟨k, both⟩
  · rintro ⟨k, inM, inN⟩ none
    have := congrArg (·.getLsbD k.bit) none
    simp [inM, inN] at this

/-! ### Masks in a frame -/

theorem maskAt_maskOf (m : EventMask) : maskAt (maskOf m) 0 = m := by
  have := m.isLt
  apply BitVec.eq_of_toNat_eq
  simp only [maskAt, maskOf, natAt, byteAt, byteOf, List.getD_cons_zero, List.getD_cons_succ, BitVec.toNat_ofNat]
  omega

theorem maskValid_iff_bits (m : EventMask) : maskValid m = true ↔ m &&& 0xF80000#24 = 0 := beq_iff_eq

/-! ### Postings and lines -/

section
variable {s : State} {p : Port}

theorem State.post_get (s : State) (k : EventKind) (p : Port) :
    (s.post k).events.get p = (s.events.get p).add (s.settings.routing.get p) k.mask := by
  simp [State.post, State.postMask]

theorem State.post_holds (s : State) (k k' : EventKind) (p : Port) :
    ((s.post k).events.get p).sticky.getLsbD k'.bit = true ↔ k = k' ∨ (s.events.get p).sticky.getLsbD k'.bit = true := by
  rw [State.post_get, PortEvents.add, BitVec.getLsbD_or, k.mask_getLsbD, Bool.or_eq_true, decide_eq_true_eq, or_comm]
  exact or_congr_left ⟨EventKind.bit_injective, congrArg _⟩

theorem State.attentionLine_level (awake : s.held = false) (level : (s.settings.routing.get p).mode = .level) :
    s.attentionLine p = true ↔ (s.events.get p).sticky &&& (s.settings.routing.get p).mask ≠ 0 := by
  simp [State.attentionLine, awake, level]

theorem State.attentionLine_pulse (awake : s.held = false) (pulse : (s.settings.routing.get p).mode = .pulse) :
    s.attentionLine p = true ↔ (s.events.get p).pulse ≠ none := by
  simp [State.attentionLine, awake, pulse, Option.isSome_iff_ne_none]

/-- Where a posting starts a pulse (R195): its kind was absent and is in the mask. -/
theorem State.post_pulse (s : State) (k : EventKind) (pulse : (s.settings.routing.get p).mode = .pulse) :
    ((s.post k).events.get p).pulse =
      if (s.events.get p).sticky.getLsbD k.bit = false ∧ (s.settings.routing.get p).mask.getLsbD k.bit = true then some 48
      else (s.events.get p).pulse := by
  have fresh : k.mask &&& ~~~(s.events.get p).sticky &&& (s.settings.routing.get p).mask ≠ 0 ↔
      (s.events.get p).sticky.getLsbD k.bit = false ∧ (s.settings.routing.get p).mask.getLsbD k.bit = true := by
    have inside : k.bit < 24 := Nat.lt_trans k.bit_lt (by decide)
    rw [BitVec.and_assoc, k.mask_and_ne_zero, BitVec.getLsbD_and, BitVec.getLsbD_not]
    simp [inside]
  rw [State.post_get]
  simp only [PortEvents.add, pulse, true_and, fresh, Config.pulseTime, Config.samplesPerMs]

/-! ### Relays (R201) -/

/-- A relay is closed exactly where its condition is true and not inverted, or false and inverted. -/
theorem State.relayClosed_iff (awake : s.held = false) {q : ContactOut} {c : Prop}
    (condition : s.conditionTrue (s.settings.contactOut.get q).condition = true ↔ c) :
    s.relayClosed q = true ↔ (c ↔ (s.settings.contactOut.get q).inverted = false) := by
  rw [← condition, State.relayClosed, awake]
  generalize s.conditionTrue _ = holds
  cases (s.settings.contactOut.get q).inverted <;> cases holds <;> decide

end

/-- Settles O9. -/
theorem eventsAndAttentionLines : Obligations.EventsAndAttentionLines := by
  unfold Obligations.EventsAndAttentionLines
  refine ⟨fun s p => ⟨fun ready => ?_, fun m => ⟨fun ready => ?_, fun ready => ?_⟩⟩,
    fun s p awake law => ⟨fun k k' => s.post_holds k k' p, fun level => ?_, fun pulse => ⟨?_, fun k => ?_⟩, fun ended => ?_⟩,
    fun s q awake => ⟨fun h => ?_, fun g h => ?_, fun g h => ?_, fun h => ?_, fun h => ?_, fun h => ?_⟩⟩
  · rw [exec_readEvents ready]; rfl
  · rw [exec_clearEvents ready, serveClearEvents, sized_of_length (by rfl), maskAt_maskOf]
    simp only [maskValid_iff_bits, apply_ite (Reply.sentTo · p 0x0E), accept_sentTo, refuse_sentTo, State.clearKinds]
  · rw [exec_forceEvents ready, serveForceEvents, sized_of_length (by rfl), maskAt_maskOf]
    simp only [maskValid_iff_bits, apply_ite (Reply.sentTo · p 0x0F), accept_sentTo, refuse_sentTo, State.postTo,
      PortEvents.add, Config.pulseTime, Config.samplesPerMs]
  · rw [State.attentionLine_level awake level, and_ne_zero_iff_kind (law p).1]
  · exact State.attentionLine_pulse awake pulse
  · exact s.post_pulse k pulse
  · simp only [exec, execPulseEnd, occur_of_awake awake, ended, if_true, State.endPulse]
  all_goals refine State.relayClosed_iff awake ?_; rw [h]
  · simp [State.conditionTrue]
  · simp [State.conditionTrue, GroupState.openCount]
  · simp [State.conditionTrue, Option.isSome_iff_exists]
  · rw [State.conditionTrue]
    cases s.override.state <;> decide
  · simp [State.conditionTrue]
  · simp [State.conditionTrue]

end Sys2Proof.Machine
end

section
/-! PROOFS. The frames, their check, and the handlers byte by byte (R173 to R178). -/

namespace Sys2Proof.Machine

open Sys2Proof.Safety

/-! ### The check (R174) -/

/-- One shift of the check, as section 10.2 puts it. -/
def checkShift (v : BitVec 16) : BitVec 16 := if v.getLsbD 15 = true then (v <<< 1) ^^^ 0x1021#16 else v <<< 1

theorem crcShift_eq_checkShift (v : BitVec 16) : crcShift v = checkShift v := rfl

/-- A byte enters the check in its upper half. -/
theorem setWidth_shiftLeft_eq_append (b : Byte) : b.setWidth 16 <<< 8 = (b ++ 0#8 : BitVec 16) := by
  refine BitVec.eq_of_getLsbD_eq fun i hi => ?_
  rw [BitVec.getLsbD_append, BitVec.getLsbD_shiftLeft, BitVec.getLsbD_setWidth]
  by_cases low : i < 8
  · simp [low, hi]
  · simp [low, hi]
    omega

theorem crc_concat (bytes : List Byte) (b : Byte) :
    crc (bytes ++ [b]) = checkShift^[8] (crc bytes ^^^ (b ++ 0#8 : BitVec 16)) := by
  rw [crc, List.foldl_concat, ← setWidth_shiftLeft_eq_append]
  rfl

/-- The two check bytes, the upper half first. -/
theorem wordOf_toNat (v : BitVec 16) : wordOf v.toNat = [v.extractLsb' 8 8, v.extractLsb' 0 8] := by
  have upper : byteOf (v.toNat / 256) = v.extractLsb' 8 8 := by
    apply BitVec.eq_of_toNat_eq
    simp [byteOf, Nat.shiftRight_eq_div_pow]
  have lower : byteOf v.toNat = v.extractLsb' 0 8 := by
    apply BitVec.eq_of_toNat_eq
    simp [byteOf]
  rw [wordOf, upper, lower]

/-- Two bytes are those of a word exactly where they spell its value. -/
theorem pair_eq_wordOf (hi lo : Byte) {n : Nat} (h : n < 65536) :
    [hi, lo] = wordOf n ↔ n = hi.toNat * 256 + lo.toNat := by
  have := hi.isLt
  have := lo.isLt
  simp only [wordOf, List.cons.injEq, and_true, byteOf, BitVec.toNat_eq, BitVec.toNat_ofNat]
  omega

/-! ### The handlers byte by byte (R175, R177, R178) -/

section
variable {s : State} {p : Port}

theorem State.setPort_setPort (s : State) (p : Port) (x y : Handler) : (s.setPort p x).setPort p y = s.setPort p y := by
  cases p <;> rfl

theorem exec_byteReceived (awake : s.held = false) (c : RxChar) :
    exec (.byteReceived p c) s = .next (s.receive p c) := occur_of_awake awake

/-- A byte that the partial frame takes. -/
theorem State.receive_taken {part : List Byte} {timer : Nat} (h : s.ports.get p = .receiving part timer) {b : Byte}
    {x : Handler} (taken : receiveByte part b = some x) : s.receive p (.byte b) = s.setPort p x := by
  simp only [State.receive, h, taken]

/-- A byte that abandons it. -/
theorem State.receive_abandoned {part : List Byte} {timer : Nat} (h : s.ports.get p = .receiving part timer) {b : Byte}
    (refused : receiveByte part b = none) : s.receive p (.byte b) = s.abandon p := by
  simp only [State.receive, h, refused]

/-- A byte that does not complete its frame joins it. -/
theorem receiveByte_partial {len : Byte} {rest : List Byte} (short : rest.length + 1 < len.toNat + 2) (b : Byte) :
    receiveByte (len :: rest) b = some (.receiving (len :: (rest ++ [b])) 960) := by
  have unfinished : frameWhole (len :: rest ++ [b]) = false := by
    simp only [frameWhole, natAt, byteAt, List.cons_append, List.getD_cons_zero, List.length_cons, List.length_append,
      List.length_nil, beq_eq_false_iff_ne, ne_eq]
    omega
  rw [receiveByte, if_neg (List.cons_ne_nil _ _), unfinished, if_neg Bool.false_ne_true]
  rfl

/-- A byte that completes its frame has it served, or answered BAD_CHECK. -/
theorem receiveByte_last {len : Byte} {rest : List Byte} (last : rest.length + 1 = len.toNat + 2) (b : Byte) :
    receiveByte (len :: rest) b = some (if frameChecks (len :: rest ++ [b]) then requestOf (len :: rest ++ [b])
      else badCheckAnswer) := by
  have whole : frameWhole (len :: rest ++ [b]) = true := by
    simp only [frameWhole, natAt, byteAt, List.cons_append, List.getD_cons_zero, List.length_cons, List.length_append,
      List.length_nil, beq_iff_eq]
    omega
  rw [receiveByte, if_neg (List.cons_ne_nil _ _), if_pos whole]

/-- A character during service is lost (R178). -/
theorem State.receive_busy (busy : (∃ k b, s.ports.get p = .serving k b) ∨ ∃ r b, s.ports.get p = .responding r b)
    (c : RxChar) : s.receive p c = s.collide p := by
  obtain ⟨k, b, h⟩ | ⟨r, b, h⟩ := busy <;> simp only [State.receive, h]

/-! ### Runs of bytes -/

theorem receiveAll_cons {b : Byte} {bytes : List Byte} (awake : s.held = false) :
    receiveAll p (b :: bytes) s = receiveAll p bytes (s.receive p (.byte b)) := by
  rw [receiveAll, exec_byteReceived awake]

/-- A byte that a partial frame takes leaves what it makes of the frame, and the rest of the run goes on from there. -/
theorem receiveAll_taken (awake : s.held = false) {part : List Byte} {b : Byte} {x : Handler}
    (taken : receiveByte part b = some x) (bytes : List Byte) :
    receiveAll p (b :: bytes) (s.setPort p (.receiving part 960)) = receiveAll p bytes (s.setPort p x) := by
  rw [receiveAll_cons (s := s.setPort p (.receiving part 960)) awake,
    State.receive_taken (ByPort.get_set_self ..) taken, State.setPort_setPort]

/-- The bytes of a frame up to its last but one gather in RECEIVING. -/
theorem receiveAll_partial (awake : s.held = false) (len : Byte) (tail bytes : List Byte) :
    ∀ rest : List Byte, rest.length + bytes.length < len.toNat + 2 →
      receiveAll p (bytes ++ tail) (s.setPort p (.receiving (len :: rest) 960)) =
        receiveAll p tail (s.setPort p (.receiving (len :: (rest ++ bytes)) 960)) := by
  induction bytes with
  | nil => intro rest _; rw [List.append_nil, List.nil_append]
  | cons b bytes ih =>
    intro rest short
    rw [List.length_cons] at short
    rw [List.cons_append, receiveAll_taken awake (receiveByte_partial (by omega) b), ih _ (by simp; omega),
      List.append_assoc, List.singleton_append]

/-- A frame received by an IDLE handler, sync byte, length byte, a body that fits and one last byte, is served or
answered BAD_CHECK. -/
theorem receiveAll_frame (awake : s.held = false) (idle : s.ports.get p = .idle) {len : Byte} {rest : List Byte}
    (fits : 1 ≤ len.toNat ∧ len.toNat ≤ 250) (whole : rest.length + 1 = len.toNat + 2) (last : Byte) :
    receiveAll p (0xA5 :: len :: (rest ++ [last])) s = .next (s.setPort p
      (if frameChecks (len :: rest ++ [last]) then requestOf (len :: rest ++ [last]) else badCheckAnswer)) := by
  have sync : s.receive p (.byte 0xA5) = s.setPort p (.receiving [] 960) := by
    simp only [State.receive, idle, if_true, Config.interByteTime, Config.samplesPerMs]
  have start : receiveByte [] len = some (.receiving [len] 960) := by rw [receiveByte_nil, if_pos fits]
  rw [receiveAll_cons awake, sync, receiveAll_taken awake start,
    receiveAll_partial awake len [last] rest [] (by simp; omega), List.nil_append,
    receiveAll_taken awake (receiveByte_last whole last), receiveAll]

end

/-! ### A whole frame (R173, R177) -/

/-- The check of a whole frame is that of its bytes before the last two. -/
theorem frameChecks_append (core : List Byte) (hi lo : Byte) :
    frameChecks (core ++ [hi, lo]) = true ↔ [hi, lo] = wordOf (crc core).toNat := by
  have shorter : (core ++ [hi, lo]).length - 2 = core.length := by simp
  have word : wordAt (core ++ [hi, lo]) core.length = hi.toNat * 256 + lo.toNat := by
    simp [wordAt, natAt, byteAt]
  rw [pair_eq_wordOf _ _ (crc core).isLt, frameChecks, shorter, List.take_left, word, beq_iff_eq]

/-- The request of a whole frame is the one that was framed. -/
theorem requestOf_frame (kind : Byte) {body : List Byte} (fits : body.length ≤ 249) (check : List Byte) :
    requestOf (byteOf (body.length + 1) :: kind :: body ++ check) = .serving kind body := by
  have counted : natAt (byteOf (body.length + 1) :: kind :: body ++ check) 0 - 1 = body.length := by
    simp only [natAt, byteAt, byteOf, List.cons_append, List.getD_cons_zero, BitVec.toNat_ofNat]
    omega
  rw [requestOf, counted]
  simp [byteAt]

/-- The bytes of a request's frame with some check, received by an IDLE handler: served with its own check, answered
BAD_CHECK with any other. -/
theorem receiveAll_request {s : State} {p : Port} (awake : s.held = false) (idle : s.ports.get p = .idle) (kind : Byte)
    {body : List Byte} (fits : body.length ≤ 249) (hi lo : Byte) :
    receiveAll p (0xA5 :: ((byteOf (body.length + 1) :: kind :: body) ++ [hi, lo])) s = .next (s.setPort p
      (if [hi, lo] = wordOf (crc (byteOf (body.length + 1) :: kind :: body)).toNat then .serving kind body
        else .responding ⟨0, .badCheck, []⟩ false)) := by
  have count : (byteOf (body.length + 1)).toNat = body.length + 1 := by
    simp only [byteOf, BitVec.toNat_ofNat]
    omega
  have bytes : (byteOf (body.length + 1) :: kind :: body) ++ [hi, lo] =
      byteOf (body.length + 1) :: ((kind :: body ++ [hi]) ++ [lo]) := by simp
  have frame : byteOf (body.length + 1) :: (kind :: body ++ [hi]) ++ [lo] =
      (byteOf (body.length + 1) :: kind :: body) ++ [hi, lo] := by simp
  rw [bytes, receiveAll_frame awake idle (by omega) (by simp [count]), frame, requestOf_frame kind fits]
  simp only [frameChecks_append, badCheckAnswer]

/-- Settles O7: the check and the frames, each state of the handler, and a whole frame by its bytes. -/
theorem framesAreReceived : Obligations.FramesAreReceived := by
  unfold Obligations.FramesAreReceived
  refine ⟨⟨⟨rfl, crc_concat⟩, ⟨fun kind body => ?_, fun x => ?_⟩, rfl⟩,
    fun s p awake => ⟨fun idle => ⟨?_, fun b other => ?_, ?_⟩, fun timer receiving b => ?_,
      fun len rest timer receiving short b => ?_, fun frame timer receiving => ?_, fun c busy => ?_⟩,
    fun s p kind body awake idle fits => ⟨?_, fun hi lo other => ?_⟩⟩
  · simp only [requestFrame, wordOf_toNat]
    rfl
  · simp only [Response.frame, wordOf_toNat]
    rfl
  · simp only [exec_byteReceived awake, State.receive, idle, if_true, Config.interByteTime, Config.samplesPerMs]
  · have unsynced : ¬RxChar.byte b = RxChar.byte 0xA5 := fun same => other (RxChar.byte.inj same)
    simp only [exec_byteReceived awake, State.receive, idle, if_neg unsynced]
  · simp only [exec_byteReceived awake, State.receive, idle, reduceCtorEq, if_false]
  · by_cases fits : 1 ≤ b.toNat ∧ b.toNat ≤ 250
    · rw [exec_byteReceived awake, State.receive_taken receiving (by rw [receiveByte_nil, if_pos fits]), if_pos fits]
    · rw [exec_byteReceived awake, State.receive_abandoned receiving (by rw [receiveByte_nil, if_neg fits]),
        if_neg fits, State.abandon]
  · rw [exec_byteReceived awake, State.receive_taken receiving (receiveByte_partial short b)]
  · simp only [exec_byteReceived awake, State.receive, receiving, State.abandon]
  · rw [exec_byteReceived awake, State.receive_busy busy, State.collide]
  · obtain ⟨hi, lo, check⟩ : ∃ hi lo, wordOf (crc (byteOf (body.length + 1) :: kind :: body)).toNat = [hi, lo] :=
      ⟨_, _, rfl⟩
    rw [requestFrame, check, receiveAll_request awake idle kind fits, if_pos check.symm]
  · rw [receiveAll_request awake idle kind fits, if_neg other]

end Sys2Proof.Machine
end

section
/-! PROOFS. Writes of the CHANNEL table (R7, R8, R12, R13, R84, R139). -/

namespace Sys2Proof.Machine

open Sys2Proof.Safety

variable {s : State} {p : Port} {n : Channel}

/-- Posting nothing leaves every set and every pulse. -/
theorem State.postMask_zero (s : State) : s.postMask 0 = s := by
  have same : (s.events.map fun p e => e.add (s.settings.routing.get p) 0) = s.events := by
    have one (r : Routing) (e : PortEvents) : e.add r 0 = e := by simp [PortEvents.add]
    simp only [one]
    rfl
  rw [State.postMask, same]

/-- What a change of the gates and the groups that posts nothing leaves. -/
theorem State.onMix_eq {f : Mix → Mix} (quiet : (f s.mix).posted = 0) :
    s.onMix f = { s with gates := (f s.mix).gates, groups := (f s.mix).groups } := by
  rw [State.onMix, State.withMix, quiet, State.postMask_zero]

/-! ### The checks of a window write (R12) -/

theorem memberGroup_isSome {groups : Table 6 GroupState} :
    (memberGroup groups n).isSome = true ↔ ∃ g, (groups.get g).holds n = true := by
  simp [memberGroup]

theorem State.windowBusy_iff : s.windowBusy n = true ↔
    (∃ g, (s.groups.get g).holds n = true) ∨ ∃ j, ((s.crosspoints.get n).get j).phase ≠ .silent := by
  simp only [State.windowBusy, Bool.or_eq_true, memberGroup_isSome, List.any_eq_true, List.mem_finRange, true_and,
    bne_iff_ne]

theorem State.windowBusy_eq_false (outside : ∀ g, (s.groups.get g).holds n = false)
    (silent : ∀ j, ((s.crosspoints.get n).get j).phase = .silent) : s.windowBusy n = false := by
  rw [← Bool.not_eq_true, State.windowBusy_iff]
  rintro (⟨g, h⟩ | ⟨j, h⟩)
  · exact absurd h (Bool.eq_false_iff.mp (outside g))
  · exact h (silent j)

theorem Settings.overlapsAnother_iff {c : Settings} {start length : Nat} : c.overlapsAnother n start length = true ↔
    ∃ m, m ≠ n ∧ windowsOverlap start length (c.channels.get m).start (c.channels.get m).length = true := by
  simp only [Settings.overlapsAnother, List.any_eq_true, List.mem_finRange, true_and, Bool.and_eq_true, bne_iff_ne]

theorem windowsOverlap_iff {start length otherStart otherLength : Nat} :
    windowsOverlap start length otherStart otherLength = true ↔
      length ≠ 0 ∧ otherLength ≠ 0 ∧ start < otherStart + otherLength ∧ otherStart < start + length := by
  simp only [windowsOverlap, Bool.and_eq_true, bne_iff_ne, decide_eq_true_eq, and_assoc]

theorem windowInRange_iff {start length : Nat} :
    windowInRange start length = true ↔ start ≤ 1023 ∧ length ≤ 256 ∧ start + length ≤ 1024 := by
  simp only [windowInRange, Config.delayUnits, Bool.and_eq_true, decide_eq_true_eq, and_assoc]

/-! ### The reply to a CHANNEL write (R12) -/

theorem exec_writeEntryChannel {index : BitVec 16} {e : List Byte} (h : Ready s p 0x02 (writeBody 3 index e)) :
    exec (.writeEntryChannel p index e) s = .next ((serveWriteChannel index e s).sentTo p 0x02) := occur_request h

/-- The entry changes the window of Mn. -/
abbrev ChannelRec.MovedBy (c : ChannelRec) (e : List Byte) : Prop := wordAt e 0 ≠ c.start ∨ wordAt e 2 ≠ c.length

/-- What the fields of an entry that its window does not refuse answer (R7, R84). -/
def State.answerChannel (n : Channel) (e : List Byte) (s : State) : Reply :=
  match channelOf e with
  | none => refuse s .badValue
  | some c => acceptClamped (channelClamped e) (s.storeChannel n c)

section
variable {e : List Byte} (size : e.length = 10)

include size in
theorem serveWriteChannel_moved (moved : (s.settings.channels.get n).MovedBy e) :
    serveWriteChannel (indexWord n) e s =
      if s.frozen then refuse s .frozen
      else if s.windowBusy n then refuse s .windowBusy
      else if s.settings.overlapsAnother n (wordAt e 0) (wordAt e 2) then refuse s .windowOverlap
      else if windowInRange (wordAt e 0) (wordAt e 2) then s.answerChannel n e
      else refuse s .badValue := by
  have window : (wordAt e 0 != (s.settings.channels.get n).start || wordAt e 2 != (s.settings.channels.get n).length) =
      true := by simpa using moved
  rw [serveWriteChannel, writeEntry_indexWord n (by decide) size]
  simp only [window, true_and, Bool.not_eq_true, ← ite_not (windowInRange _ _ = true)]
  rfl

include size in
theorem serveWriteChannel_kept (start : wordAt e 0 = (s.settings.channels.get n).start)
    (length : wordAt e 2 = (s.settings.channels.get n).length) :
    serveWriteChannel (indexWord n) e s = s.answerChannel n e := by
  have window : (wordAt e 0 != (s.settings.channels.get n).start || wordAt e 2 != (s.settings.channels.get n).length) =
      false := by simp [start, length]
  rw [serveWriteChannel, writeEntry_indexWord n (by decide) size]
  simp only [window, Bool.false_eq_true, false_and, if_false]
  rfl

end

/-! ### The record that an entry carries (R84) -/

theorem channelOf_eq_some {e : List Byte} {home : Option Station} {mode : GateMode} {auto : Bool}
    (hHome : numberedOrNone 32 (natAt e 4) = some home) (hMode : gateModeOf (natAt e 8) = some mode)
    (hAuto : yesNo (natAt e 9) = some auto) : channelOf e = some
      ⟨wordAt e 0, wordAt e 2, home, max 20 (min 140 (natAt e 5)), max 10 (min 500 (wordAt e 6)), mode, auto⟩ := by
  simp only [channelOf, hHome, hMode, hAuto, clampNat]

theorem channelOf_eq_none {e : List Byte}
    (refused : ∀ home mode auto, numberedOrNone 32 (natAt e 4) = some home → gateModeOf (natAt e 8) = some mode →
      yesNo (natAt e 9) = some auto → False) : channelOf e = none := by
  unfold channelOf
  split
  case h_1 home mode auto hHome hMode hAuto => exact (refused home mode auto hHome hMode hAuto).elim
  case h_2 => rfl

theorem clampNat_ne {lo hi v : Nat} (h : lo ≤ hi) : v ≠ clampNat lo hi v ↔ v < lo ∨ hi < v := by
  unfold clampNat
  omega

theorem channelClamped_eq_true {e : List Byte} : channelClamped e = true ↔
    natAt e 5 < 20 ∨ 140 < natAt e 5 ∨ wordAt e 6 < 10 ∨ 500 < wordAt e 6 := by
  rw [channelClamped, Bool.or_eq_true, bne_iff_ne, bne_iff_ne, clampNat_ne (by decide), clampNat_ne (by decide), or_assoc]

/-! ### What an accepted write leaves (R13, R139) -/

/-- The socket of a channel that takes auto power: a PRESENT condenser ramps (R139). -/
theorem Socket.powerUp_of_unsuppressed {x : Socket} (h : x.suppressed = false) : x.powerUp true =
    if x.phase = .present .condenser then { x with phase := .ramping 9600 } else x := by
  unfold Socket.powerUp Socket.callsForPower
  cases phase : x.phase with
  | present c => cases c <;> simp [SocketPhase.sensedClass, h, Config.phantomRampTime, Config.samplesPerMs]
  | _ => simp

/-- The sockets after a write that turns auto power from `before` to `auto` (R139). -/
def State.poweredSockets (n : Channel) (before auto : Bool) (s : State) : Table 16 Socket :=
  if auto = true ∧ before = false ∧ s.standby = false ∧ (s.sockets.get n).suppressed = false ∧
      (s.sockets.get n).phase = .present .condenser then
    s.sockets.set n { s.sockets.get n with phase := .ramping 9600 } else s.sockets

theorem State.autoPowerOn_eq (before c : ChannelRec) : s.autoPowerOn n before c =
    { s with sockets := s.poweredSockets n before.autoPower c.autoPower } := by
  unfold State.autoPowerOn State.poweredSockets
  by_cases due : c.autoPower = true ∧ before.autoPower = false ∧ s.standby = false ∧ (s.sockets.get n).suppressed = false
  · obtain ⟨auto, was, awake, free⟩ := due
    rw [if_pos (by simp [auto, was, awake, free])]
    simp only [State.onSocket, Table.modify, Socket.powerUp_of_unsuppressed free, auto, was, awake, free, true_and]
    split
    · rfl
    · rw [Table.set_get_self]
  · rw [if_neg (by simpa using due), if_neg fun h => due ⟨h.1, h.2.1, h.2.2.1, h.2.2.2.1⟩]

/-- A write that keeps the window stores the record and may ramp the socket (R7, R139). -/
theorem State.storeChannel_kept {c : ChannelRec} (start : c.start = (s.settings.channels.get n).start)
    (length : c.length = (s.settings.channels.get n).length) : s.storeChannel n c = { s with
      settings := { s.settings with channels := s.settings.channels.set n c }
      sockets := s.poweredSockets n (s.settings.channels.get n).autoPower c.autoPower } := by
  simp only [State.storeChannel, start, length, and_self, if_true, State.autoPowerOn_eq]
  rfl

/-- A write that moves the window clears it, parks the channel and asks for its retune (R13). -/
theorem State.storeChannel_moved {c : ChannelRec}
    (moved : c.start ≠ (s.settings.channels.get n).start ∨ c.length ≠ (s.settings.channels.get n).length) :
    s.storeChannel n c = { s with
      settings := { s.settings with channels := s.settings.channels.set n c }
      delay := s.delay.newWindow c n
      engine := s.engine.askChannel n
      gates := s.gates.modify n fun g => { g with state := .parked, holdCounter := 0 }
      groups := s.groups.map fun _ x => { x with waiting := x.waiting.filter fun w => w != n }
      sockets := s.poweredSockets n (s.settings.channels.get n).autoPower c.autoPower } := by
  have window : ¬(c.start = (s.settings.channels.get n).start ∧ c.length = (s.settings.channels.get n).length) := by
    rwa [not_and_or]
  simp only [State.storeChannel, if_neg window, State.moveWindow, State.autoPowerOn_eq]
  rw [State.onMix_eq (by rfl)]
  rfl

/-! ### The statements -/

/-- Settles O12. -/
theorem otherChannelWrites : Obligations.OtherChannelWrites := by
  unfold Obligations.OtherChannelWrites
  intro s p n e size ready start length
  rw [exec_writeEntryChannel ready, serveWriteChannel_kept size start length]
  congr 1
  split
  case h_1 home mode auto hHome hMode hAuto =>
    rw [State.answerChannel, channelOf_eq_some hHome hMode hAuto]
    simp only [acceptClamped_sentTo, channelClamped_eq_true]
    rw [State.storeChannel_kept (by exact start) (by exact length)]
    rfl
  case h_2 refused =>
    rw [State.answerChannel, channelOf_eq_none refused]
    rfl

/-- Settles O11: the checks in the order of R12, then the record, then each block of the next state. -/
theorem windowWrites : Obligations.WindowWrites := by
  unfold Obligations.WindowWrites
  refine ⟨fun s p n e size ready => ⟨fun moved => ⟨fun frozen => ?_, fun free busy => ?_,
    fun free outside silent => ⟨fun overlap => ?_, fun apart range => ?_⟩⟩, fun start length c carried => ?_⟩,
    fun s p n e size ready free law moved outside silent startFits lengthFits fits apart => ?_⟩
  · rw [exec_writeEntryChannel ready, serveWriteChannel_moved size moved, frozen]; rfl
  · rw [exec_writeEntryChannel ready, serveWriteChannel_moved size moved, free, State.windowBusy_iff.mpr busy]; rfl
  · obtain ⟨m, other, h⟩ := overlap
    have overlaps : s.settings.overlapsAnother n (wordAt e 0) (wordAt e 2) = true :=
      Settings.overlapsAnother_iff.mpr ⟨m, other, windowsOverlap_iff.mpr h⟩
    rw [exec_writeEntryChannel ready, serveWriteChannel_moved size moved, free,
      State.windowBusy_eq_false outside silent, overlaps]
    rfl
  · have beyond : windowInRange (wordAt e 0) (wordAt e 2) = false := by
      rw [← Bool.not_eq_true, windowInRange_iff]
      omega
    rw [exec_writeEntryChannel ready, serveWriteChannel_moved size moved, free,
      State.windowBusy_eq_false outside silent, Settings.overlapsAnother_eq_false.mpr apart, beyond]
    rfl
  · obtain ⟨hStart, hLength, _⟩ := channelOf_some carried
    rw [exec_writeEntryChannel ready, serveWriteChannel_kept size start length, State.answerChannel, carried]
    simp only [acceptClamped_sentTo, State.storeChannel_kept (hStart.trans start) (hLength.trans length)]
    refine ⟨_, rfl, rfl, _, rfl, ?_⟩
    cases channelClamped e
    · exact .inl rfl
    · exact .inr rfl
  · have run := exec_writeEntryChannel ready
    rw [serveWriteChannel_moved size moved, free, State.windowBusy_eq_false outside silent,
      Settings.overlapsAnother_eq_false.mpr apart, windowInRange_iff.mpr ⟨startFits, lengthFits, fits⟩] at run
    simp only [Bool.false_eq_true, if_false, if_true] at run
    split
    case h_1 home mode auto hHome hMode hAuto =>
      rw [State.answerChannel, channelOf_eq_some hHome hMode hAuto] at run
      simp only [acceptClamped_sentTo, channelClamped_eq_true] at run
      rw [State.storeChannel_moved (by exact moved)] at run
      refine ⟨_, run, rfl, rfl, fun a low high => ?_, fun a beyond => ?_, rfl, rfl, fun g => ?_, ?_, rfl, rfl, rfl, rfl,
        rfl, rfl, rfl, rfl, rfl, rfl, rfl, rfl, rfl⟩
      · simp only [State.setPort_delay, DelayMemory.newWindow, readCell_clearCells, ChannelRec.firstCell,
          ChannelRec.windowSamples, Config.unitSamples]
        rw [if_pos (by omega)]
      · simp only [State.setPort_delay, DelayMemory.newWindow, readCell_clearCells, ChannelRec.firstCell,
          ChannelRec.windowSamples, Config.unitSamples]
        rw [if_neg (by omega)]
      · simp
      · simp only [State.setPort_engine, Engine.askChannel, mergeItem_eq]
    case h_2 refused =>
      rw [State.answerChannel, channelOf_eq_none refused] at run
      exact run

end Sys2Proof.Machine
end

section
/-! PROOFS. Writes of the PROFILE, CONTACT_OUT, PORT_ROUTING and SYSTEM tables, and writes that name no writable entry (R72,
R154, R160, R181, R184, R193, R201). -/

namespace Sys2Proof.Machine

open Sys2Proof.Safety

variable {s : State} {p : Port}

section
variable {index : BitVec 16} {e : List Byte}

theorem exec_writeEntryProfile (h : Ready s p 0x02 (writeBody 6 index e)) :
    exec (.writeEntryProfile p index e) s = .next ((serveWriteProfile index e s).sentTo p 0x02) := occur_request h
theorem exec_writeEntryContactOut (h : Ready s p 0x02 (writeBody 8 index e)) :
    exec (.writeEntryContactOut p index e) s = .next ((serveWriteContactOut index e s).sentTo p 0x02) := occur_request h
theorem exec_writeEntryPortRouting (h : Ready s p 0x02 (writeBody 9 index e)) :
    exec (.writeEntryPortRouting p index e) s = .next ((serveWriteRouting index e s).sentTo p 0x02) := occur_request h
theorem exec_writeEntrySystem (h : Ready s p 0x02 (writeBody 10 index e)) :
    exec (.writeEntrySystem p index e) s = .next ((serveWriteSystem index e s).sentTo p 0x02) := occur_request h

end

/-! ### Contact outputs (R201) -/

theorem natAt_cons_zero (b : Byte) (bs : List Byte) : natAt (b :: bs) 0 = b.toNat := rfl
theorem natAt_cons_succ (b : Byte) (bs : List Byte) (i : Nat) : natAt (b :: bs) (i + 1) = natAt bs i := rfl

/-- A condition is read back from its two bytes. -/
theorem conditionOf_bytes (c : OutCondition) (rest : List Byte) :
    conditionOf (natAt (c.bytes ++ rest) 0) (natAt (c.bytes ++ rest) 1) = some c := by
  have group (g : Group) : numbered 6 (byteOf (g.val + 1)).toNat = some g := numbered_numberByte g (by decide)
  cases c with
  | groupLive g => exact congrArg (Option.map OutCondition.groupLive) (group g)
  | groupHeld g => exact congrArg (Option.map OutCondition.groupHeld) (group g)
  | _ => rfl

theorem OutCondition.bytes_length (c : OutCondition) : c.bytes.length = 2 := by cases c <;> rfl

theorem OutBinding.entry_length (b : OutBinding) : b.entry.length = 3 := by
  rw [OutBinding.entry, List.length_append, b.condition.bytes_length]
  rfl

/-- A binding is read back from its entry. -/
theorem contactOutOf_entry (b : OutBinding) : contactOutOf b.entry = some b := by
  have inverted : natAt b.entry 2 = (flagOf b.inverted).toNat := by
    rw [OutBinding.entry, natAt, byteAt, List.getD_append_right _ _ _ _ (by rw [b.condition.bytes_length]),
      b.condition.bytes_length]
    rfl
  unfold contactOutOf
  rw [inverted, yesNo_flagOf, OutBinding.entry, conditionOf_bytes]

/-- A code beyond 5 names no condition, and 1 and 2 name none with a group that is none (R201). -/
theorem conditionOf_eq_none {c g : Nat} (h : 5 < c ∨ ((c = 1 ∨ c = 2) ∧ (g = 0 ∨ 6 < g))) : conditionOf c g = none := by
  obtain code | ⟨rfl | rfl, group⟩ := h
  · unfold conditionOf
    split
    case h_7 => rfl
    all_goals omega
  · rw [conditionOf, numbered_eq_none.mpr group]; rfl
  · rw [conditionOf, numbered_eq_none.mpr group]; rfl

theorem contactOutOf_eq_none {c g i : Byte}
    (h : 5 < c.toNat ∨ ((c.toNat = 1 ∨ c.toNat = 2) ∧ (g.toNat = 0 ∨ 6 < g.toNat)) ∨ 1 < i.toNat) :
    contactOutOf [c, g, i] = none := by
  unfold contactOutOf
  simp only [natAt_cons_zero, natAt_cons_succ]
  obtain code | group | flag := h
  · rw [conditionOf_eq_none (.inl code)]
  · rw [conditionOf_eq_none (.inr group)]
  · rw [yesNo_eq_none flag]
    cases conditionOf c.toNat g.toNat <;> rfl

/-! ### Routing entries (R193) -/

theorem lineModeOf_of_le {v : Byte} (h : v.toNat ≤ 1) : lineModeOf v.toNat = some (if v = 0 then .level else .pulse) := by
  have : v = 0 ∨ v = 1 := by
    rw [BitVec.toNat_eq, BitVec.toNat_eq]
    simp only [BitVec.ofNat_eq_ofNat, BitVec.toNat_ofNat]
    omega
  obtain rfl | rfl := this <;> rfl

theorem lineModeOf_eq_none {v : Nat} (h : 1 < v) : lineModeOf v = none := by
  rw [lineModeOf, if_neg (by omega), if_neg (by omega)]

theorem maskAt_maskOf_append (m : EventMask) (rest : List Byte) : maskAt (maskOf m ++ rest) 0 = m :=
  maskAt_maskOf m

/-- What a routing entry carries, or that a bit without a kind or a mode that is none refuses it (R189, R193). -/
theorem routingOf_maskOf (m : EventMask) (v : Byte) : routingOf (maskOf m ++ [v]) =
    if m &&& 0xF80000#24 ≠ 0 ∨ 1 < v.toNat then none else some ⟨m, if v = 0 then .level else .pulse⟩ := by
  have mode : natAt (maskOf m ++ [v]) 3 = v.toNat := rfl
  unfold routingOf
  rw [mode, maskAt_maskOf_append]
  by_cases large : 1 < v.toNat
  · rw [lineModeOf_eq_none large, if_pos (.inr large)]
  · simp only [lineModeOf_of_le (Nat.le_of_not_lt large), large, or_false, maskValid_iff_bits, ite_not]

theorem State.storeRouting_eq (q : Port) (r : Routing) : s.storeRouting q r = { s with
    settings := { s.settings with routing := s.settings.routing.set q r }
    events := if r.mode = (s.settings.routing.get q).mode then s.events
      else s.events.set q ⟨(s.events.get q).sticky, none⟩ } := by
  unfold State.storeRouting
  by_cases same : r.mode = (s.settings.routing.get q).mode
  · simp only [if_pos same]; rfl
  · simp only [if_neg same]; rfl

theorem State.storeSystem_eq (r : SystemRec) : s.storeSystem r = { s with
    settings := { s.settings with system := r }
    clock := if r.external = s.settings.system.external then s.clock
      else ⟨if r.external then .locking else .internal, false, [], none, none, .nominal⟩ } := by
  unfold State.storeSystem
  by_cases same : r.external = s.settings.system.external
  · simp only [if_pos same]; rfl
  · simp only [if_neg same]; rfl

/-! ### Writes that name no writable entry (R181, R184) -/

theorem exec_writeEntryReadOnly {body : List Byte} (h : Ready s p 0x02 body) (other : writableBody body = false) :
    exec (.writeEntryReadOnly p body) s = .next ((serveWriteReadOnly body s).sentTo p 0x02) := by
  simp only [exec, execWriteEntryReadOnly, occur_of_awake h.1, other, Bool.false_eq_true, if_false,
    State.request_answer h, Reply.sentTo]

theorem writeBody_length (table : Byte) (index : BitVec 16) (rest : List Byte) :
    (writeBody table index rest).length = rest.length + 3 := by simp [writeBody, wordOf]

theorem wordAt_writeBody (table : Byte) (index : BitVec 16) (rest : List Byte) :
    wordAt (writeBody table index rest) 1 = index.toNat := wordAt_wordOf_append index.isLt rest

theorem writableBody_writeBody {table : Byte} (index : BitVec 16) (rest : List Byte)
    (h : table.toNat = 0 ∨ 10 < table.toNat) : writableBody (writeBody table index rest) = false := by
  have first : natAt (writeBody table index rest) 0 = table.toNat := rfl
  rw [writableBody, first]
  simp only [Bool.and_eq_false_iff, decide_eq_false_iff_not]
  omega

theorem serveWriteReadOnly_writeBody (table : Byte) (index : BitVec 16) (rest : List Byte) :
    serveWriteReadOnly (writeBody table index rest) s = match tableEntries table.toNat with
      | none => refuse s .badTable
      | some size => if size ≤ index.toNat then refuse s .badIndex else refuse s .readOnly := by
  rw [serveWriteReadOnly, writeBody_length, if_neg (by omega), wordAt_writeBody]
  rfl

theorem tableEntries_eq_none {t : Nat} (h : t = 0 ∨ 17 < t) : tableEntries t = none := by
  unfold tableEntries
  split
  case h_18 => rfl
  all_goals omega

/-- Settles O15, table by table. -/
theorem smallTableAndReadOnlyWrites : Obligations.SmallTableAndReadOnlyWrites := by
  unfold Obligations.SmallTableAndReadOnlyWrites
  refine ⟨fun s p => ⟨fun k hi lo ready => ?_, fun q b ready => ?_, fun q c g i ready outside => ?_,
      fun i m v ready => ?_, fun e size ready => ?_⟩,
    fun s p => ⟨fun body short ready => ?_, fun table index rest ready => ⟨fun outside => ?_, fun size fixed entries => ?_⟩,
      fun index e ready => ⟨fun other => ?_, fun size beyond => ?_⟩⟩⟩
  · have value : wordAt [hi, lo] 0 = hi.toNat * 256 + lo.toNat := rfl
    rw [exec_writeEntryProfile ready, serveWriteProfile, writeEntry_indexWord k (by decide) (by rfl)]
    simp only [acceptClamped_sentTo, value, bne_iff_ne, clampNat_ne (show 240 ≤ 9600 by decide)]
    rfl
  · rw [exec_writeEntryContactOut ready, serveWriteContactOut, writeEntry_indexWord q (by decide) b.entry_length,
      contactOutOf_entry]
    rfl
  · rw [exec_writeEntryContactOut ready, serveWriteContactOut, writeEntry_indexWord q (by decide) (by rfl),
      contactOutOf_eq_none outside]
    rfl
  · rw [exec_writeEntryPortRouting ready, serveWriteRouting, writeEntry_indexWord i (by decide) (by rfl),
      routingOf_maskOf]
    by_cases refused : m &&& 0xF80000#24 ≠ 0 ∨ 1 < v.toNat
    · simp only [if_pos refused, refuse_sentTo]
    · simp only [if_neg refused, accept_sentTo, State.storeRouting_eq]
  · have first : indexed 1 (0#16).toNat = some 0 := rfl
    rw [exec_writeEntrySystem ready, serveWriteSystem, writeEntry_of_some size first, systemOf]
    cases yesNo (natAt e 0) with
    | none => rfl
    | some external =>
      cases yesNo (natAt e 1) with
      | none => rfl
      | some silence => simp only [acceptClamped_sentTo, decide_eq_true_eq, State.storeSystem_eq]
  · have other : writableBody body = false := by
      simp only [writableBody, Bool.and_eq_false_iff, decide_eq_false_iff_not]
      omega
    rw [exec_writeEntryReadOnly ready other, serveWriteReadOnly, if_pos short]
    rfl
  · rw [exec_writeEntryReadOnly ready (writableBody_writeBody index rest (by omega)), serveWriteReadOnly_writeBody,
      tableEntries_eq_none outside]
    rfl
  · rw [exec_writeEntryReadOnly ready (writableBody_writeBody index rest (by omega)), serveWriteReadOnly_writeBody,
      entries]
    by_cases beyond : size ≤ index.toNat
    · simp only [if_pos beyond, refuse_sentTo]
    · simp only [if_neg beyond, refuse_sentTo]
  · rw [exec_writeEntryZone ready, serveWriteZone, writeEntry_of_length other]
    rfl
  · rw [exec_writeEntryZone ready, serveWriteZone, writeEntry_of_index size (indexed_eq_none.mpr beyond)]
    rfl

end Sys2Proof.Machine
end

section
/-! PROOFS. READ_ENTRY (R183) and the bytes of every entry (section 10.8). -/

namespace Sys2Proof.Machine

open Sys2Proof.Safety

variable {s : State} {p : Port}

/-! ### The entries that fit -/

/-- The entries shown are the first of those asked for, as many as fit and no fewer. -/
theorem fitting_eq_take (es : List (List Byte)) (room : Nat) : ∃ k, k ≤ es.length ∧ fitting es room = es.take k ∧
    (es.take k).flatten.length ≤ room ∧
    ∀ h : k < es.length, room < (es.take k).flatten.length + (es[k]).length := by
  induction es generalizing room with
  | nil => exact ⟨0, Nat.le_refl _, rfl, Nat.zero_le _, fun h => absurd h (Nat.lt_irrefl 0)⟩
  | cons e es ih =>
    by_cases fits : e.length ≤ room
    · obtain ⟨k, inside, shown, short, full⟩ := ih (room - e.length)
      refine ⟨k + 1, Nat.succ_le_succ inside, ?_, ?_, fun h => ?_⟩
      · rw [fitting, if_pos fits, shown, List.take_succ_cons]
      · rw [List.take_succ_cons, List.flatten_cons, List.length_append]
        omega
      · have := full (Nat.lt_of_succ_lt_succ h)
        simp only [List.take_succ_cons, List.flatten_cons, List.length_append, List.getElem_cons_succ]
        omega
    · exact ⟨0, Nat.zero_le _, by rw [fitting, if_neg fits, List.take_zero], Nat.zero_le _, fun _ => by
        simp only [List.take_zero, List.flatten_nil, List.length_nil, List.getElem_cons_zero]
        omega⟩

/-- The entries that a READ_ENTRY returns: a number of them from the first, no more than asked for and none past the
table's end, that fit in 244 bytes, and no fewer (R183). -/
theorem State.shownEntries_eq (s : State) (table first count size : Nat) (inside : first < size) : ∃ number,
    s.shownEntries table first count size = (List.range number).map (fun i => s.tableEntry table (first + i)) ∧
    number ≤ count ∧ first + number ≤ size ∧
    ((List.range number).map fun i => s.tableEntry table (first + i)).flatten.length ≤ 244 ∧
    (number < count → first + number < size →
      244 < ((List.range number).map fun i => s.tableEntry table (first + i)).flatten.length +
        (s.tableEntry table (first + number)).length) := by
  obtain ⟨k, within, shown, short, full⟩ :=
    fitting_eq_take ((List.range (min count (size - first))).map fun i => s.tableEntry table (first + i)) 244
  rw [List.length_map, List.length_range] at within
  have taken : ((List.range (min count (size - first))).map fun i => s.tableEntry table (first + i)).take k =
      (List.range k).map fun i => s.tableEntry table (first + i) := by
    rw [← List.map_take, List.take_range, Nat.min_eq_left within]
  rw [taken] at shown short full
  refine ⟨k, shown, by omega, by omega, short, fun fewer before => ?_⟩
  have := full (by rw [List.length_map, List.length_range]; omega)
  simpa using this

theorem wordAt_count (table : Byte) (first count : BitVec 16) :
    wordAt (table :: (wordOf first.toNat ++ wordOf count.toNat)) 3 = count.toNat := by
  have alone := wordAt_wordOf_append count.isLt []
  rwa [List.append_nil] at alone

section
variable (table : Byte) (first count : BitVec 16)

/-- The body of a READ_ENTRY. -/
abbrev readBody : List Byte := table :: (wordOf first.toNat ++ wordOf count.toNat)

theorem serveReadEntry_unknown (unknown : tableEntries table.toNat = none) :
    serveReadEntry (readBody table first count) s = refuse s .badTable := by
  have byte : natAt (readBody table first count) 0 = table.toNat := rfl
  rw [serveReadEntry, sized_of_length (by rfl), byte, unknown]

theorem serveReadEntry_known {size : Nat} (known : tableEntries table.toNat = some size) :
    serveReadEntry (readBody table first count) s =
      if size ≤ first.toNat then refuse s .badIndex
      else if count.toNat = 0 then refuse s .badValue
      else ⟨s, .ok, table :: (wordOf first.toNat ++
        byteOf (s.shownEntries table.toNat first.toNat count.toNat size).length ::
          (s.shownEntries table.toNat first.toNat count.toNat size).flatten)⟩ := by
  have byte : natAt (readBody table first count) 0 = table.toNat := rfl
  have from' : wordAt (readBody table first count) 1 = first.toNat :=
    wordAt_wordOf_append first.isLt (wordOf count.toNat)
  have asked : wordAt (readBody table first count) 3 = count.toNat := wordAt_count table first count
  rw [serveReadEntry, sized_of_length (by rfl), byte, known, from', asked]
  simp only [byteAt, List.getD_cons_zero]

end

/-! ### Fields -/

/-- The value of a bit of a byte. -/
abbrev bitValue (b : Bool) (k : Nat) : Nat := if b then 2 ^ k else 0

theorem flagOf_eq (b : Bool) : flagOf b = BitVec.ofNat 8 (bitValue b 0) := by cases b <;> rfl

theorem numberOf_eq {n : Nat} (x : Option (Fin n)) :
    numberOf x = BitVec.ofNat 8 ((x.map fun i => i.val + 1).getD 0) := by cases x <;> rfl

theorem levelOf_eq (l : Option Nat) : levelOf l = BitVec.ofNat 8 (l.getD 255) := by cases l <;> rfl

/-- A whole level is shown as it is (R80). -/
theorem wholeLevel_natCast (l : Nat) : wholeLevel (l : Rat) = l := by
  have : (⌊(l : Rat) + 1 / 2⌋) = (l : Int) := by
    rw [Int.floor_eq_iff]
    constructor <;> push_cast <;> linarith
  exact congrArg Int.toNat this

theorem bitValue_eq (b : Bool) (k : Nat) : bitValue b k = 2 ^ k * (if b then 1 else 0) := by cases b <;> simp

theorem bitsOf_five (a b c d e : Bool) : bitsOf [a, b, c, d, e] =
    BitVec.ofNat 8 (bitValue a 0 + bitValue b 1 + bitValue c 2 + bitValue d 3 + bitValue e 4) := by
  simp only [bitsOf, byteOf, List.foldr_cons, List.foldr_nil, bitValue_eq]
  congr 1
  ring

theorem bitsOf_six (a b c d e f : Bool) : bitsOf [a, b, c, d, e, f] = BitVec.ofNat 8
    (bitValue a 0 + bitValue b 1 + bitValue c 2 + bitValue d 3 + bitValue e 4 + bitValue f 5) := by
  simp only [bitsOf, byteOf, List.foldr_cons, List.foldr_nil, bitValue_eq]
  congr 1
  ring

/-! ### The entries -/

theorem indexed_val {n : Nat} (i : Fin n) : indexed n i.val = some i := indexed_of_lt i.isLt

theorem groupAt_pair (k : Arrangement) (g : Group) (h : k.val * 6 + g.val < 24) :
    groupAt ⟨k.val * 6 + g.val, h⟩ = (k, g) := by
  refine Prod.ext (Fin.ext ?_) (Fin.ext ?_) <;> simp only [groupAt] <;> omega

theorem membershipAt_zone (k : Arrangement) (j : Zone) (h : k.val * 40 + j.val < 160) :
    membershipAt ⟨k.val * 40 + j.val, h⟩ = (k, .inl j) := by
  have offset : (k.val * 40 + j.val) % 40 = j.val := by omega
  have arrangement : (k.val * 40 + j.val) / 40 = k.val := by omega
  simp only [membershipAt, offset, arrangement, j.isLt, dif_pos]

theorem membershipAt_channel (k : Arrangement) (n : Channel) (h : k.val * 40 + 24 + n.val < 160) :
    membershipAt ⟨k.val * 40 + 24 + n.val, h⟩ = (k, .inr n) := by
  have offset : (k.val * 40 + 24 + n.val) % 40 = 24 + n.val := by omega
  have arrangement : (k.val * 40 + 24 + n.val) / 40 = k.val := by omega
  simp only [membershipAt, offset, arrangement, show ¬24 + n.val < 24 by omega, dif_neg, not_false_eq_true,
    Nat.add_sub_cancel_left]

section
variable (s : State)

theorem State.tableEntry_station (k : Station) : s.tableEntry 1 k.val = (s.settings.stations.get k).entry := by
  simp only [State.tableEntry, indexed_val, Option.map_some, Option.getD_some]
theorem State.tableEntry_zone (k : Zone) : s.tableEntry 2 k.val = (s.settings.zones.get k).entry := by
  simp only [State.tableEntry, indexed_val, Option.map_some, Option.getD_some]
theorem State.tableEntry_channel (k : Channel) : s.tableEntry 3 k.val = (s.settings.channels.get k).entry := by
  simp only [State.tableEntry, indexed_val, Option.map_some, Option.getD_some]
theorem State.tableEntry_profile (k : Profile) : s.tableEntry 6 k.val = wordOf (s.settings.profiles.get k) := by
  simp only [State.tableEntry, indexed_val, Option.map_some, Option.getD_some]
theorem State.tableEntry_contactIn (k : ContactIn) : s.tableEntry 7 k.val = (s.settings.contactIn.get k).entry := by
  simp only [State.tableEntry, indexed_val, Option.map_some, Option.getD_some]
theorem State.tableEntry_contactOut (k : ContactOut) : s.tableEntry 8 k.val = (s.settings.contactOut.get k).entry := by
  simp only [State.tableEntry, indexed_val, Option.map_some, Option.getD_some]
theorem State.tableEntry_channelState (k : Channel) : s.tableEntry 13 k.val = s.channelStateEntry k := by
  simp only [State.tableEntry, indexed_val, Option.map_some, Option.getD_some]
theorem State.tableEntry_zoneState (k : Zone) : s.tableEntry 14 k.val = (s.zones.get k).entry := by
  simp only [State.tableEntry, indexed_val, Option.map_some, Option.getD_some]
theorem State.tableEntry_groupState (k : Group) : s.tableEntry 15 k.val = (s.groups.get k).entry := by
  simp only [State.tableEntry, indexed_val, Option.map_some, Option.getD_some]
theorem State.tableEntry_socketState (k : Channel) : s.tableEntry 16 k.val = (s.sockets.get k).entry := by
  simp only [State.tableEntry, indexed_val, Option.map_some, Option.getD_some]

end

theorem State.tableEntry_group (k : Arrangement) (g : Group) :
    s.tableEntry 4 (k.val * 6 + g.val) = ((s.settings.groups.get k).get g).entry := by
  have inside : k.val * 6 + g.val < 24 := by omega
  simp only [State.tableEntry, indexed_of_lt inside, Option.map_some, Option.getD_some, groupAt_pair]

theorem State.tableEntry_zoneGroup (k : Arrangement) (j : Zone) :
    s.tableEntry 5 (k.val * 40 + j.val) = [numberOf ((s.settings.zoneGroups.get k).get j)] := by
  have inside : k.val * 40 + j.val < 160 := by omega
  simp only [State.tableEntry, indexed_of_lt inside, Option.map_some, Option.getD_some, membershipAt_zone,
    Settings.membership]

theorem State.tableEntry_channelGroup (k : Arrangement) (n : Channel) :
    s.tableEntry 5 (k.val * 40 + 24 + n.val) = [numberOf ((s.settings.channelGroups.get k).get n)] := by
  have inside : k.val * 40 + 24 + n.val < 160 := by omega
  simp only [State.tableEntry, indexed_of_lt inside, Option.map_some, Option.getD_some, membershipAt_channel,
    Settings.membership]

theorem State.tableEntry_routing (i : Fin 3) : s.tableEntry 9 i.val = (s.settings.routing.get (portAt i)).entry := by
  fin_cases i <;> rfl

theorem State.tableEntry_proximity (i : Fin 64) : s.tableEntry 11 i.val = [byteOf (proximityTable.getD i.val 0)] := by
  have inside : i.val < proximityTable.length := i.isLt
  simp only [State.tableEntry, List.getElem?_append_left inside, List.getD_eq_getElem?_getD,
    List.getElem?_eq_getElem inside, Option.map_some, Option.getD_some]

theorem State.tableEntry_openCount (s : State) (i : Fin 8) : s.tableEntry 11 (64 + i.val) = [byteOf (nom (i.val + 1))] := by
  fin_cases i <;> rfl

theorem State.tableEntry_crosspoint (n : Channel) (j : Zone) :
    s.tableEntry 12 (n.val * 24 + j.val) = ((s.crosspoints.get n).get j).entry := by
  have inside : n.val * 24 + j.val < 384 := by omega
  have row : (n.val * 24 + j.val) / 24 = n.val := by omega
  have column : (n.val * 24 + j.val) % 24 = j.val := by omega
  simp only [State.tableEntry, dif_pos inside, row, column]

/-- An ineligibility cause of a socket that is not ready (R134). -/
theorem SocketPhase.ready_eq (ph : SocketPhase) : (!ph.ready) = decide ¬SocketReady ph := by
  cases ph with
  | present c => cases c <;> rfl
  | _ => simp [SocketPhase.ready]

theorem ZoneRec.entry_eq (z : ZoneRec) : z.entry = z.speaker.bytes ++ z.listening.bytes ++ wordOf z.precedence ++
    wordOf z.nearRadius ++ wordOf z.guardRadius ++
      [byteOf z.trim, byteOf (z.profile.val + 1), BitVec.ofNat 8 (bitValue z.member 0)] := by
  rw [ZoneRec.entry, flagOf_eq]

theorem ChannelRec.entry_eq (c : ChannelRec) : c.entry = wordOf c.start ++ wordOf c.length ++
    [BitVec.ofNat 8 ((c.home.map fun k => k.val + 1).getD 0), byteOf c.threshold] ++ wordOf c.holdTime ++
      [c.defaultMode.code, BitVec.ofNat 8 (bitValue c.autoPower 0)] := by
  rw [ChannelRec.entry, flagOf_eq, numberOf_eq]

theorem GroupRec.entry_eq (r : GroupRec) : r.entry = [BitVec.ofNat 8 (bitValue r.enabled 0), byteOf r.master,
    byteOf r.maxOpen, BitVec.ofNat 8 (bitValue r.lastHold 0)] := by
  rw [GroupRec.entry, flagOf_eq, flagOf_eq]

theorem State.systemEntry_eq (s : State) : s.systemEntry = [BitVec.ofNat 8 (bitValue s.settings.system.external 0),
    BitVec.ofNat 8 (bitValue s.settings.system.autoSilence 0), byteOf s.settings.system.overrideAttenuation,
    BitVec.ofNat 8 (bitValue s.frozen 0), byteOf (s.settings.active.val + 1)] := by
  rw [State.systemEntry, flagOf_eq, flagOf_eq, flagOf_eq]

theorem ZoneState.entry_eq (z : ZoneState) : z.entry = [BitVec.ofNat 8 (bitValue z.requestMute 0 +
    bitValue z.contactMute 1 + bitValue z.clock 2 + bitValue z.standby 3 + bitValue z.overrideLatch 4),
    BitVec.ofNat 8 (bitValue z.taken 0), if z.requestMute = false ∧ z.contactMute = false ∧ z.clock = false ∧
      z.standby = false ∧ z.overrideLatch = false ∧ z.taken = false then 1 else 0] := by
  have audible : flagOf z.audible = if z.requestMute = false ∧ z.contactMute = false ∧ z.clock = false ∧
      z.standby = false ∧ z.overrideLatch = false ∧ z.taken = false then 1 else 0 := by
    simp only [flagOf, ZoneState.audible, ZoneState.silenced, Bool.and_eq_true, Bool.not_eq_true', Bool.or_eq_false_iff,
      and_assoc]
  rw [ZoneState.entry, bitsOf_five, flagOf_eq, audible]

theorem Socket.entry_eq (x : Socket) : x.entry = [x.phase.code, classCode x.phase.sensedClass, flagOf x.phase.ready] ++
    [BitVec.ofNat 8 (bitValue x.wish 0), BitVec.ofNat 8 (bitValue x.suppressed 0),
      BitVec.ofNat 8 (bitValue x.presence 0)] := by
  rw [Socket.entry, flagOf_eq x.wish, flagOf_eq x.suppressed, flagOf_eq x.presence]
  rfl

theorem ContactBinding.entry_eq (b : ContactBinding) :
    b.entry = b.action.bytes ++ [BitVec.ofNat 8 (bitValue b.activeOpen 0)] ++ wordOf b.debounceMs := by
  rw [ContactBinding.entry, flagOf_eq]

theorem OutBinding.entry_eq (b : OutBinding) : b.entry = b.condition.bytes ++ [BitVec.ofNat 8 (bitValue b.inverted 0)] := by
  rw [OutBinding.entry, flagOf_eq]

theorem GroupState.entry_eq (x : GroupState) : x.entry = [holderCode x.holder, byteOf x.members.length] ++
    (x.members.map fun m => [byteOf (m.channel.val + 1), if m.kind = .forced then 1 else 0, byteOf m.latest]).flatten ++
    [byteOf x.waiting.length] ++ x.waiting.map fun n : Channel => byteOf (n.val + 1) := by
  have bytes (m : Member) :
      m.bytes = [byteOf (m.channel.val + 1), if m.kind = .forced then 1 else 0, byteOf m.latest] := by
    cases h : m.kind <;> simp [Member.bytes, h]
  rw [GroupState.entry, List.flatMap_def, GroupState.openCount]
  simp only [funext bytes]

/-- A CROSSPOINT entry with its flags and its levels as numbers (R80). -/
theorem Crosspoint.entry_eq (x : Crosspoint) : x.entry =
    [x.phase.code] ++ wordOf x.activeDelay ++ [levelOf (x.phase.activeLevel.map wholeLevel)] ++
      wordOf x.computedDelay ++ [BitVec.ofNat 8 (x.computedLevel.getD 255), byteOf x.proximity,
        BitVec.ofNat 8 (bitValue x.clampedLow 0 + bitValue x.clampedHigh 1 + bitValue x.guarded 2 +
          (bitValue x.phase.outgoing.isSome 3 + bitValue x.phase.pendingDelay.isSome 4 + bitValue x.phase.fade.isSome 5)),
        BitVec.ofNat 8 (x.target.getD 255)] ++
      (wordOf ((x.phase.outgoing.map fun o => o.1).getD 0) ++
        [byteOf ((x.phase.outgoing.map fun o => wholeLevel o.2).getD 0)] ++ wordOf (x.phase.pendingDelay.getD 0) ++
        wordOf ((x.phase.fade.map fun f => f.1).getD 0) ++ wordOf ((x.phase.fade.map fun f => f.2).getD 0)) := by
  rw [Crosspoint.entry, bitsOf_six, levelOf_eq x.computedLevel, levelOf_eq x.target]
  simp only [List.append_assoc, Nat.add_assoc]

/-- The group of a channel is disabled, where it has one (R85, log 30). -/
theorem State.causes_groupDisabled (s : State) (n : Channel) : (s.causes n).groupDisabled = decide
    (∃ h, s.settings.channelGroup n = some h ∧ (s.settings.groupRecord h).enabled = false) := by
  cases group : s.settings.channelGroup n with
  | none => simp [State.causes, group]
  | some g =>
    cases enabled : (s.settings.groupRecord g).enabled <;> simp [State.causes, group, enabled]

/-- The six causes, each by its condition (R85). -/
theorem State.causes_byte (s : State) (n : Channel) : (s.causes n).byte =
    BitVec.ofNat 8 (bitValue (decide (s.settings.channelGroup n = none)) 0 +
      bitValue (decide (∃ h, s.settings.channelGroup n = some h ∧ (s.settings.groupRecord h).enabled = false)) 1 +
      bitValue (decide ((s.gates.get n).station = none)) 2 +
      bitValue (decide ((s.settings.channels.get n).length = 0)) 3 +
      bitValue (decide (¬SocketReady (s.sockets.get n).phase)) 4 + bitValue s.standby 5) := by
  have group : (s.causes n).noGroup = decide (s.settings.channelGroup n = none) := by
    rw [Bool.eq_iff_iff, decide_eq_true_eq]; exact Option.isNone_iff_eq_none
  have station : (s.causes n).noStation = decide ((s.gates.get n).station = none) := by
    rw [Bool.eq_iff_iff, decide_eq_true_eq]; exact Option.isNone_iff_eq_none
  have window : (s.causes n).noWindow = decide ((s.settings.channels.get n).length = 0) := beq_eq_decide _ _
  have socket : (s.causes n).socketNotReady = decide ¬SocketReady (s.sockets.get n).phase := SocketPhase.ready_eq _
  rw [Causes.byte, bitsOf_six, group, s.causes_groupDisabled, station, window, socket]
  rfl

theorem State.channelStateEntry_eq (s : State) (n : Channel) : s.channelStateEntry n =
    [(s.gates.get n).state.code, (s.gates.get n).mode.code, (s.gates.get n).portMode.code,
      BitVec.ofNat 8 (((s.gates.get n).station.map fun k => k.val + 1).getD 0), byteOf (s.gates.get n).latest] ++
    wordOf (s.gates.get n).holdCounter ++ [BitVec.ofNat 8 (
      bitValue (decide (s.settings.channelGroup n = none)) 0 +
      bitValue (decide (∃ h, s.settings.channelGroup n = some h ∧ (s.settings.groupRecord h).enabled = false)) 1 +
      bitValue (decide ((s.gates.get n).station = none)) 2 +
      bitValue (decide ((s.settings.channels.get n).length = 0)) 3 +
      bitValue (decide (¬SocketReady (s.sockets.get n).phase)) 4 + bitValue s.standby 5),
      BitVec.ofNat 8 (bitValue (s.engine.aligned.get n) 0), numberOf (memberGroup s.groups n)] := by
  rw [State.channelStateEntry, numberOf_eq (s.gates.get n).station, s.causes_byte, flagOf_eq]

/-- The group in whose set a channel is shown (R101). -/
theorem memberGroup_of_holds {groups : Table 6 GroupState} {n : Channel} {g : Group}
    (holds : (groups.get g).holds n = true) (alone : ∀ h, (groups.get h).holds n = true → h = g) :
    memberGroup groups n = some g := by
  refine memberGroup_eq_some ((GroupState.holds_iff ..).mp holds) fun h mem => alone h ((GroupState.holds_iff ..).mpr mem)

/-! ### The ALIGNED flags -/

theorem cells_eq_map {n : Nat} {α : Type} (t : Table n α) : t.cells = (List.finRange n).map t.get := by
  refine List.ext_getElem (by simp [t.size]) fun i h _ => ?_
  simp [Table.get]

/-- The number whose bits these are, the lowest first. -/
def flagsValue (bs : List Bool) : Nat := bs.foldr (fun b v => 2 * v + if b then 1 else 0) 0

theorem bitsOf_eq (bs : List Bool) : bitsOf bs = byteOf (flagsValue bs) := rfl

theorem flagsValue_cons (b : Bool) (bs : List Bool) : flagsValue (b :: bs) = 2 * flagsValue bs + bitValue b 0 := by
  cases b <;> rfl

theorem flagsValue_append (as bs : List Bool) : flagsValue (as ++ bs) = flagsValue as + 2 ^ as.length * flagsValue bs := by
  induction as with
  | nil => simp [flagsValue]
  | cons a as ih => rw [List.cons_append, flagsValue_cons, flagsValue_cons, ih, List.length_cons]; ring

theorem flagsValue_lt (bs : List Bool) : flagsValue bs < 2 ^ bs.length := by
  induction bs with
  | nil => decide
  | cons b bs ih =>
    have : bitValue b 0 ≤ 1 := by cases b <;> decide
    rw [flagsValue_cons, List.length_cons, Nat.pow_succ]
    omega

/-- The bits of a run of flags add up to its number. -/
theorem sum_bitValue (n : Nat) (f : Fin n → Bool) :
    ((List.finRange n).map fun i => bitValue (f i) i.val).sum = flagsValue ((List.finRange n).map f) := by
  induction n with
  | zero => rfl
  | succ n ih =>
    have shifted (i : Fin n) : bitValue (f i.succ) i.succ.val = 2 * bitValue (f i.succ) i.val := by
      rw [bitValue_eq, bitValue_eq, Fin.val_succ, Nat.pow_succ]; ring
    simp only [List.finRange_succ, List.map_cons, List.map_map, List.sum_cons, Function.comp_def, shifted,
      List.sum_map_mul_left, ih fun i => f i.succ, flagsValue_cons]
    exact Nat.add_comm _ _

/-- The sixteen flags as the two bytes of one word, the flag of M1 its lowest bit (section 10.8). -/
theorem bitsOf_flags (t : Table 16 Bool) : [bitsOf (t.cells.drop 8), bitsOf (t.cells.take 8)] =
    wordOf ((List.finRange 16).map fun n : Channel => bitValue (t.get n) n.val).sum := by
  have low := flagsValue_lt (t.cells.take 8)
  have size : (t.cells.take 8).length = 8 := by rw [List.length_take, t.size]; rfl
  have whole := flagsValue_append (t.cells.take 8) (t.cells.drop 8)
  rw [List.take_append_drop, size] at whole
  rw [size] at low
  rw [sum_bitValue, ← cells_eq_map, whole, wordOf, bitsOf_eq, bitsOf_eq]
  congr 1
  · congr 1
    omega
  · congr 1
    simp only [byteOf, BitVec.toNat_eq, BitVec.toNat_ofNat]
    omega

theorem Engine.entry_eq (e : Engine) : e.entry = (match e.flight with
      | none => [0, 0, 0]
      | some f => 1 :: f.item.code) ++ [byteOf e.queue.length] ++ e.queue.flatMap Item.code ++ intOf e.reported ++
    intOf e.inUse ++ [BitVec.ofNat 8 (bitValue e.tempUnset 0)] ++
    wordOf ((List.finRange 16).map fun n : Channel => bitValue (e.aligned.get n) n.val).sum := by
  rw [Engine.entry, bitsOf_flags, flagOf_eq e.tempUnset]
  cases e.flight <;> rfl

/-! ### The statement -/

/-- Settles O17: which entries are shown, how many each table has, and the bytes of each entry. -/
theorem readEntryReturns : Obligations.ReadEntryReturns := by
  unfold Obligations.ReadEntryReturns
  refine ⟨fun s p table first count => ?_, ⟨rfl, fun k h => tableEntries_eq_none (.inr h)⟩, fun s => ?_⟩
  · intro body ready
    refine ⟨fun unknown => ?_, fun size known => ⟨fun beyond => ?_, fun inside none => ?_, fun inside some => ?_⟩⟩
    · rw [exec_readEntry ready, serveReadEntry_unknown table first count unknown]; rfl
    · rw [exec_readEntry ready, serveReadEntry_known table first count known, if_pos beyond]; rfl
    · rw [exec_readEntry ready, serveReadEntry_known table first count known, if_neg (Nat.not_le_of_lt inside),
        if_pos none]
      rfl
    · obtain ⟨number, shown, within, before, short, full⟩ :=
        s.shownEntries_eq table.toNat first.toNat count.toNat size inside
      refine ⟨number, ?_, within, before, short, full⟩
      rw [exec_readEntry ready, serveReadEntry_known table first count known, if_neg (Nat.not_le_of_lt inside),
        if_neg some, shown, List.length_map, List.length_range]
      rfl
  · refine ⟨fun k => ?_, fun j => ?_, fun n => ?_, fun k g => ?_, fun k => ⟨fun j => ?_, fun n => ?_⟩, fun k => ?_,
      fun k => ?_, fun q => ?_, fun i => ?_, ?_, s.tableEntry_proximity, s.tableEntry_openCount, fun n j => ?_,
      fun n => ?_, fun j => ?_, fun g => ?_, fun n => ?_, ?_⟩
    · exact s.tableEntry_station k
    · exact (s.tableEntry_zone j).trans (ZoneRec.entry_eq _)
    · refine (s.tableEntry_channel n).trans ((ChannelRec.entry_eq _).trans ?_)
      cases (s.settings.channels.get n).defaultMode <;> rfl
    · exact (s.tableEntry_group k g).trans (GroupRec.entry_eq _)
    · rw [s.tableEntry_zoneGroup, numberOf_eq]
    · rw [s.tableEntry_channelGroup, numberOf_eq]
    · exact s.tableEntry_profile k
    · refine (s.tableEntry_contactIn k).trans ((ContactBinding.entry_eq _).trans ?_)
      cases (s.settings.contactIn.get k).action with
      | move n st => rw [ContactAction.bytes, numberOf_eq] <;> rfl
      | _ => rfl
    · refine (s.tableEntry_contactOut q).trans ((OutBinding.entry_eq _).trans ?_)
      cases (s.settings.contactOut.get q).condition <;> rfl
    · refine (s.tableEntry_routing i).trans ?_
      cases mode : (s.settings.routing.get (portAt i)).mode <;> simp only [Routing.entry, mode] <;> rfl
    · exact (show s.tableEntry 10 0 = s.systemEntry from rfl).trans s.systemEntry_eq
    · refine (s.tableEntry_crosspoint n j).trans ((Crosspoint.entry_eq _).trans ?_)
      cases phase : ((s.crosspoints.get n).get j).phase with
      | silent =>
        simp only [Phase.outgoing, Phase.pendingDelay, Phase.fade, Phase.activeLevel, Option.map_none,
          Option.getD_none] <;> rfl
      | steady l =>
        simp only [Phase.outgoing, Phase.pendingDelay, Phase.fade, Phase.activeLevel, Option.map_none,
          Option.map_some, Option.getD_none, wholeLevel_natCast] <;> rfl
      | ramping l len rem =>
        simp only [Phase.outgoing, Phase.pendingDelay, Phase.fade, Phase.activeLevel, Option.map_none,
          Option.map_some, Option.getD_none, Option.getD_some] <;> rfl
      | crossfading l d ol q len rem =>
        cases q <;>
          simp only [Phase.outgoing, Phase.pendingDelay, Phase.fade, Phase.activeLevel, Option.map_some,
            Option.getD_none, Option.getD_some] <;> rfl
    · refine ⟨numberOf (memberGroup s.groups n), (s.tableEntry_channelState n).trans ((s.channelStateEntry_eq n).trans ?_),
        fun outside => ?_, fun apart h holds => ?_⟩
      · cases (s.gates.get n).state <;> cases (s.gates.get n).mode <;> cases (s.gates.get n).portMode <;> rfl
      · have : memberGroup s.groups n = none := by
          rw [← Option.not_isSome_iff_eq_none, memberGroup_isSome]
          exact fun ⟨g, h⟩ => absurd h (Bool.eq_false_iff.mp (outside g))
        rw [this] <;> rfl
      · rw [memberGroup_of_holds holds fun k other => apart.2 k h n other holds] <;> rfl
    · exact (s.tableEntry_zoneState j).trans (ZoneState.entry_eq _)
    · refine (s.tableEntry_groupState g).trans ((GroupState.entry_eq _).trans ?_)
      cases (s.groups.get g).holder with
      | none => rfl
      | some q => cases q <;> rfl
    · refine (s.tableEntry_socketState n).trans ((Socket.entry_eq _).trans ?_)
      cases (s.sockets.get n).phase with
      | present c => cases c <;> rfl
      | _ => rfl
    · have shown : s.tableEntry 17 0 = s.engine.entry := rfl
      refine shown.trans ((Engine.entry_eq _).trans ?_)
      have code (i : Item) : i.code = match i with
          | .channel n => [1, BitVec.ofNat 8 (n.val + 1)]
          | .group g => [2, BitVec.ofNat 8 (g.val + 1)]
          | .all => [3, 0] := by cases i <;> rfl
      rw [List.flatMap_def, show Item.code = _ from funext code]
      cases s.engine.flight with
      | none => rfl
      | some f => cases f <;> rfl

end Sys2Proof.Machine
end

section
/-! PROOFS. The live test and what a crosspoint does (R62 to R75). -/

namespace Sys2Proof.Machine

open Sys2Proof.Safety

/-- The live test, condition by condition (R62, R144). -/
theorem State.live_iff {s : State} {n : Channel} {j : Zone} : s.live n j = true ↔
    ∃ g, (∃ m ∈ (s.groups.get g).members, m.channel = n) ∧ s.settings.zoneGroup j = some g ∧
      (s.zones.get j).requestMute = false ∧ (s.zones.get j).contactMute = false ∧ (s.zones.get j).clock = false ∧
      (s.zones.get j).standby = false ∧ (s.zones.get j).overrideLatch = false ∧ (s.zones.get j).taken = false ∧
      s.standby = false := by
  cases group : s.settings.zoneGroup j with
  | none => simp [State.live, group]
  | some g =>
    simp only [State.live, group, Bool.and_eq_true, GroupState.holds_iff, Bool.not_eq_true', ZoneState.silenced,
      Bool.or_eq_false_iff, and_assoc, Option.some.injEq]
    constructor
    · rintro ⟨mem, rest⟩
      exact ⟨g, mem, rfl, rest⟩
    · rintro ⟨_, mem, rfl, rest⟩
      exact ⟨mem, rest⟩

/-- A new target, in each state (R64, R69). -/
theorem Crosspoint.retarget_new {x : Crosspoint} {t : Option Nat} (law : PhaseLaw x.target x.phase) (new : t ≠ x.target)
    (len : Nat) : x.retarget len t = { x with
      target := t
      phase := match x.phase with
        | .silent => .ramping 160 len len
        | .steady l => .ramping l len len
        | .ramping l _ _ => .ramping l len len
        | .crossfading l d ol q fl rem => .crossfading l d ol q fl rem } := by
  rw [Crosspoint.retarget, if_neg new]
  cases phase : x.phase with
  | silent =>
    rw [phase] at law
    have on : ¬t.isNone = true := by rw [Option.isNone_iff_eq_none]; exact fun off => new (off.trans law.symm)
    rw [Phase.react, if_neg on]
  | steady l =>
    rw [phase] at law
    have other : t ≠ some l := fun same => new (same.trans law.symm)
    rw [Phase.react, if_neg other]
  | ramping l len' rem => rfl
  | crossfading l d ol q fl rem => rfl

/-- No fade is longer than 240 samples after a CLOCK or STANDBY event, and one that begins there has that length (R74). -/
theorem Crosspoint.retargetClock_ramping {x : Crosspoint} {t : Option Nat} {l : Rat} {fl rem : Nat}
    (h : (x.retargetClock t).phase = .ramping l fl rem) : rem ≤ 240 ∧ (t ≠ x.target → fl = 240) := by
  rw [Crosspoint.retargetClock] at h
  by_cases same : t = x.target
  · rw [Crosspoint.retarget_of_same _ same] at h
    refine ⟨?_, fun new => absurd same new⟩
    cases phase : x.phase <;> rw [phase] at h <;> cases h
    exact Nat.min_le_left _ _
  · rw [Crosspoint.retarget, if_neg same] at h
    cases phase : x.phase <;> rw [phase] at h
    case silent =>
      cases t with
      | none => cases h
      | some a => cases h; exact ⟨Nat.min_le_left _ _, fun _ => rfl⟩
    case steady k =>
      by_cases level : t = some k
      · rw [Phase.react, if_pos level] at h
        cases h
      · rw [Phase.react, if_neg level] at h
        cases h
        exact ⟨Nat.min_le_left _ _, fun _ => rfl⟩
    case ramping => cases h; exact ⟨Nat.min_le_left _ _, fun _ => rfl⟩
    case crossfading => cases h

/-- A crossfade goes on under a new target, and is shortened at a CLOCK or STANDBY event (R69, R74). -/
theorem Crosspoint.retargetClock_crossfading {x : Crosspoint} {t : Option Nat} {l ol : Rat} {d fl rem : Nat}
    {q : Option Nat} (h : x.phase = .crossfading l d ol q fl rem) :
    (x.retargetClock t).phase = .crossfading l d ol q fl (min 240 rem) := by
  rw [Crosspoint.retargetClock, Crosspoint.retarget]
  by_cases same : t = x.target
  · rw [if_pos same, h]; rfl
  · rw [if_neg same, h]; rfl

/-! ### The delivery of a full result (R53, R66) -/

/-- The fields that a result writes before its delay is handled (R53). -/
def Crosspoint.written (r : Result) (x : Crosspoint) : Crosspoint :=
  { x with
    computedDelay := r.delay.getD x.computedDelay
    computedLevel := r.level
    proximity := r.proximity
    clampedLow := r.clampedLow
    clampedHigh := r.clampedHigh
    guarded := r.guarded }

/-- The crosspoint after its delay, if the result carries one, and before its target (R66). -/
def Crosspoint.moved (len : Nat) (r : Result) (x : Crosspoint) : Crosspoint :=
  r.delay.elim (x.written r) fun d => (x.written r).deliverDelay len d

theorem Crosspoint.deliver_eq (live : Bool) (len : Nat) (r : Result) (x : Crosspoint) :
    x.deliver live len r = (x.moved len r).retarget len (if live then r.level else none) := by
  cases delay : r.delay with
  | none => rw [Crosspoint.moved, delay, Crosspoint.deliver, delay, Option.elim_none, Crosspoint.written, delay]
  | some d => rw [Crosspoint.moved, delay, Crosspoint.deliver, delay, Option.elim_some, Crosspoint.written, delay]

/-- A re-evaluation writes the target and the phase alone. -/
theorem Crosspoint.retarget_eq (len : Nat) (t : Option Nat) (x : Crosspoint) :
    x.retarget len t = { x with target := t, phase := if t = x.target then x.phase else x.phase.react len t } := by
  rw [Crosspoint.retarget]
  split
  case isTrue same => rw [same]
  case isFalse => rfl

/-- A delivered delay moves the active delay and the phase alone. -/
theorem Crosspoint.deliverDelay_eq (len d : Nat) (x : Crosspoint) : ∃ active phase,
    x.deliverDelay len d = { x with activeDelay := active, phase := phase } := by
  unfold Crosspoint.deliverDelay
  split
  · exact ⟨_, _, rfl⟩
  · split <;> exact ⟨_, _, rfl⟩
  · split <;> exact ⟨_, _, rfl⟩
  · exact ⟨_, _, rfl⟩

/-- A delivery writes the fields of the result, the active delay, the target and the phase. -/
theorem Crosspoint.deliver_fields (live : Bool) (len : Nat) (r : Result) (x : Crosspoint) : ∃ active phase,
    x.deliver live len r = { x.written r with
      activeDelay := active, phase := phase, target := if live then r.level else none } := by
  rw [Crosspoint.deliver_eq, Crosspoint.retarget_eq, Crosspoint.moved]
  cases r.delay with
  | none => exact ⟨_, _, rfl⟩
  | some d =>
    obtain ⟨active, phase, h⟩ := (x.written r).deliverDelay_eq len d
    rw [Option.elim_some, h]
    exact ⟨_, _, rfl⟩

section
variable {x : Crosspoint} {r : Result} {d len : Nat}

theorem Crosspoint.moved_some (h : r.delay = some d) : x.moved len r = (x.written r).deliverDelay len d := by
  rw [Crosspoint.moved, h, Option.elim_some]

/-- What a delivery with a delay makes of a SILENT crosspoint (R66). -/
theorem Crosspoint.moved_silent (h : r.delay = some d) (phase : x.phase = .silent) :
    x.moved len r = { x.written r with activeDelay := d } := by
  rw [Crosspoint.moved_some h, Crosspoint.deliverDelay]
  simp only [Crosspoint.written, phase]

/-- One tap at another delay begins a crossfade to the new one (R66, R67). -/
theorem Crosspoint.moved_steady (h : r.delay = some d) {l : Nat} (phase : x.phase = .steady l) : x.moved len r =
    if d = x.activeDelay then x.written r
    else { x.written r with phase := .crossfading 160 x.activeDelay l none len len, activeDelay := d } := by
  rw [Crosspoint.moved_some h, Crosspoint.deliverDelay]
  simp only [Crosspoint.written, phase, Crosspoint.beginCrossfade]

theorem Crosspoint.moved_ramping (h : r.delay = some d) {l : Rat} {fl rem : Nat} (phase : x.phase = .ramping l fl rem) :
    x.moved len r = if d = x.activeDelay then x.written r
      else { x.written r with phase := .crossfading 160 x.activeDelay l none len len, activeDelay := d } := by
  rw [Crosspoint.moved_some h, Crosspoint.deliverDelay]
  simp only [Crosspoint.written, phase, Crosspoint.beginCrossfade]

/-- A crossfade in progress holds the new delay as pending (R66). -/
theorem Crosspoint.moved_crossfading (h : r.delay = some d) {l ol : Rat} {od fl rem : Nat} {q : Option Nat}
    (phase : x.phase = .crossfading l od ol q fl rem) :
    x.moved len r = { x.written r with phase := .crossfading l od ol (some d) fl rem } := by
  rw [Crosspoint.moved_some h, Crosspoint.deliverDelay]
  simp only [Crosspoint.written, phase]

/-- A crossfade takes a new target with no change of its fade (R69). -/
theorem Phase.react_crossfading (t old : Option Nat) (l ol : Rat) (od fl rem : Nat) (q : Option Nat) :
    (if t = old then Phase.crossfading l od ol q fl rem else (Phase.crossfading l od ol q fl rem).react len t) =
      .crossfading l od ol q fl rem := ite_self _

end

/-- A crosspoint seized keeps its active delay but for a pending one that it takes (R75). -/
theorem Crosspoint.seize_eq (x : Crosspoint) : x.seize = { x with
    phase := .silent, target := none, activeDelay := match x.phase with
      | .crossfading _ _ _ (some d) _ _ => d
      | _ => x.activeDelay } := by
  unfold Crosspoint.seize
  cases x.phase with
  | crossfading _ _ _ q => cases q <;> rfl
  | _ => rfl

/-- Settles O34. -/
theorem crosspointsReact : Obligations.CrosspointsReact := by
  unfold Obligations.CrosspointsReact
  refine ⟨fun s n j => ⟨State.live_iff, fun x => ⟨fun live => ?_, fun dead => ?_⟩, rfl⟩,
    fun x len t law => ⟨fun same => Crosspoint.retarget_of_same len same, fun new => ?_, Crosspoint.retarget_target _ _ _,
      fun l fl rem => Crosspoint.retargetClock_ramping, fun l d ol q fl rem => Crosspoint.retargetClock_crossfading, ?_⟩,
    fun x live len r law => ?_⟩
  · rw [State.targetOf, if_pos live]
  · rw [State.targetOf, dead, if_neg Bool.false_ne_true]
  · exact Crosspoint.retarget_new law new len
  · exact x.seize_eq
  · obtain ⟨active, phase, delivered⟩ := x.deliver_fields live len r
    have target : (x.deliver live len r).target = if live then r.level else none := by rw [delivered]
    have eq := x.deliver_eq live len r
    generalize (if live = true then r.level else none) = t at target eq ⊢
    rw [Crosspoint.retarget_eq] at eq
    refine ⟨by rw [delivered]; rfl, by rw [delivered]; rfl, by rw [delivered]; rfl, by rw [delivered]; rfl,
      by rw [delivered]; rfl, target, fun absent => ⟨?_, ?_⟩, fun d carried => ⟨?_, ?_⟩⟩
    · rw [delivered]; simp [Crosspoint.written, absent]
    · rw [eq, Crosspoint.moved, absent]; rfl
    · rw [delivered]; simp [Crosspoint.written, carried]
    · rw [target]
      cases was : x.phase with
      | silent =>
        rw [was] at law
        rw [Crosspoint.moved_silent carried was] at eq
        have old : x.target = none := law
        rw [eq]
        refine ⟨rfl, ?_⟩
        cases t <;> simp [Crosspoint.written, old, was, Phase.react]
      | steady l =>
        rw [was] at law
        rw [Crosspoint.moved_steady carried was] at eq
        have old : x.target = some l := law
        by_cases kept : d = x.activeDelay
        · rw [if_pos kept] at eq
          rw [eq]
          simp only [if_pos kept]
          refine ⟨kept.symm, ?_⟩
          by_cases same : t = some l <;> simp [Crosspoint.written, old, was, Phase.react, same]
        · rw [if_neg kept] at eq
          rw [eq]
          simp only [if_neg kept]
          exact ⟨trivial, Phase.react_crossfading ..⟩
      | ramping l fl rem =>
        rw [Crosspoint.moved_ramping carried was] at eq
        by_cases kept : d = x.activeDelay
        · rw [if_pos kept] at eq
          rw [eq]
          simp only [if_pos kept]
          refine ⟨kept.symm, ?_⟩
          by_cases same : t = x.target <;> simp [Crosspoint.written, was, Phase.react, same]
        · rw [if_neg kept] at eq
          rw [eq]
          simp only [if_neg kept]
          exact ⟨trivial, Phase.react_crossfading ..⟩
      | crossfading l od ol q fl rem =>
        rw [Crosspoint.moved_crossfading carried was] at eq
        rw [eq]
        exact ⟨rfl, Phase.react_crossfading ..⟩

end Sys2Proof.Machine
end

section
/-! PROOFS. The items of the alignment engine: their start, their being overtaken, and the levels of a GROUP item
(R35, R46 to R52). -/

namespace Sys2Proof.Machine

open Sys2Proof.Safety

section
variable {s : State}

theorem State.nextItem_of_nil (empty : s.engine.queue = []) :
    s.nextItem = ({ s with engine := { s.engine with flight := none } } : State).post .queueIdle := by
  rw [State.nextItem, empty]

theorem State.nextItem_of_cons {i : Item} {rest : List Item} (head : s.engine.queue = i :: rest) :
    s.nextItem = s.startItem i rest := by
  rw [State.nextItem, head]

/-- The start of an item reads nothing of the flight before it (R46). -/
theorem State.startItem_idle (i : Item) (rest : List Item) :
    ({ s with engine := { s.engine with flight := none } } : State).startItem i rest = s.startItem i rest := by
  cases i <;> rfl

/-! ### When a command of the engine is due -/

theorem exec_itemStart {i : Item} {rest : List Item} (awake : s.held = false) (idle : s.engine.flight = none)
    (head : s.engine.queue = i :: rest) : exec .itemStart s = .next (s.startItem i rest) := by
  change execItemStart s = _
  rw [execItemStart, occur_of_awake awake]
  simp only [idle, head]

theorem requeued_iff {i : Item} :
    (s.engine.queue.contains i || s.engine.queue.contains .all) = true ↔
      i ∈ s.engine.queue ∨ Item.all ∈ s.engine.queue := by
  simp only [Bool.or_eq_true, List.contains_iff_mem]

section
variable {n : Channel} {inputs : ChannelInputs} {zones : Table 24 ZoneRec} {t : Int}

theorem exec_channelItemComplete (awake : s.held = false) (due : s.engine.flight = some (.channel n inputs zones t)) :
    exec (.channelItemComplete n) s = .next (if Item.channel n ∈ s.engine.queue ∨ Item.all ∈ s.engine.queue then s.nextItem
      else (((s.deliverFull (fun k => k == n) fun _ j => fullResult inputs (zones.get j) t).reEvaluate n).settle
        s).nextItem) := by
  change execChannelItemComplete n s = _
  rw [execChannelItemComplete, occur_of_awake awake]
  simp only [due, if_true, requeued_iff]

end

theorem exec_allItemComplete {inputs : Table 16 ChannelInputs} {zones : Table 24 ZoneRec} {t : Int} (awake : s.held = false)
    (due : s.engine.flight = some (.all inputs zones t)) :
    exec .allItemComplete s = .next (if Item.all ∈ s.engine.queue then s.nextItem
      else (((s.deliverFull (fun n => !s.engine.queue.contains (.channel n))
        fun n j => fullResult (inputs.get n) (zones.get j) t).reEvaluateAll (List.finRange 16)).settle s).nextItem) := by
  change execAllItemComplete s = _
  rw [execAllItemComplete, occur_of_awake awake]
  simp only [due, List.contains_iff_mem]

theorem exec_groupItemComplete {g : Group} {members : List MemberInputs} {trims : Table 24 Nat} {master count : Nat}
    (awake : s.held = false) (due : s.engine.flight = some (.group g members trims master count)) :
    exec (.groupItemComplete g) s = .next (members.foldl (fun s m => s.deliverLevels m fun j =>
      levelOnly m.hasStation (m.stored.get j) (trims.get j) master count) s).nextItem := by
  change execGroupItemComplete g s = _
  rw [execGroupItemComplete, occur_of_awake awake]
  simp only [due, if_true]

/-! ### The inputs -/

theorem State.channelInputs_eq (n : Channel) : s.channelInputs n =
    ⟨(s.gates.get n).station.map fun k => (s.settings.stations.get k).position,
      (s.settings.channels.get n).length * 256,
      ((s.settings.channelGroup n).map fun g => (s.settings.groupRecord g).master).getD 0,
      ((s.settings.channelGroup n).map fun g => (s.groups.get g).members.length).getD 0⟩ := by
  rw [State.channelInputs]
  cases s.settings.channelGroup n <;> rfl

/-- The inputs of a GROUP item: those of each channel of the group (R41, R47). -/
theorem State.mem_memberInputs {g : Group} {m : MemberInputs} : m ∈ s.memberInputs g ↔
    s.settings.channelGroup m.channel = some g ∧ m.hasStation = (s.gates.get m.channel).station.isSome ∧
      ∀ j, m.stored.get j = (((s.crosspoints.get m.channel).get j).proximity,
        ((s.crosspoints.get m.channel).get j).guarded) := by
  simp only [State.memberInputs, List.mem_map, List.mem_filter, List.mem_finRange, true_and, beq_iff_eq]
  constructor
  · rintro ⟨n, group, rfl⟩
    exact ⟨group, rfl, fun j => Table.get_map ..⟩
  · obtain ⟨n, station, stored⟩ := m
    rintro ⟨group, has, taken⟩
    refine ⟨n, group, ?_⟩
    rw [MemberInputs.mk.injEq]
    exact ⟨rfl, has.symm, Table.ext_get fun j => by rw [Table.get_map, taken]⟩

end

/-- Settles O30. -/
theorem itemsStartAndAreOvertaken : Obligations.ItemsStartAndAreOvertaken := by
  unfold Obligations.ItemsStartAndAreOvertaken
  refine ⟨fun s i rest awake idle head => ⟨?_, fun n => State.channelInputs_eq n, fun g m => State.mem_memberInputs⟩,
    fun s awake => ⟨State.nextItem_of_nil, fun waiting => ?_, fun n inputs zones t due overtaken => ?_,
      fun inputs zones t due overtaken => ?_⟩⟩
  · rw [exec_itemStart awake idle head]
    cases i <;> rfl
  · obtain ⟨i, rest, head⟩ := List.exists_cons_of_ne_nil waiting
    rw [State.nextItem_of_cons head, ← State.startItem_idle]
    exact exec_itemStart (s := { s with engine := { s.engine with flight := none } }) awake rfl head
  · rw [exec_channelItemComplete awake due, if_pos overtaken]
  · rw [exec_allItemComplete awake due, if_pos overtaken]

/-! ### The levels of a GROUP item (R35, R52) -/

section
variable {s : State}

theorem State.deliverLevels_eq (m : MemberInputs) (level : Zone → Option Nat) : s.deliverLevels m level =
    { s with crosspoints := s.crosspoints.set m.channel (((s.crosspoints.get m.channel).map fun j x =>
      x.deliverLevel (s.live m.channel j) (s.settings.fadeLength j) (level j))) } := rfl

/-- Levels delivered to channels one after the other, each once, are those of the state at the event (R52, R53). -/
theorem State.foldl_deliverLevels (level : MemberInputs → Zone → Option Nat) (members : List MemberInputs) :
    (members.map MemberInputs.channel).Nodup → ∀ s : State, ∃ u,
      members.foldl (fun s m => s.deliverLevels m (level m)) s = { s with crosspoints := u } ∧
      (∀ n, n ∉ members.map MemberInputs.channel → u.get n = s.crosspoints.get n) ∧
      ∀ m ∈ members, ∀ j, (u.get m.channel).get j = ((s.crosspoints.get m.channel).get j).deliverLevel
        (s.live m.channel j) (s.settings.fadeLength j) (level m j) := by
  induction members with
  | nil => exact fun _ s => ⟨s.crosspoints, rfl, fun _ _ => rfl, fun _ mem => absurd mem List.not_mem_nil⟩
  | cons m members ih =>
    intro once s
    rw [List.map_cons, List.nodup_cons] at once
    obtain ⟨fresh, once⟩ := once
    obtain ⟨u, eq, others, delivered⟩ := ih once (s.deliverLevels m (level m))
    rw [State.deliverLevels_eq] at others delivered
    refine ⟨u, eq, fun n out => ?_, fun k mem j => ?_⟩
    · rw [List.map_cons, List.mem_cons, not_or] at out
      rw [others n out.2, Table.get_set_other _ _ (Ne.symm out.1)]
    · obtain rfl | mem := List.mem_cons.mp mem
      · rw [others _ fresh, Table.get_set_self, Table.get_map]
      · have other : m.channel ≠ k.channel := fun same => fresh (same ▸ List.mem_map_of_mem mem)
        rw [delivered k mem, Table.get_set_other _ _ other]
        rfl

theorem levelOnly_eq (station : Bool) (stored : Nat × Bool) (trim master count : Nat) :
    levelOnly station stored trim master count = if station = false ∨ stored.2 = true then none
      else some (min 160 (trim + master + stored.1 + nom count)) := by
  obtain ⟨proximity, guarded⟩ := stored
  cases station <;> cases guarded <;> rfl

end

/-- Settles O33. -/
theorem groupItemDelivers : Obligations.GroupItemDelivers := by
  unfold Obligations.GroupItemDelivers
  intro s g members trims master count awake due once
  obtain ⟨u, eq, others, delivered⟩ := State.foldl_deliverLevels
    (fun m j => levelOnly m.hasStation (m.stored.get j) (trims.get j) master count) members once s
  refine ⟨u, ?_, others, fun m mem j => ?_⟩
  · rw [exec_groupItemComplete awake due, eq]
  · rw [delivered m mem j, Crosspoint.deliverLevel, levelOnly_eq]

end Sys2Proof.Machine
end

section
/-! PROOFS. The life-safety line and the word clock (R149 to R152, R159 to R163). -/

namespace Sys2Proof.Machine

open Sys2Proof.Safety

/-! ### An event that has left every target as the live test gives it -/

section
variable {s u : State}

/-- Where every target is the effective one, the re-evaluation moves nothing (R63). -/
theorem State.retarget_of_targetLaw (law : TargetLaw u) : u.retarget = u := by
  have crosspoints : u.retarget.crosspoints = u.crosspoints := Table.ext_get fun n => Table.ext_get fun j => by
    rw [State.retarget_crosspoints, Table.get_map, Table.get_map]
    exact Crosspoint.retarget_of_same _ (law n j).symm
  calc u.retarget = { u with crosspoints := u.retarget.crosspoints } := rfl
    _ = u := by rw [crosspoints]

/-- The end of an event that moved no open count and left every target the effective one changes nothing (R63, R111). -/
theorem State.settle_of_targetLaw (law : TargetLaw u) (counts : ∀ g, (s.groups.get g).openCount = (u.groups.get g).openCount) :
    u.settle s = u := by
  have asks : u.askCounts s = u := by rw [State.askCounts, Engine.askCounts_of_same _ counts]
  rw [State.settle, asks, State.retarget_of_targetLaw law]

/-- What leaves the crosspoints and the live test keeps every target the effective one (R62, R63). -/
theorem targetLaw_of_live (law : TargetLaw s) (crosspoints : u.crosspoints = s.crosspoints)
    (live : ∀ n j, u.live n j = s.live n j) : TargetLaw u := fun n j => by
  rw [State.targetOf, crosspoints, live]
  exact law n j

end

/-- The live test reads of a zone only whether anything silences it (R62, R144). -/
theorem State.live_of_causes {s u : State} {j : Zone} (settings : u.settings = s.settings) (groups : u.groups = s.groups)
    (standby : u.standby = s.standby)
    (zone : ((u.zones.get j).silenced || (u.zones.get j).taken) = ((s.zones.get j).silenced || (s.zones.get j).taken))
    (n : Channel) : u.live n j = s.live n j := by
  have dead (x p q r : Bool) : (x && !p && !q && !r) = (x && !(p || q) && !r) := by
    rw [Bool.not_or, Bool.and_assoc x]
  simp only [State.live, settings, groups, standby, dead, zone]

/-! ### The line -/

section
variable {s : State}

/-- A debounced assertion before the re-evaluation that ends it (R150). -/
def State.asserted (s : State) : State :=
  (((s.onOverride (Override.take true)).onOverride fun o => { o with state := .active }).takeOver
    fun j => (s.settings.zones.get j).member).post .overrideChange

/-- A debounced deassertion (R151). -/
def State.deasserted (s : State) : State :=
  (((s.onOverride (Override.take false)).onOverride fun o => { o with state := .latched }).onZones
    fun _ z => z.release).post .overrideChange

theorem exec_overrideAssertion (awake : s.held = false) (due : s.override.debounce = some 0) (raw : s.override.raw = true)
    (heard : s.override.debounced = false) (idle : s.override.state ≠ .active) :
    exec .overrideAssertion s = .next (s.asserted.settle s) := by
  change execOverrideAssertion s = _
  rw [execOverrideAssertion, occur_of_awake awake, if_pos ⟨due, raw, by rw [heard]; exact Bool.false_ne_true⟩]
  exact congrArg _ (if_neg idle)

theorem exec_overrideDeassertion (awake : s.held = false) (due : s.override.debounce = some 0)
    (raw : s.override.raw = false) (heard : s.override.debounced = true) (active : s.override.state = .active) :
    exec .overrideDeassertion s = .next (s.deasserted.settle s) := by
  change execOverrideDeassertion s = _
  rw [execOverrideDeassertion, occur_of_awake awake, if_pos ⟨due, by rw [raw]; exact Bool.false_ne_true, heard⟩]
  exact congrArg _ (if_neg fun other => other active)

theorem State.asserted_zone (j : Zone) : s.asserted.zones.get j =
    if (s.settings.zones.get j).member = true then { s.zones.get j with taken := true } else s.zones.get j :=
  Table.get_map ..

theorem State.asserted_crosspoint (n : Channel) (j : Zone) : (s.asserted.crosspoints.get n).get j =
    if (s.settings.zones.get j).member = true then ((s.crosspoints.get n).get j).seize
    else (s.crosspoints.get n).get j := by
  simp [State.asserted, State.takeOver]

/-- A takeover leaves every target the effective one: off in the zones taken over, as it was in the others (R62, R75). -/
theorem State.targetLaw_asserted (law : TargetLaw s) : TargetLaw s.asserted := fun n j => by
  rw [State.asserted_crosspoint, State.targetOf]
  by_cases member : (s.settings.zones.get j).member = true
  · have dead : s.asserted.live n j = false := 
      State.live_of_taken (by rw [State.asserted_zone, if_pos member]) n
    rw [if_pos member, dead]
    rfl
  · have live : s.asserted.live n j = s.live n j := by
      simp only [State.live, State.asserted_zone, if_neg member]
      rfl
    rw [if_neg member, live]
    exact law n j

theorem State.deasserted_zone (j : Zone) : s.deasserted.zones.get j = (s.zones.get j).release := Table.get_map ..

/-- A release gives each zone taken over a cause in its place, so that no crosspoint becomes live (R62, R151). -/
theorem State.live_deasserted (n : Channel) (j : Zone) : s.deasserted.live n j = s.live n j := by
  have zone : ((s.deasserted.zones.get j).silenced || (s.deasserted.zones.get j).taken) =
      ((s.zones.get j).silenced || (s.zones.get j).taken) := by
    rw [State.deasserted_zone, ZoneState.release]
    cases taken : (s.zones.get j).taken <;> simp [ZoneState.silenced, taken]
  exact State.live_of_causes (by rfl) (by rfl) (by rfl) zone n

theorem ZoneState.release_eq (z : ZoneState) :
    z.release = if z.taken = true then { z with taken := false, overrideLatch := true } else z := rfl

end

/-- Settles O40: neither event leaves a target for the re-evaluation that ends it to move. -/
theorem theLineTakesOverAndLatches : Obligations.TheLineTakesOverAndLatches := by
  unfold Obligations.TheLineTakesOverAndLatches
  intro s awake due array
  have ⟨_, law, _⟩ := array
  refine ⟨fun raw heard idle => ?_, fun raw heard active => ?_⟩
  · refine ⟨s.asserted, ?_, ?_, fun j => s.asserted_zone j, fun n j => s.asserted_crosspoint n j,
      ⟨rfl, rfl, rfl, rfl, rfl, rfl, rfl, rfl, rfl, rfl, rfl, rfl, rfl⟩, rfl, rfl, rfl⟩
    · rw [exec_overrideAssertion awake due raw heard idle,
        State.settle_of_targetLaw (s := s) (State.targetLaw_asserted law) fun _ => rfl]
    · change Override.mk .active s.override.raw true none = _
      rw [raw]
  · rw [exec_overrideDeassertion awake due raw heard active,
      State.settle_of_targetLaw (s := s) (targetLaw_of_live (u := s.deasserted) law rfl State.live_deasserted) fun _ => rfl]
    have override : s.deasserted.override = ⟨.latched, false, false, none⟩ := by
      change Override.mk .latched s.override.raw false none = _
      rw [raw]
    have zones : s.deasserted.zones = .ofFn fun j => if (s.zones.get j).taken = true
        then { s.zones.get j with taken := false, overrideLatch := true } else s.zones.get j :=
      Table.ext_get fun j => by rw [State.deasserted_zone, Table.get_ofFn, ZoneState.release_eq]
    rw [← override, ← zones]
    rfl

/-! ### The word clock -/

section
variable {s : State}

theorem exec_wordClockEdge (awake : s.held = false) (period : Nat) :
    exec (.wordClockEdge period) s = .next { s with clock := s.clock.edge period } :=
  occur_of_awake awake

theorem exec_qualificationComplete (awake : s.held = false) (locking : s.clock.state = .locking)
    (due : s.clock.run = some 0) : exec .qualificationComplete s =
      .next (({ s with clock := { s.clock with state := .locked, run := none } } : State).post .clockLocked) := by
  change execQualificationComplete s = _
  rw [execQualificationComplete, occur_of_awake awake, if_pos ⟨locking, due⟩]
  rfl

/-- The loss of the word clock before auto-silence (R162). -/
def State.clockLost (s : State) : State :=
  (s.onClock fun c =>
    { c with state := .holdover, gap := none, run := none, reference := meanReference c.edges }).post .clockLost

/-- The loss of the word clock with auto-silence, before the re-evaluation that ends it (R162). -/
def State.clockSilenced (s : State) : State := s.clockLost.onZones fun _ z => { z with clock := true }

theorem exec_clockGap (awake : s.held = false) (due : s.clock.gap = some 0) : exec .clockGap s = .next (
    match s.clock.state with
    | .internal => s
    | .locking => s.onClock fun c => { c with gap := none, run := none }
    | .holdover => s.onClock fun c => { c with gap := none }
    | .locked => if s.settings.system.autoSilence then s.clockSilenced.settleClock s fun j => !(s.zones.get j).clock
      else s.clockLost) := by
  change execClockGap s = _
  rw [execClockGap, occur_of_awake awake, if_pos due]
  rfl

theorem State.zoneChange_clockLost : ZoneChange s s.clockLost := { ZoneChange.refl s with }

theorem State.zoneChange_clockSilenced : ZoneChange s s.clockSilenced := s.zoneChange_clockLost.onZones _

theorem State.clockSilenced_zone (j : Zone) : s.clockSilenced.zones.get j = { s.zones.get j with clock := true } :=
  Table.get_map ..

/-- A crosspoint that sounds STEADY fades over 240 samples when its zone gains CLOCK (R74, R162). -/
theorem State.clockSilenced_steady (law : ArrayLaw s) {n : Channel} {j : Zone} {l : Nat}
    (steady : ((s.crosspoints.get n).get j).phase = .steady l) :
    (((s.clockSilenced.settleClock s fun j => !(s.zones.get j).clock).crosspoints.get n).get j).phase =
      .ramping l 240 240 := by
  have ⟨_, targets, _⟩ := law
  have target : ((s.crosspoints.get n).get j).target = some l := by
    simpa only [steady] using (lawful_of_arrayLaw law n j).phase
  have live : s.live n j = true := by
    by_contra dead
    have off := targets n j
    rw [State.targetOf, if_neg dead, target] at off
    cases off
  have sounding : (s.zones.get j).clock = false := by
    obtain ⟨_, _, _, _, _, clock, _⟩ := State.live_iff.mp live
    exact clock
  have dead : s.clockSilenced.live n j = false :=
    State.live_of_silenced (by simp [State.clockSilenced_zone, ZoneState.silenced]) n
  have off (x : Crosspoint) : s.clockSilenced.targetOf n j x = none := by
    rw [State.targetOf, dead, if_neg Bool.false_ne_true]
  rw [State.settleClock_get, State.zoneChange_clockSilenced.crosspoints]
  simp only [off, sounding, Bool.not_false, if_true]
  rw [Crosspoint.retargetClock, Crosspoint.retarget, if_neg (by rw [target]; nofun), steady]
  rfl

end

/-- Settles O41: an edge by the state of the monitor and by its validity; a gap by the state. -/
theorem clockEvents : Obligations.ClockEvents := by
  unfold Obligations.ClockEvents
  refine ⟨fun s period awake => ?_, fun s awake => ⟨fun locking due => exec_qualificationComplete awake locking due,
    fun due => ?_⟩⟩
  · refine ⟨_, exec_wordClockEdge awake period, ?_⟩
    simp only [← Clock.validEdge_iff]
    cases state : s.clock.state <;> cases valid : s.clock.validEdge period <;>
      simp [Clock.edge, Clock.noteEdge, noteValid, state, valid, Config.gapTime, Config.qualificationTime,
        Config.frequencyWindow, Config.samplesPerMs]
  · have run := exec_clockGap awake due
    refine ⟨fun locking => ?_, fun holdover => ?_, fun locked => ?_⟩
    · rw [run, locking]; rfl
    · rw [run, holdover]; rfl
    · rw [locked] at run
      cases silence : s.settings.system.autoSilence with
      | false =>
        simp only [silence, Bool.false_eq_true, if_false] at run
        exact ⟨_, run, rfl, rfl, rfl, rfl, rfl, s.zoneChange_clockLost.toZoneFrame, rfl, rfl, fun _ => ⟨rfl, rfl⟩,
          fun other => absurd other Bool.false_ne_true⟩
      | true =>
        simp only [silence, if_true] at run
        refine ⟨_, run, rfl, rfl, rfl, rfl, rfl, s.zoneChange_clockSilenced.settleClock _, rfl, rfl,
          fun other => absurd other.symm Bool.false_ne_true, fun _ law => ⟨s.clockSilenced_zone, ?_, fun n j l steady => ?_⟩⟩
        · have ⟨_, target, _⟩ := (exec_keepsArray run).keeps law
          exact target
        · exact State.clockSilenced_steady law steady

end Sys2Proof.Machine
end

section
/-! PROOFS. The input link: every window's ring and the detectors (R9, R82). -/

namespace Sys2Proof.Machine

open Sys2Proof.Safety

/-! ### One sample stored in every window -/

namespace DelayMemory

variable {c : Settings} {m : DelayMemory} {slots : Table 17 Sample} {n k : Channel}

/-- The cell that the next sample of Mn is written to (R9). -/
def head (c : Settings) (m : DelayMemory) (n : Channel) : Nat := (c.channels.get n).firstCell + m.position.get n

/-- The samples of a list of channels stored, one channel after the other. -/
def storeEach (c : Settings) (slots : Table 17 Sample) (ns : List Channel) (m : DelayMemory) : DelayMemory :=
  ns.foldl (fun m n => m.store (c.channels.get n) n (slots.get (slotOf n))) m

theorem storeAll_eq : m.storeAll c slots = m.storeEach c slots (List.finRange 16) := rfl

theorem storeEach_cons (n : Channel) (ns : List Channel) : m.storeEach c slots (n :: ns) =
    (m.store (c.channels.get n) n (slots.get (slotOf n))).storeEach c slots ns := rfl

theorem store_of_empty (empty : c.window n = 0) (v : Sample) : m.store (c.channels.get n) n v = m := if_pos empty

theorem head_store_other (other : n ≠ k) (v : Sample) : head c (m.store (c.channels.get n) n v) k = head c m k := by
  rw [head, store_position_other v m other, head]

/-- The write positions of other channels stand. -/
theorem position_storeEach_other {ns : List Channel} (out : n ∉ ns) :
    (m.storeEach c slots ns).position.get n = m.position.get n := by
  induction ns generalizing m with
  | nil => rfl
  | cons k ns ih =>
    rw [List.mem_cons, not_or] at out
    rw [storeEach_cons, ih out.2, store_position_other _ _ (Ne.symm out.1)]

/-- Each stored channel's write position goes on around its ring (R9). -/
theorem position_storeEach {ns : List Channel} (once : ns.Nodup) (mem : n ∈ ns) (window : c.window n ≠ 0) :
    (m.storeEach c slots ns).position.get n = (m.position.get n + 1) % c.window n := by
  induction ns generalizing m with
  | nil => cases mem
  | cons k ns ih =>
    obtain ⟨fresh, once⟩ := List.nodup_cons.mp once
    rw [storeEach_cons]
    obtain rfl | mem := List.mem_cons.mp mem
    · rw [position_storeEach_other fresh]
      exact store_position n _ m window
    · rw [ih once mem, store_position_other _ _ (ne_of_mem_of_not_mem mem fresh).symm]

/-- A window of no cells keeps its write position. -/
theorem position_storeEach_of_empty {ns : List Channel} (empty : c.window n = 0) :
    (m.storeEach c slots ns).position.get n = m.position.get n := by
  induction ns generalizing m with
  | nil => rfl
  | cons k ns ih =>
    rw [storeEach_cons, ih]
    by_cases same : k = n
    · rw [same, store_of_empty empty]
    · rw [store_position_other _ _ same]

/-- A cell that no channel is at reads as before (R9). -/
theorem readCell_storeEach_other {ns : List Channel} {a : Nat} (wf : m.wf = true) (once : ns.Nodup)
    (away : ∀ n ∈ ns, c.window n ≠ 0 → a ≠ head c m n) :
    readCell (m.storeEach c slots ns).cells a = readCell m.cells a := by
  induction ns generalizing m with
  | nil => rfl
  | cons k ns ih =>
    obtain ⟨fresh, once⟩ := List.nodup_cons.mp once
    rw [storeEach_cons, ih (wf_store _ _ _ wf) once fun n mem window => ?_]
    · by_cases empty : c.window k = 0
      · rw [store_of_empty empty]
      · rw [store_cells k _ m empty]
        exact readCell_writeCell_other _ (away k List.mem_cons_self empty) wf
    · rw [head_store_other (ne_of_mem_of_not_mem mem fresh).symm]
      exact away n (List.mem_cons_of_mem _ mem) window

/-- The cell that a channel is at takes its sample, where no other channel is at it (R9). -/
theorem readCell_storeEach {ns : List Channel} (wf : m.wf = true) (once : ns.Nodup) (mem : n ∈ ns)
    (window : c.window n ≠ 0) (apart : ∀ k ∈ ns, k ≠ n → c.window k ≠ 0 → head c m n ≠ head c m k) :
    readCell (m.storeEach c slots ns).cells (head c m n) = slots.get (slotOf n) := by
  induction ns generalizing m with
  | nil => cases mem
  | cons k ns ih =>
    obtain ⟨fresh, onceMore⟩ := List.nodup_cons.mp once
    rw [storeEach_cons]
    obtain rfl | mem := List.mem_cons.mp mem
    · rw [readCell_storeEach_other (wf_store _ _ _ wf) onceMore fun k mem other => ?_]
      · rw [store_cells n _ m window]
        exact readCell_writeCell_same _ _ wf
      · have distinct : k ≠ n := ne_of_mem_of_not_mem mem fresh
        rw [head_store_other distinct.symm]
        exact apart k (List.mem_cons_of_mem _ mem) distinct other
    · have distinct : k ≠ n := (ne_of_mem_of_not_mem mem fresh).symm
      rw [← head_store_other distinct (slots.get (slotOf k))]
      refine ih (wf_store _ _ _ wf) onceMore mem fun l later other there => ?_
      rw [head_store_other distinct, head_store_other (ne_of_mem_of_not_mem later fresh).symm]
      exact apart l (List.mem_cons_of_mem _ later) other there

/-! ### Around the ring -/

/-- The write position at its next sample reads, at no delay, the cell just left (R9). -/
theorem ring_newest {p w : Nat} (h : p < w) : ((p + 1) % w + (w - 1) + (w - 0)) % w = p := by
  have sum : p + 1 + (w - 1) + (w - 0) = p + w * 2 := by omega
  rw [Nat.add_assoc, Nat.mod_add_mod, ← Nat.add_assoc, sum, Nat.add_mul_mod_self_left, Nat.mod_eq_of_lt h]

/-- One place further, it reads the cell that was read before (R9). -/
theorem ring_older {p w d : Nat} (h : d + 1 < w) :
    ((p + 1) % w + (w - 1) + (w - (d + 1))) % w = (p + (w - 1) + (w - d)) % w := by
  have sum : p + 1 + (w - 1) + (w - (d + 1)) = p + (w - 1) + (w - d) := by omega
  rw [Nat.add_assoc, Nat.mod_add_mod, ← Nat.add_assoc, sum]

/-- And that is not the cell just left. -/
theorem ring_distinct {p w d : Nat} (h : d + 1 < w) : (p + (w - 1) + (w - d)) % w ≠ p := by
  intro same
  have split := Nat.div_add_mod (p + (w - 1) + (w - d)) w
  rw [same] at split
  generalize (p + (w - 1) + (w - d)) / w = q at split
  rcases Nat.lt_or_ge q 2 with low | high
  · have := Nat.mul_le_mul_left w (Nat.le_of_lt_succ low)
    omega
  · have := Nat.mul_le_mul_left w high
    omega

end DelayMemory

/-! ### What every window holds after an input sample -/

section
variable {s : State} {n k : Channel}

/-- Windows that do not overlap share no cell (R11). -/
theorem cells_distinct {a b len other i p : Nat} (apart : windowsOverlap a len b other = false) (inside : i < len * 256)
    (position : p < other * 256) : a * 256 + i ≠ b * 256 + p := by
  simp only [windowsOverlap, Bool.and_eq_false_iff, bne_eq_false_iff_eq, decide_eq_false_iff_not] at apart
  omega

theorem position_lt (law : DelayLaw s) (window : 0 < s.settings.window n) :
    s.delay.position.get n < s.settings.window n := by
  obtain ⟨_, _, positions, _⟩ := law
  have := positions n
  omega

/-- A cell of a window is not the cell that another channel is at (R11). -/
theorem cell_ne_head (law : DelayLaw s) {i : Nat} (inside : i < s.settings.window n) (other : k ≠ n)
    (window : s.settings.window k ≠ 0) :
    (s.settings.channels.get n).firstCell + i ≠ s.delay.head s.settings k :=
  have position := position_lt law (Nat.pos_of_ne_zero window)
  have ⟨_, _, _, _, apart⟩ := law
  cells_distinct (apart n k (Ne.symm other)) inside position

theorem DelayMemory.tap_of_lt {c : Settings} {m : DelayMemory} {d : Nat} (h : d < c.window n) :
    m.tap (c.channels.get n) n d = readCell m.cells ((c.channels.get n).firstCell +
      (m.position.get n + (c.window n - 1) + (c.window n - d)) % c.window n) := by
  have window : (c.channels.get n).windowSamples ≠ 0 := Nat.ne_zero_of_lt h
  rw [DelayMemory.tap, if_neg window]
  exact if_pos h

variable {slots : Table 17 Sample}

theorem tap_newest (law : DelayLaw s) (window : 0 < s.settings.window n) :
    (s.delay.storeAll s.settings slots).tap (s.settings.channels.get n) n 0 = slots.get (slotOf n) := by
  obtain ⟨wf, _⟩ := id law
  have once := List.nodup_finRange 16
  rw [DelayMemory.tap_of_lt window, DelayMemory.storeAll_eq,
    DelayMemory.position_storeEach once (List.mem_finRange n) (by omega),
    DelayMemory.ring_newest (position_lt law window)]
  exact DelayMemory.readCell_storeEach wf once (List.mem_finRange n) (by omega) fun k _ other there =>
    cell_ne_head law (position_lt law window) other there

theorem tap_older (law : DelayLaw s) {d : Nat} (inside : d + 1 < s.settings.window n) :
    (s.delay.storeAll s.settings slots).tap (s.settings.channels.get n) n (d + 1) =
      s.delay.tap (s.settings.channels.get n) n d := by
  obtain ⟨wf, _⟩ := id law
  have once := List.nodup_finRange 16
  have window : 0 < s.settings.window n := by omega
  rw [DelayMemory.tap_of_lt inside, DelayMemory.tap_of_lt (Nat.lt_of_succ_lt inside), DelayMemory.storeAll_eq,
    DelayMemory.position_storeEach once (List.mem_finRange n) (by omega), DelayMemory.ring_older inside]
  refine DelayMemory.readCell_storeEach_other wf once fun k _ there => ?_
  by_cases same : k = n
  · subst same
    intro at_head
    exact DelayMemory.ring_distinct inside (Nat.add_left_cancel at_head)
  · exact cell_ne_head law (Nat.mod_lt _ window) same there

/-- A cell outside every window reads as before (R9). -/
theorem readCell_outside (law : DelayLaw s) {a : Nat} (outside : ∀ n, a < (s.settings.channels.get n).firstCell ∨
    (s.settings.channels.get n).firstCell + s.settings.window n ≤ a) :
    readCell (s.delay.storeAll s.settings slots).cells a = readCell s.delay.cells a := by
  obtain ⟨wf, _⟩ := id law
  refine DelayMemory.readCell_storeEach_other wf (List.nodup_finRange 16) fun n _ window => ?_
  have position := position_lt law (Nat.pos_of_ne_zero window)
  have away := outside n
  rw [DelayMemory.head]
  omega

/-- A detector takes a sample, the 480th completing its block (R82). -/
theorem Detector.take_eq (v : Sample) (d : Detector) : d.take v =
    if d.count < 479 then ⟨d.sum + v.toInt.natAbs ^ 2, d.count + 1, d.done⟩
    else ⟨0, 0, some (d.sum + v.toInt.natAbs ^ 2)⟩ := by
  unfold Detector.take
  by_cases more : d.count < 479
  · rw [if_pos more, if_pos (Nat.succ_lt_succ more)]
    rfl
  · rw [if_neg more, if_neg fun h => more (Nat.lt_of_succ_lt_succ h)]
    rfl

theorem exec_inputSample (awake : s.held = false) (slots : Table 17 Sample) : exec (.inputSample slots) s = .next { s with
    delay := s.delay.storeAll s.settings slots
    gates := if s.standby then s.gates
      else s.gates.map fun n g => { g with detector := g.detector.take (slots.get (slotOf n)) }
    announcement := slots.get 16 } := by
  change execInputSample slots s = _
  rw [execInputSample, occur_of_awake awake]

end

/-- Settles O43. -/
theorem inputSamplesAreStored : Obligations.InputSamplesAreStored := by
  unfold Obligations.InputSamplesAreStored
  intro s slots awake law
  refine ⟨_, exec_inputSample awake slots, fun n window => ⟨tap_newest law window, fun d inside => tap_older law inside⟩,
    fun n empty => DelayMemory.position_storeEach_of_empty empty, fun a outside => readCell_outside law outside,
    fun standby => ?_, fun listening n => ?_, rfl, rfl⟩
  · simp only [standby, if_true]
  · simp only [listening, Bool.false_eq_true, if_false, Table.get_map, Detector.take_eq]

end Sys2Proof.Machine
end

section
/-! PROOFS. Gains and measurements against the real logarithms and powers (R34, R82). -/

namespace Sys2Proof.Machine

open Sys2Proof.Safety

/-! ### The search of a falling test -/

theorem greatest_lt (P : Nat → Bool) (n r : Nat) : greatest P n r < r + 2 ^ n := by
  induction n generalizing r with
  | zero => exact Nat.lt_succ_self r
  | succ n ih =>
    rw [greatest]
    have low := ih r
    have high := ih (r + 2 ^ n)
    have positive := Nat.two_pow_pos n
    rw [pow_succ]
    split <;> omega

/-- Within its range the search decides a falling test. -/
theorem le_greatest_iff {P : Nat → Bool} (falls : ∀ a b, a ≤ b → P b = true → P a = true) {n r k : Nat} (start : P r = true)
    (inside : k < r + 2 ^ n) : k ≤ greatest P n r ↔ P k = true := by
  induction n generalizing r with
  | zero =>
    have low : k ≤ r := Nat.le_of_lt_succ inside
    exact iff_of_true low (falls k r low start)
  | succ n ih =>
    rw [greatest]
    by_cases up : P (r + 2 ^ n) = true
    · rw [if_pos up]
      exact ih up (by omega)
    · rw [if_neg up]
      by_cases below : k < r + 2 ^ n
      · exact ih start below
      · have bound := greatest_lt P n r
        exact iff_of_false (by omega) fun admitted => up (falls _ k (by omega) admitted)

/-! ### Gains (R34) -/

section
variable {a : Rat}

/-- The test of a gain of at least one unit is the comparison with the real power (R34). -/
theorem gain_test (positive : 0 ≤ a) (g : Nat) :
    (2 * (g + 1) - 1) ^ (40 * a.den) * 10 ^ a.num.toNat ≤ 2 ^ (1000 * a.den) ↔
      ((g + 1 : ℕ) : ℝ) - 1 / 2 ≤ 16777216 * (10 : ℝ) ^ (-((a : Rat) : ℝ) / 40) := by
  have den : 40 * a.den ≠ 0 := by have := a.den_pos; omega
  have num : ((a : Rat) : ℝ) * a.den = (a.num.toNat : ℕ) := by
    have whole : (a.num.toNat : Int) = a.num := Int.toNat_of_nonneg (Rat.num_nonneg.mpr positive)
    have cast : ((a.num.toNat : ℕ) : ℝ) = ((a.num : Int) : ℝ) := by exact_mod_cast whole
    rw [cast]
    exact_mod_cast Rat.mul_den_eq_num a
  have power : ((10 : ℝ) ^ (-((a : Rat) : ℝ) / 40)) ^ (40 * a.den) * (10 : ℝ) ^ a.num.toNat = 1 := by
    rw [← Real.rpow_natCast, ← Real.rpow_mul (by norm_num), ← Real.rpow_natCast, ← Real.rpow_add (by norm_num)]
    have zero : -((a : Rat) : ℝ) / 40 * ((40 * a.den : ℕ) : ℝ) + (a.num.toNat : ℕ) = 0 := by
      rw [← num]
      push_cast
      ring
    rw [zero, Real.rpow_zero]
  have base : (2 : ℝ) ^ (1000 * a.den) = (33554432 : ℝ) ^ (40 * a.den) := by
    rw [show 1000 * a.den = 25 * (40 * a.den) by ring, pow_mul]
    norm_num
  have ten : (0 : ℝ) < (10 : ℝ) ^ a.num.toNat := by positivity
  have odd : ((2 * (g + 1) - 1 : ℕ) : ℝ) = 2 * (g : ℝ) + 1 := by
    rw [show 2 * (g + 1) - 1 = 2 * g + 1 by omega]
    push_cast
    ring
  calc (2 * (g + 1) - 1) ^ (40 * a.den) * 10 ^ a.num.toNat ≤ 2 ^ (1000 * a.den)
      ↔ (2 * (g : ℝ) + 1) ^ (40 * a.den) * (10 : ℝ) ^ a.num.toNat ≤ (2 : ℝ) ^ (1000 * a.den) := by
        rw [← odd]
        exact_mod_cast Iff.rfl
    _ ↔ (2 * (g : ℝ) + 1) ^ (40 * a.den) * (10 : ℝ) ^ a.num.toNat ≤
          (33554432 * (10 : ℝ) ^ (-((a : Rat) : ℝ) / 40)) ^ (40 * a.den) * (10 : ℝ) ^ a.num.toNat := by
        rw [mul_pow, mul_assoc _ (_ ^ _) ((10 : ℝ) ^ _), power, mul_one, base]
    _ ↔ (2 * (g : ℝ) + 1) ≤ 33554432 * (10 : ℝ) ^ (-((a : Rat) : ℝ) / 40) := by
        rw [mul_le_mul_iff_left₀ ten, pow_le_pow_iff_left₀ (by positivity) (by positivity) den]
    _ ↔ ((g + 1 : ℕ) : ℝ) - 1 / 2 ≤ 16777216 * (10 : ℝ) ^ (-((a : Rat) : ℝ) / 40) := by
        push_cast
        constructor <;> intro h <;> linarith

/-- The test of R34's search. -/
def gainTest (a : Rat) (g : Nat) : Bool := (2 * g - 1) ^ (40 * a.den) * 10 ^ a.num.toNat ≤ 2 ^ (1000 * a.den)

theorem gainUnits_eq : gainUnits a = greatest (gainTest a) 25 0 := rfl

theorem gainTest_zero : gainTest a 0 = true := by
  have den : 40 * a.den ≠ 0 := by have := a.den_pos; omega
  simp [gainTest, den]

/-- No gain is above one (R34). -/
theorem gainTest_above {g : Nat} (h : 16777216 < g) : gainTest a g = false := by
  have den : 40 * a.den ≠ 0 := by have := a.den_pos; omega
  rw [gainTest, decide_eq_false_iff_not, not_le, show 1000 * a.den = 25 * (40 * a.den) by ring, pow_mul]
  calc (2 ^ 25) ^ (40 * a.den) < (2 * g - 1) ^ (40 * a.den) := Nat.pow_lt_pow_left (by omega) den
    _ ≤ (2 * g - 1) ^ (40 * a.den) * 10 ^ a.num.toNat := Nat.le_mul_of_pos_right _ (by positivity)

theorem gainUnits_le (a : Rat) : gainUnits a ≤ 16777216 := by
  by_contra above
  have admitted := greatest_admitted (P := gainTest a) (k := 25) (r := 0) gainTest_zero
  rw [← gainUnits_eq, gainTest_above (not_le.mp above)] at admitted
  cases admitted

end

/-- Settles O47: the search ends at a unit whose test holds and whose successor's fails. -/
theorem gainsAreNearest : Obligations.GainsAreNearest := by
  unfold Obligations.GainsAreNearest
  intro a positive _
  have admitted := greatest_admitted (P := gainTest a) (k := 25) (r := 0) gainTest_zero
  have refused := greatest_succ_refused (P := gainTest a) (k := 25) (r := 0) (gainTest_above (by norm_num))
  rw [← gainUnits_eq, gainTest, decide_eq_true_eq] at admitted
  rw [← gainUnits_eq, gainTest, decide_eq_false_iff_not, gain_test positive, not_le] at refused
  refine ⟨?_, ?_⟩
  · cases units : gainUnits a with
    | zero =>
      have : (0 : ℝ) < 16777216 * (10 : ℝ) ^ (-((a : Rat) : ℝ) / 40) := by positivity
      rw [Nat.cast_zero]
      linarith
    | succ g =>
      rw [units] at admitted
      exact (gain_test positive g).mp admitted
  · push_cast at refused
    linarith

/-! ### Measurements (R82) -/

/-- The test of R82's search. -/
def levelTest (sum k : Nat) : Bool := sum ^ 40 * 10 ^ (2 * k - 1) ≤ (480 * 2 ^ 46) ^ 40

theorem measurementOf_eq (sum : Nat) : measurementOf sum = min 240 (greatest (levelTest sum) 8 0) := rfl

theorem levelTest_falls (sum a b : Nat) (le : a ≤ b) (h : levelTest sum b = true) : levelTest sum a = true := by
  rw [levelTest, decide_eq_true_eq] at h ⊢
  exact (Nat.mul_le_mul_left _ (Nat.pow_le_pow_right (by norm_num) (by omega))).trans h

section
variable {sum : Nat}

/-- The test is the comparison with the level (R82). -/
theorem levelTest_iff (positive : 0 < sum) (range : sum ≤ 480 * 2 ^ 46) (k : Nat) : levelTest sum k = true ↔
    (k : Int) ≤ ⌊20 * Real.logb 10 (((480 * 2 ^ 46 : ℕ) : ℝ) / sum) + 1 / 2⌋ := by
  have log := le_roundedLog_iff (a := 480 * 2 ^ 46) (b := sum) (by norm_num) positive 20 k
  rw [Nat.cast_ofNat (R := ℝ)] at log
  rw [levelTest, decide_eq_true_eq, log]
  generalize 480 * 2 ^ 46 = d at range
  cases k with
  | zero =>
    have pow : sum ^ 40 ≤ d ^ 40 := Nat.pow_le_pow_left range 40
    simp only [Nat.mul_zero, Nat.zero_sub, pow_zero, Nat.mul_one, Nat.one_mul]
    exact iff_of_true pow (pow.trans (Nat.le_mul_of_pos_left _ (by norm_num)))
  | succ k =>
    have power : 10 ^ (2 * (k + 1)) = 10 * 10 ^ (2 * (k + 1) - 1) := by
      rw [← pow_succ']
      congr 1
    rw [power, Nat.mul_assoc, Nat.mul_le_mul_left_iff (by norm_num), Nat.mul_comm]

/-- The measurement against the level, over the range of R82. -/
theorem measurementOf_eq_level (positive : 0 < sum) (range : sum ≤ 480 * 8388608 ^ 2) : (measurementOf sum : Int) =
    min 240 ⌊-20 * Real.logb 10 ((sum : ℝ) / (480 * 8388608 ^ 2)) + 1 / 2⌋ := by
  have whole : (480 * 8388608 ^ 2 : ℕ) = 480 * 2 ^ 46 := by norm_num
  rw [whole] at range
  have level : -20 * Real.logb 10 ((sum : ℝ) / (480 * 8388608 ^ 2)) =
      20 * Real.logb 10 (((480 * 2 ^ 46 : ℕ) : ℝ) / sum) := by
    rw [← whole, ← inv_div, Real.logb_inv, neg_mul_neg]
    norm_num
  have start : levelTest sum 0 = true := by
    rw [levelTest, decide_eq_true_eq]
    simpa using Nat.pow_le_pow_left range 40
  have decides (k : Nat) (low : k ≤ 240) := (le_greatest_iff (levelTest_falls sum) (n := 8) start (by omega : k < _)).trans
    (levelTest_iff positive range k)
  rw [level, measurementOf_eq]
  generalize greatest (levelTest sum) 8 0 = found at decides
  generalize ⌊20 * Real.logb 10 (((480 * 2 ^ 46 : ℕ) : ℝ) / sum) + 1 / 2⌋ = real at decides
  have none := decides 0 (by norm_num)
  have most := decides 240 le_rfl
  by_cases loud : 240 ≤ found
  · omega
  · have here := decides found (by omega)
    have next := decides (found + 1) (by omega)
    omega

end

/-- Settles O48. -/
theorem measurementsAreNearest : Obligations.MeasurementsAreNearest := by
  unfold Obligations.MeasurementsAreNearest
  refine ⟨?_, ?_, fun sum positive range => measurementOf_eq_level positive range⟩
  · have silent (k : Nat) : levelTest 0 k = true := by simp [levelTest]
    have most := (le_greatest_iff (levelTest_falls 0) (n := 8) (k := 240) (silent 0) (by norm_num)).mpr (silent 240)
    rw [measurementOf_eq]
    exact min_eq_left most
  · have full := measurementOf_eq_level (sum := 480 * 8388608 ^ 2) (by norm_num) le_rfl
    have one : ((480 * 8388608 ^ 2 : ℕ) : ℝ) / (480 * 8388608 ^ 2) = 1 := by norm_num
    rw [one, Real.logb_one] at full
    norm_num at full
    exact full

end Sys2Proof.Machine
end

section
/-! PROOFS. The output link: fades, feeds and the times that run (R65, R77, R78, R147, R159). -/

namespace Sys2Proof.Machine

open Sys2Proof.Safety

/-- A crosspoint that does not fade is left as it is by a sample (R65). -/
theorem Crosspoint.advance_endFade_of_still {x : Crosspoint} (still : x.phase = .silent ∨ ∃ l, x.phase = .steady l)
    (len : Nat) : (x.endFade len).advance = x := by
  obtain ⟨phase, _, _, _, _, _, _, _, _⟩ := x
  obtain rfl | ⟨l, rfl⟩ := still <;> rfl

/-! ### The feeds -/

section
variable {s : State}

/-- The state whose sums an output sample forms: every fade ended or moved one sample (log 6). -/
def State.moved (s : State) : State := (s.onCrosspoints fun len x => x.endFade len).onCrosspoints fun _ x => x.advance

theorem exec_outputSample (awake : s.held = false) : exec .outputSample s = .next s.moved.sendFeeds.tick := by
  change execOutputSample s = _
  rw [execOutputSample, occur_of_awake awake]
  rfl

theorem State.moved_get (n : Channel) (j : Zone) : (s.moved.crosspoints.get n).get j =
    (((s.crosspoints.get n).get j).endFade (s.settings.fadeLength j)).advance := by
  simp [State.moved]

/-- A feed sends samples, and posts ZONE_CLIPPED where a sum is limited (R77, R78). -/
theorem State.sendFeeds_eq : s.sendFeeds = { s with
    feeds := .ofFn s.feedOf
    events := if (List.finRange 24).any s.zoneClips then (s.post .zoneClipped).events else s.events } := by
  rw [State.sendFeeds]
  split <;> rfl

theorem State.anyClips : (List.finRange 24).any s.zoneClips = true ↔ ∃ j, s.zoneClips j = true := by
  simp [List.any_eq_true]

theorem State.sticky_sent (p : Port) : (s.sendFeeds.tick.events.get p).sticky =
    if (List.finRange 24).any s.zoneClips then (s.events.get p).sticky ||| EventKind.zoneClipped.mask
    else (s.events.get p).sticky := by
  rw [State.sendFeeds_eq]
  simp only [State.tick, ByPort.get_map]
  split
  · rw [State.post_get]
    rfl
  · rfl

/-- A sum in gain units rounded, halves away from zero (R77). -/
theorem roundSum_eq (e : Int) : roundSum e = if 0 ≤ e then (2 * e + 16777216) / 33554432
    else -((-2 * e + 16777216) / 33554432) := by
  rw [roundSum, roundAway, gainScale]
  split <;> split <;> omega

theorem limitSample_ne (r : Int) : (limitSample r != r) = true ↔ r < -8388608 ∨ 8388607 < r := by
  rw [bne_iff_ne, limitSample]
  omega

/-- A number within 24 bits is the sample that it makes. -/
theorem toInt_ofInt_24 {r : Int} (low : -8388608 ≤ r) (high : r ≤ 8388607) : (BitVec.ofInt 24 r).toInt = r := by
  rw [BitVec.toInt_ofInt]
  exact Int.bmod_eq_of_le (by norm_num; exact low) (by norm_num; omega)

theorem toInt_limitSample (r : Int) : (BitVec.ofInt 24 (limitSample r)).toInt = max (-8388608) (min 8388607 r) :=
  toInt_ofInt_24 (by rw [limitSample]; omega) (by rw [limitSample]; omega)

/-- A sample times a gain of at most one, rounded, is within 24 bits (R147). -/
theorem roundSum_gained (v : Sample) {g : Nat} (h : g ≤ 16777216) :
    -8388608 ≤ roundSum (v.toInt * g) ∧ roundSum (v.toInt * g) ≤ 8388607 := by
  have low := BitVec.le_toInt v
  have high := BitVec.toInt_lt (x := v)
  norm_num at low high
  rw [roundSum_eq]
  by_cases positive : 0 ≤ v.toInt
  · have prod : v.toInt * g ≤ 8388607 * 16777216 :=
      mul_le_mul (by omega) (by exact_mod_cast h) (by omega) (by norm_num)
    have sign : 0 ≤ v.toInt * g := mul_nonneg positive (by omega)
    rw [if_pos sign]
    omega
  · have prod : -v.toInt * g ≤ 8388608 * 16777216 :=
      mul_le_mul (by omega) (by exact_mod_cast h) (by omega) (by norm_num)
    rw [Int.neg_mul] at prod
    have sign : v.toInt * g ≤ 0 := mul_nonpos_of_nonpos_of_nonneg (by omega) (by omega)
    split <;> omega

theorem State.feedOf_free {j : Zone} (free : (s.zones.get j).taken = false) :
    (s.feedOf j).toInt = max (-8388608) (min 8388607 (roundSum (s.zoneSum j))) := by
  rw [State.feedOf, free, if_neg Bool.false_ne_true, toInt_limitSample]

theorem State.feedOf_taken {j : Zone} (taken : (s.zones.get j).taken = true) : (s.feedOf j).toInt =
    roundSum (s.announcement.toInt * (gainUnits (s.settings.system.overrideAttenuation : Nat) : Int)) := by
  rw [State.feedOf, if_pos taken]
  obtain ⟨low, high⟩ := roundSum_gained s.announcement (gainUnits_le (s.settings.system.overrideAttenuation : Nat))
  exact toInt_ofInt_24 low high

end

/-! ### The times that run -/

section
variable {raw debounced : Bool}

theorem debounceDown_running (k : Nat) : debounceDown raw debounced (some (k + 2)) = some (k + 1) := by
  simp [debounceDown]

theorem debounceDown_last : debounceDown raw debounced (some 1) = if raw = debounced then none else some 0 := by
  simp [debounceDown]

end

/-- A pulse that runs is one sample shorter, or has been started anew at this sample (R195). -/
theorem State.pulse_sent {s : State} {p : Port} {k : Nat} (running : (s.events.get p).pulse = some (k + 1)) :
    (s.sendFeeds.tick.events.get p).pulse = some k ∨ (s.sendFeeds.tick.events.get p).pulse = some 47 := by
  rw [State.sendFeeds_eq]
  simp only [State.tick, ByPort.get_map]
  split
  · rw [State.post_get, PortEvents.add]
    split
    · exact .inr rfl
    · exact .inl (by rw [running]; rfl)
  · exact .inl (by rw [running]; rfl)

/-- Settles O44. -/
theorem outputSamplesAreFormed : Obligations.OutputSamplesAreFormed := by
  unfold Obligations.OutputSamplesAreFormed
  refine ⟨fun s awake => ?_, fun s awake => ?_⟩
  · refine ⟨_, exec_outputSample awake, ?_⟩
    have crosspoints : s.moved.sendFeeds.tick.crosspoints = s.moved.crosspoints := by rw [State.sendFeeds_eq]; rfl
    have feed (j : Zone) : s.moved.sendFeeds.tick.feeds.get j = s.moved.feedOf j := by
      rw [State.sendFeeds_eq]
      exact Table.get_ofFn ..
    refine ⟨fun n j => ?_, fun n j still => ?_, ?_, fun j taken => ?_, ?_⟩
    · rw [crosspoints, State.moved_get]
    · rw [crosspoints, State.moved_get, Crosspoint.advance_endFade_of_still still]
    · rw [crosspoints]
      intro exact rounded limited
      have sum (j : Zone) : roundSum (s.moved.zoneSum j) = rounded j := roundSum_eq _
      have clips (j : Zone) : s.moved.zoneClips j = true ↔ limited j := by
        rw [State.zoneClips, limitSample_ne, sum]
      refine ⟨fun j free => ?_, fun some p => ?_, fun none p => ?_⟩
      · rw [feed, State.feedOf_free (by exact free), sum]
      · obtain ⟨j, limited⟩ := some
        rw [State.sticky_sent, if_pos (State.anyClips.mpr ⟨j, (clips j).mpr limited⟩)]
        rfl
      · rw [State.sticky_sent, if_neg]
        · rfl
        · rw [State.anyClips]
          rintro ⟨j, clip⟩
          exact none j ((clips j).mp clip)
    · rw [feed, State.feedOf_taken (by exact taken)]
      rfl
    · rw [State.sendFeeds_eq]
      exact ⟨rfl, rfl, rfl, rfl, rfl, rfl, rfl, rfl, rfl⟩
  · refine ⟨_, exec_outputSample awake, ?_⟩
    have sent : s.moved.sendFeeds = { s.moved with
        feeds := s.moved.sendFeeds.feeds, events := s.moved.sendFeeds.events } := by rw [State.sendFeeds_eq]
    have socket (n : Channel) : s.moved.sendFeeds.tick.sockets.get n = (s.sockets.get n).tick := by
      rw [sent]
      exact Table.get_map ..
    have contact (i : ContactIn) : s.moved.sendFeeds.tick.contacts.get i = { s.contacts.get i with
        debounce := debounceDown (s.contacts.get i).raw (s.contacts.get i).debounced (s.contacts.get i).debounce } := by
      rw [sent]
      exact Table.get_map ..
    have port (p : Port) : s.moved.sendFeeds.tick.ports.get p = (s.ports.get p).tick := by
      rw [sent]
      exact ByPort.get_map ..
    have line : s.moved.sendFeeds.tick.override = { s.override with
        debounce := debounceDown s.override.raw s.override.debounced s.override.debounce } := by
      rw [sent]
      rfl
    refine ⟨fun n k sensing => ?_, fun n k ramping => ?_, fun n k running => ?_, fun n last => ?_, fun n => ?_,
      fun k running => ?_, ?_, ?_, fun i k running => ?_, fun i => ?_, ?_, fun p => ⟨fun frame k receiving => ?_,
      fun idle => ?_, fun k running => State.pulse_sent running⟩⟩
    · rw [socket, Socket.tick, sensing]
    · rw [socket, Socket.tick, ramping]
    · rw [socket, Socket.tick, running, debounceDown_running]
    · rw [socket, Socket.tick, last, debounceDown_last]
    · rw [socket]
      exact ⟨rfl, rfl, rfl⟩
    · rw [line, running, debounceDown_running]
    · rw [line]
    · rw [line]
    · rw [contact, running, debounceDown_running]
    · rw [contact]
    · rw [sent]
      rfl
    · rw [port, receiving, Handler.tick]
    · rw [port]
      cases handler : s.ports.get p with
      | receiving frame k => exact absurd handler (idle frame k)
      | _ => rfl

end Sys2Proof.Machine
end

section
/-! SUPPORT. What the entries and exits of the open sets leave, whole: the gates, the one group that moves, and the kinds
posted (R94, R96, R113 to R116). -/

namespace Sys2Proof.Machine

open Sys2Proof.Safety

theorem Table.set_set {n : Nat} {α : Type} (t : Table n α) (i : Fin n) (a b : α) : (t.set i a).set i b = t.set i b :=
  Table.ext_get fun j => by
    by_cases same : i = j
    · subst same
      rw [Table.get_set_self, Table.get_set_self]
    · rw [Table.get_set_other _ _ same, Table.get_set_other _ _ same, Table.get_set_other _ _ same]

/-- A gate put into a state in which the hold counter is 0 (R86). -/
def Gate.put (st : GateState) (x : Gate) : Gate := { x with state := st, holdCounter := 0 }

/-- The record with which Mn enters a set (R110). -/
def Mix.recordOf (n : Channel) (kind : EntryKind) (m : Mix) : Member := ⟨n, kind, (m.gates.get n).latest⟩

namespace Mix

section
variable {m : Mix} {n : Channel} {g : Group}

theorem setState_eq (n : Channel) (st : GateState) (m : Mix) :
    m.setState n st = { m with gates := m.gates.set n ((m.gates.get n).put st) } := rfl

/-- An exit, whole (R94, R96). -/
theorem evict_eq (found : memberGroup m.groups n = some g) (st : GateState) : m.evict n st =
    ⟨m.gates.set n ((m.gates.get n).put st),
      m.groups.set g { m.groups.get g with members := without n (m.groups.get g).members },
      m.posted ||| EventKind.gateClosed.mask⟩ := by
  rw [evict, found]
  rfl

/-- An entry of a channel that waits for no other set, whole (R96, R110, R115). -/
theorem join_eq (elsewhere : ∀ h, h ≠ g → n ∉ (m.groups.get h).waiting) (kind : EntryKind) : m.join g n kind =
    ⟨m.gates.set n ((m.gates.get n).put .opened),
      m.groups.set g { m.groups.get g with
        members := (m.groups.get g).members ++ [m.recordOf n kind]
        waiting := (m.groups.get g).waiting.filter fun w => w != n },
      m.posted ||| EventKind.gateOpened.mask⟩ := by
  have groups : (m.join g n kind).groups = m.groups.set g { m.groups.get g with
      members := (m.groups.get g).members ++ [m.recordOf n kind]
      waiting := (m.groups.get g).waiting.filter fun w => w != n } := Table.ext_get fun h => by
    by_cases same : g = h
    · subst same
      rw [join_groups_get_self, Table.get_set_self]
      rfl
    · rw [join_groups_get_other m n kind same, Table.get_set_other _ _ same,
        Law.filter_waiting_of_not_mem (elsewhere h (Ne.symm same))]
  calc m.join g n kind = ⟨(m.join g n kind).gates, (m.join g n kind).groups, (m.join g n kind).posted⟩ := rfl
    _ = _ := by rw [groups]; rfl

/-- A member that gives its place to a channel that waits for no other set, whole. -/
theorem swap_eq {k : Channel} (found : memberGroup m.groups k = some g) (other : k ≠ n)
    (elsewhere : ∀ h, h ≠ g → n ∉ (m.groups.get h).waiting) (st : GateState) (kind : EntryKind) :
    (m.evict k st).join g n kind =
      ⟨(m.gates.set k ((m.gates.get k).put st)).set n ((m.gates.get n).put .opened),
        m.groups.set g { m.groups.get g with
          members := without k (m.groups.get g).members ++ [m.recordOf n kind]
          waiting := (m.groups.get g).waiting.filter fun w => w != n },
        m.posted ||| gateKinds⟩ := by
  have gate : (m.evict k st).gates.get n = m.gates.get n := evict_get_other _ m other
  rw [join_eq (fun h apart => by rw [evict_groups_get_other found _ (Ne.symm apart)]; exact elsewhere h apart), gate,
    recordOf, gate, evict_groups_get_self found, evict_eq found]
  simp only [Table.set_set, BitVec.or_assoc, gateKinds, BitVec.or_comm EventKind.gateClosed.mask, recordOf]

end

/-! ### A forced ask (R114 to R116) -/

/-- The record with which a channel enters as FORCED, and what an entry makes of the gates and the set of `g`. -/
structure Asked (maxOpen : Nat) (m m' : Mix) (g : Group) (n : Channel) : Prop where
  near : ∃ members waiting, m'.groups = m.groups.set g ⟨(m.groups.get g).holder, members, waiting⟩
  beside : ∀ y, (m.groups.get g).members = [y] → (m.gates.get y.channel).state = .lastOn → y.channel ≠ n ∧ m' =
    ⟨(m.gates.set y.channel ((m.gates.get y.channel).put .closed)).set n ((m.gates.get n).put .opened),
      m.groups.set g { m.groups.get g with members := [m.recordOf n .forced] }, m.posted ||| gateKinds⟩
  room : (∀ y ∈ (m.groups.get g).members, (m.gates.get y.channel).state ≠ .lastOn) →
    (m.groups.get g).members.length < maxOpen → m' =
    ⟨m.gates.set n ((m.gates.get n).put .opened),
      m.groups.set g { m.groups.get g with members := (m.groups.get g).members ++ [m.recordOf n .forced] },
      m.posted ||| EventKind.gateOpened.mask⟩
  bump : (∀ y ∈ (m.groups.get g).members, (m.gates.get y.channel).state ≠ .lastOn) →
    maxOpen ≤ (m.groups.get g).members.length → ∀ v, quietest (m.groups.get g).members = some v → v.channel ≠ n ∧ m' =
    ⟨(m.gates.set v.channel ((m.gates.get v.channel).put .closed)).set n ((m.gates.get n).put .opened),
      m.groups.set g { m.groups.get g with
        members := without v.channel (m.groups.get g).members ++ [m.recordOf n .forced] }, m.posted ||| gateKinds⟩
  waits : maxOpen ≤ (m.groups.get g).members.length → (∀ y ∈ (m.groups.get g).members, y.kind = .forced) → m' =
    ⟨m.gates, m.groups.set g { m.groups.get g with waiting := (m.groups.get g).waiting ++ [n] }, m.posted⟩

theorem quietest_forced {ms : List Member} (forced : ∀ y ∈ ms, y.kind = .forced) : quietest ms = none := by
  cases found : quietest ms with
  | none => rfl
  | some v =>
    obtain ⟨member, auto, -⟩ := quietest_some found
    rw [forced v member] at auto
    cases auto

/-- A set full of FORCED members, none in LAST_ON, grants no forced ask (R114). -/
theorem grantable_full {m : Mix} {maxOpen : Nat} {g : Group} (full : maxOpen ≤ (m.groups.get g).members.length)
    (forced : ∀ y ∈ (m.groups.get g).members, y.kind = .forced)
    (noLastOn : ∀ y ∈ (m.groups.get g).members, (m.gates.get y.channel).state ≠ .lastOn) :
    m.grantable maxOpen g = false := by
  simp only [grantable, lastOnMember_none.mpr noLastOn, quietest_forced forced, GroupState.openCount, Option.isSome_none,
    Bool.false_or, Bool.or_false]
  exact decide_eq_false (Nat.not_lt.mpr full)

section
variable {grp : Channel → Option Group} {ok due : Channel → Prop} {m₀ m : Mix} {n : Channel} {g : Group} {maxOpen : Nat}

/-- `m` is `m₀` with the gate of Mn changed, as where its effective mode has been stored before its gate reacts (R92). -/
structure GateChanged (m₀ m : Mix) (n : Channel) : Prop where
  groups : m.groups = m₀.groups
  others : ∀ k, k ≠ n → m.gates.get k = m₀.gates.get k
  latest : (m.gates.get n).latest = (m₀.gates.get n).latest

theorem GateChanged.refl (m : Mix) (n : Channel) : GateChanged m m n := ⟨rfl, fun _ _ => rfl, rfl⟩

theorem Law.lastOnMember_of_alone {y : Member} (alone : (m.groups.get g).members = [y])
    (lastOn : (m.gates.get y.channel).state = .lastOn) : m.lastOnMember g = some y := by
  simp [Mix.lastOnMember, alone, lastOn]

/-- A set beside a forced-wait list that is not empty is full of FORCED members (R115), and none of them is in LAST_ON. -/
theorem Law.lastOn_of_forced (law : m.Law grp ok due) {y : Member} (member : y ∈ (m.groups.get g).members)
    (forced : y.kind = .forced) : (m.gates.get y.channel).state ≠ .lastOn := fun lastOn =>
  law.mode_ne_of_lastOn lastOn ((law.kind g y member).mp forced)

/-- What becomes of a forced ask of a channel that does not sound and does not wait (R114, R115). -/
theorem Law.asked (law : m₀.Law grp ok due) (changed : GateChanged m₀ m n)
    (silent : sounding (m₀.gates.get n).state = false) (fresh : ∀ h, n ∉ (m₀.groups.get h).waiting) : Asked maxOpen m
      (if m.grantable maxOpen g then m.enterForced maxOpen g n else m.enqueueWaiting g n) g n := by
  obtain ⟨groups, others, -⟩ := changed
  rw [← groups] at fresh
  have listed : (m.groups.get g).waiting.filter (fun w => w != n) = (m.groups.get g).waiting :=
    filter_waiting_of_not_mem (fresh g)
  have apart {y : Member} (member : y ∈ (m.groups.get g).members) : y.channel ≠ n :=
    law.channel_ne_of_silent silent (by rw [← groups]; exact member)
  have swapped {y : Member} (member : y ∈ (m.groups.get g).members) :=
    swap_eq (by rw [groups]; exact law.memberGroup_eq (by rw [← groups]; exact member)) (apart member)
      (fun h _ => fresh h) .closed .forced
  have joined := join_eq (g := g) (fun h _ => fresh h) .forced (m := m)
  have enqueued : m.enqueueWaiting g n =
      ⟨m.gates, m.groups.set g { m.groups.get g with waiting := (m.groups.get g).waiting ++ [n] }, m.posted⟩ := by
    have absent : (m.groups.get g).waiting.contains n = false := by simpa using fresh g
    simp only [Mix.enqueueWaiting, onGroup, Table.modify, absent, Bool.false_eq_true, if_false]
  rw [listed] at joined
  refine ⟨?_, fun y alone lastOn => ?_, fun noLastOn space => ?_, fun noLastOn full v found => ?_, fun full forced => ?_⟩
  · cases granted : m.grantable maxOpen g with
    | false =>
      rw [if_neg Bool.false_ne_true, enqueued]
      exact ⟨_, _, rfl⟩
    | true =>
      rw [if_pos rfl]
      obtain ⟨y, found, h⟩ | ⟨-, -, h⟩ | ⟨-, -, y, found, h⟩ := enterForced_cases n granted <;> rw [h]
      · rw [swapped (lastOnMember_some found).1]
        exact ⟨_, _, rfl⟩
      · rw [joined]
        exact ⟨_, _, rfl⟩
      · rw [swapped (quietest_some found).1]
        exact ⟨_, _, rfl⟩
  · have found := lastOnMember_of_alone alone lastOn
    have member : y ∈ (m.groups.get g).members := by rw [alone]; exact List.mem_singleton_self y
    have granted : m.grantable maxOpen g = true := by simp [grantable, found]
    have emptied : without y.channel [y] = [] := by simp [without]
    refine ⟨apart member, ?_⟩
    rw [if_pos granted, Mix.enterForced, found]
    simp only
    rw [swapped member, listed, alone, emptied, List.nil_append]
  · have none := lastOnMember_none.mpr noLastOn
    have granted : m.grantable maxOpen g = true := by simp [grantable, GroupState.openCount, space]
    rw [if_pos granted, Mix.enterForced, none]
    exact (if_pos space).trans joined
  · have none := lastOnMember_none.mpr noLastOn
    have granted : m.grantable maxOpen g = true := by simp [grantable, found]
    refine ⟨apart (quietest_some found).1, ?_⟩
    rw [if_pos granted, Mix.enterForced, none]
    simp only [GroupState.openCount, if_neg (Nat.not_lt.mpr full), found]
    rw [swapped (quietest_some found).1, listed]
  · have noLastOn {y : Member} (member : y ∈ (m.groups.get g).members) : (m.gates.get y.channel).state ≠ .lastOn := by
      rw [others _ (apart member)]
      exact law.lastOn_of_forced (by rw [← groups]; exact member) (forced y member)
    rw [grantable_full full forced fun y member => noLastOn member, if_neg Bool.false_ne_true, enqueued]

end

end Mix

end Sys2Proof.Machine
end

section
/-! SUPPORT. What the exit of a member leaves where channels wait for its place and where none does, and what a new effective
mode makes of a gate and its set (R93, R94, R112, R115). -/

namespace Sys2Proof.Machine

open Sys2Proof.Safety

namespace Mix

theorem offerList_full {m : Mix} {maxOpen : Nat} {g : Group} (full : maxOpen ≤ (m.groups.get g).members.length)
    (forced : ∀ y ∈ (m.groups.get g).members, y.kind = .forced)
    (noLastOn : ∀ y ∈ (m.groups.get g).members, (m.gates.get y.channel).state ≠ .lastOn) (ws : List Channel) :
    offerList maxOpen g ws m = m := by
  cases ws with
  | nil => rfl
  | cons w ws => rw [offerList, grantable_full full forced noLastOn, if_neg Bool.false_ne_true]

section
variable {grp : Channel → Option Group} {ok due : Channel → Prop} {m₀ m : Mix} {n w : Channel} {g : Group}
  {c : Settings} {rest : List Channel}

/-- A set whose member Mn has given its place to the first waiting channel is full of FORCED members again (R115). -/
theorem Law.replaced (law : m₀.Law grp ok due) (fits : (m₀.groups.get g).Fits (c.groupRecord g).maxOpen) {y : Member}
    (member : y ∈ (m₀.groups.get g).members) (list : (m₀.groups.get g).waiting = w :: rest)
    {gates : Table 16 Gate} (others : ∀ k, k ≠ y.channel → k ≠ w → gates.get k = m₀.gates.get k)
    (opened : (gates.get w).state = .opened) {record : Member} (channel : record.channel = w) (kind : record.kind = .forced)
    (posted : EventMask) (ws : List Channel) {holder : Option Port} {waiting : List Channel} :
    Mix.offerList (c.groupRecord g).maxOpen g ws ⟨gates, m₀.groups.set g
      ⟨holder, without y.channel (m₀.groups.get g).members ++ [record], waiting⟩, posted⟩ =
    ⟨gates, m₀.groups.set g ⟨holder, without y.channel (m₀.groups.get g).members ++ [record], waiting⟩, posted⟩ := by
  obtain ⟨full, forced⟩ := fits.full (by rw [list]; exact List.cons_ne_nil _ _)
  have length := law.length_without member
  refine offerList_full ?_ ?_ ?_ ws
  · simp only [Table.get_set_self, List.length_append, List.length_singleton]
    omega
  · simp only [Table.get_set_self, List.mem_append, List.mem_singleton]
    rintro x (old | rfl)
    · exact forced x (List.mem_of_mem_filter old)
    · exact kind
  · simp only [Table.get_set_self, List.mem_append, List.mem_singleton]
    rintro x (old | rfl)
    · obtain ⟨old, apart⟩ := List.mem_filter.mp old
      by_cases same : x.channel = w
      · rw [same, opened]
        decide
      · rw [others x.channel (by simpa using apart) same]
        exact law.lastOn_of_forced old (forced x old)
    · rw [channel, opened]
      decide

theorem Law.waits_apart (law : m₀.Law grp ok due) (list : (m₀.groups.get g).waiting = w :: rest) :
    (∀ h, h ≠ g → w ∉ (m₀.groups.get h).waiting) ∧ sounding (m₀.gates.get w).state = false ∧
      (w :: rest).filter (fun k => k != w) = rest := by
  have first : w ∈ (m₀.groups.get g).waiting := by rw [list]; exact List.mem_cons_self
  obtain ⟨closed, -, own⟩ := law.waits g w first
  refine ⟨fun h apart listed => apart ?_, by rw [closed]; rfl, ?_⟩
  · exact Option.some.inj ((law.waits h w listed).2.2.symm.trans own)
  · have once := law.queue g
    rw [list, List.nodup_cons] at once
    rw [List.filter_cons_of_neg (by simp)]
    exact filter_waiting_of_not_mem once.1

/-- The exit of a member for whose place nobody waits, whole (R94). -/
theorem Law.leave_alone (law : m₀.Law grp ok due) (changed : GateChanged m₀ m n) (found : memberGroup m₀.groups n = some g)
    (empty : (m₀.groups.get g).waiting = []) (st : GateState) : m.leave c n st =
    ⟨m.gates.set n ((m.gates.get n).put st),
      m.groups.set g { m.groups.get g with members := without n (m.groups.get g).members },
      m.posted ||| EventKind.gateClosed.mask⟩ := by
  obtain ⟨groups, -⟩ := changed
  have unlisted : m.unwait n = m := unwait_eq_self fun h => by
    rw [groups]
    refine law.not_mem_waiting (fun closed => ?_) h
    have sounds := (law.sounding_of_memberGroup found).1
    rw [closed] at sounds
    cases sounds
  have inside : memberGroup m.groups n = some g := by rw [groups]; exact found
  rw [Mix.leave, inside]
  simp only [unlisted]
  rw [offer_of_none, evict_eq inside]
  rw [evict_groups_get_self inside, groups]
  exact empty

/-- The exit of a member for whose place channels wait, whole: the first of them takes it as FORCED (R94, R115). -/
theorem Law.leave_next (law : m₀.Law grp ok due) (changed : GateChanged m₀ m n)
    (fits : (m₀.groups.get g).Fits (c.groupRecord g).maxOpen) (found : memberGroup m₀.groups n = some g)
    (list : (m₀.groups.get g).waiting = w :: rest) (st : GateState) : n ≠ w ∧ m.leave c n st =
    ⟨(m.gates.set n ((m.gates.get n).put st)).set w ((m.gates.get w).put .opened),
      m.groups.set g ⟨(m.groups.get g).holder, without n (m.groups.get g).members ++ [m.recordOf w .forced], rest⟩,
      m.posted ||| gateKinds⟩ := by
  obtain ⟨groups, others, -⟩ := changed
  obtain ⟨elsewhere, silent, filtered⟩ := law.waits_apart list
  have sounds := (law.sounding_of_memberGroup found).1
  have unlisted : m.unwait n = m := unwait_eq_self fun h => by
    rw [groups]
    refine law.not_mem_waiting (fun closed => ?_) h
    rw [closed] at sounds
    cases sounds
  have inside : memberGroup m.groups n = some g := by rw [groups]; exact found
  obtain ⟨y, member, rfl⟩ := holds_of_memberGroup found
  have apart : y.channel ≠ w := law.channel_ne_of_silent silent member
  obtain ⟨full, forced⟩ := fits.full (by rw [list]; exact List.cons_ne_nil _ _)
  have length := law.length_without member
  refine ⟨apart, ?_⟩
  have entered := swap_eq inside apart (fun h other => by rw [groups]; exact elsewhere h other) st .forced
  have evicted := evict_groups_get_self inside st
  have noLastOn : (m.evict y.channel st).lastOnMember g = none := lastOnMember_none.mpr fun z => by
    rw [evicted, groups]
    intro old
    obtain ⟨old, other⟩ := List.mem_filter.mp old
    have other : y.channel ≠ z.channel := fun same => by simp [same] at other
    rw [evict_get_other st m other, others _ (Ne.symm other)]
    exact law.lastOn_of_forced old (forced z old)
  have space : ((m.evict y.channel st).groups.get g).openCount < (c.groupRecord g).maxOpen := by
    rw [GroupState.openCount, evicted, groups]
    have := fits.bound
    change (without y.channel (m₀.groups.get g).members).length < _
    omega
  have granted : (m.evict y.channel st).grantable (c.groupRecord g).maxOpen g = true := by
    simp [grantable, space]
  rw [Mix.leave, inside]
  simp only [unlisted]
  rw [Mix.offer, evicted, groups, list, Mix.offerList, if_pos granted, Mix.enterForced, noLastOn]
  simp only [space, if_true]
  rw [entered, groups, list, filtered]
  refine law.replaced fits member list (fun k first second => ?_) ?_ rfl rfl _ rest
  · rw [Table.get_set_other _ _ (Ne.symm second), Table.get_set_other _ _ (Ne.symm first)]
    exact others k first
  · rw [Table.get_set_self]
    rfl

end

end Mix

end Sys2Proof.Machine
end

section
/-! SUPPORT. A new effective mode of a member (R93, R112), and the outcomes at the level of the state: the set that moves
alone, the asks of R111, a forced ask, an exit and a new mode (R92 to R94, R111 to R116). -/

namespace Sys2Proof.Machine

open Sys2Proof.Safety

namespace Mix

section
variable {grp : Channel → Option Group} {ok due : Channel → Prop} {m₀ m : Mix} {n w : Channel} {g : Group}
  {c : Settings} {rest : List Channel}

/-- The kind of Mn in the records of a list. -/
def kindSet (n : Channel) (kind : EntryKind) (ms : List Member) : List Member :=
  ms.map fun y => if y.channel = n then { y with kind := kind } else y

/-- The kind of Mn changed in the records of one group alone. -/
def turned (g : Group) (n : Channel) (kind : EntryKind) (m : Mix) : Mix :=
  { m with groups := m.groups.set g { m.groups.get g with members := kindSet n kind (m.groups.get g).members } }

theorem without_kindSet (n : Channel) (kind : EntryKind) (ms : List Member) : without n (kindSet n kind ms) = without n ms := by
  induction ms with
  | nil => rfl
  | cons y ms ih =>
    rw [kindSet, List.map_cons, ← kindSet, without, without, List.filter_cons, List.filter_cons, ← without, ← without, ih]
    by_cases same : y.channel = n
    · simp [same]
    · simp [same]

/-- A member's kind changed, whole. -/
theorem Law.setKind_eq (law : m₀.Law grp ok due) (groups : m.groups = m₀.groups)
    (found : memberGroup m₀.groups n = some g) (kind : EntryKind) : m.setKind n kind = m.turned g n kind := by
  have same : (m.setKind n kind).groups =
      m.groups.set g { m.groups.get g with members := kindSet n kind (m.groups.get g).members } := Table.ext_get fun h => by
    rw [setKind_groups_get]
    by_cases at_g : g = h
    · subst at_g
      rw [Table.get_set_self]
      rfl
    · rw [Table.get_set_other _ _ at_g, groups]
      have elsewhere : (m₀.groups.get h).members.map (fun y => if y.channel = n then { y with kind := kind } else y) =
          (m₀.groups.get h).members := by
        refine (List.map_congr_left fun y member => if_neg fun own => at_g ?_).trans (List.map_id _)
        have there := law.memberGroup_eq member
        rw [own, found] at there
        exact Option.some.inj there
      rw [elsewhere]
  calc m.setKind n kind = ⟨(m.setKind n kind).gates, (m.setKind n kind).groups, (m.setKind n kind).posted⟩ := rfl
    _ = _ := by rw [same]; rfl

/-- A FORCED member turned to AUTO keeps its place where no channel waits, and gives it to the first that does (R93, R112,
R115). -/
theorem Law.becomeAuto_eq (law : m₀.Law grp ok due) (changed : GateChanged m₀ m n)
    (found : memberGroup m₀.groups n = some g) (forced : (m₀.gates.get n).mode = .forceOpen) :
    m.becomeAuto c n = (m.turned g n .auto).offer c g := by
  obtain ⟨y, member, rfl⟩ := holds_of_memberGroup found
  have inside : memberGroup m.groups y.channel = some g := by rw [changed.groups]; exact found
  have any : (m.groups.get g).members.any (fun z => z.channel == y.channel && z.kind == .forced) = true := by
    rw [changed.groups]
    exact List.any_eq_true.mpr ⟨y, member, by simp [(law.kind g y member).mpr forced]⟩
  rw [Mix.becomeAuto, inside]
  simp only [any, if_true]
  rw [law.setKind_eq changed.groups found]

theorem Law.becomeAuto_alone (law : m₀.Law grp ok due) (changed : GateChanged m₀ m n)
    (found : memberGroup m₀.groups n = some g) (forced : (m₀.gates.get n).mode = .forceOpen)
    (empty : (m₀.groups.get g).waiting = []) : m.becomeAuto c n = m.turned g n .auto := by
  rw [law.becomeAuto_eq changed found forced]
  refine offer_of_none ?_
  rw [turned, Table.get_set_self, changed.groups]
  exact empty

theorem Law.becomeAuto_yields (law : m₀.Law grp ok due) (changed : GateChanged m₀ m n)
    (fits : (m₀.groups.get g).Fits (c.groupRecord g).maxOpen) (found : memberGroup m₀.groups n = some g)
    (forced : (m₀.gates.get n).mode = .forceOpen) (state : (m.gates.get n).state = (m₀.gates.get n).state)
    (list : (m₀.groups.get g).waiting = w :: rest) : n ≠ w ∧ m.becomeAuto c n =
      ⟨(m.gates.set n ((m.gates.get n).put .closed)).set w ((m.gates.get w).put .opened),
        m.groups.set g ⟨(m.groups.get g).holder, without n (m.groups.get g).members ++ [m.recordOf w .forced], rest⟩,
        m.posted ||| gateKinds⟩ := by
  rw [law.becomeAuto_eq changed found forced]
  obtain ⟨groups, others, -⟩ := changed
  obtain ⟨elsewhere, silent, filtered⟩ := law.waits_apart list
  obtain ⟨y, member, rfl⟩ := holds_of_memberGroup found
  have apart : y.channel ≠ w := law.channel_ne_of_silent silent member
  obtain ⟨full, allForced⟩ := fits.full (by rw [list]; exact List.cons_ne_nil _ _)
  refine ⟨apart, ?_⟩
  generalize same : m.turned g y.channel .auto = x
  have set : x.groups.get g = { m₀.groups.get g with members := kindSet y.channel .auto (m₀.groups.get g).members } := by
    rw [← same, turned, Table.get_set_self, groups]
  have gates : x.gates = m.gates := by rw [← same]; rfl
  have back {z : Member} (old : z ∈ (x.groups.get g).members) : ∃ z₀ ∈ (m₀.groups.get g).members,
      z = if z₀.channel = y.channel then { z₀ with kind := .auto } else z₀ := by
    rw [set] at old
    obtain ⟨z₀, old, eq⟩ := List.mem_map.mp old
    exact ⟨z₀, old, eq.symm⟩
  have noLastOn : x.lastOnMember g = none := lastOnMember_none.mpr fun z new => by
    obtain ⟨z₀, old, rfl⟩ := back new
    have still := law.lastOn_of_forced old (allForced z₀ old)
    rw [gates]
    by_cases own : z₀.channel = y.channel
    · rw [if_pos own]
      change (m.gates.get z₀.channel).state ≠ .lastOn
      rw [own, state, ← own]
      exact still
    · rw [if_neg own, others _ own]
      exact still
  have quiet : ∃ v, quietest (x.groups.get g).members = some v ∧ v.channel = y.channel := by
    cases quietest_x : quietest (x.groups.get g).members with
    | none =>
      have kind := kind_of_quietest_none quietest_x { y with kind := .auto } (by
        rw [set]
        exact List.mem_map.mpr ⟨y, member, if_pos rfl⟩)
      cases kind
    | some v =>
      obtain ⟨new, auto, -⟩ := quietest_some quietest_x
      obtain ⟨z₀, old, rfl⟩ := back new
      refine ⟨_, rfl, ?_⟩
      by_cases own : z₀.channel = y.channel
      · rw [if_pos own]
        exact own
      · rw [if_neg own, allForced z₀ old] at auto
        cases auto
  obtain ⟨v, loudest, own⟩ := quiet
  have inside : memberGroup x.groups y.channel = some g := by
    have names (h : Group) : (x.groups.get h).holds y.channel = (m₀.groups.get h).holds y.channel := by
      by_cases at_g : g = h
      · subst at_g
        rw [set, Bool.eq_iff_iff, GroupState.holds_iff, GroupState.holds_iff]
        refine iff_of_true ⟨_, List.mem_map.mpr ⟨y, member, if_pos rfl⟩, rfl⟩ ⟨y, member, rfl⟩
      · rw [← same, turned, Table.get_set_other _ _ at_g, groups]
    rw [memberGroup] at found ⊢
    simpa only [names] using found
  have space : ¬(x.groups.get g).openCount < (c.groupRecord g).maxOpen := by
    rw [GroupState.openCount, set, kindSet]
    simpa using full
  have granted : x.grantable (c.groupRecord g).maxOpen g = true := by simp [grantable, loudest]
  have listed : (x.groups.get g).waiting = w :: rest := by rw [set]; exact list
  have entered := swap_eq inside apart (fun h other => by
    rw [← same, turned, Table.get_set_other _ _ (Ne.symm other), groups]
    exact elsewhere h other) .closed .forced
  rw [Mix.offer, listed, Mix.offerList, if_pos granted, Mix.enterForced, noLastOn]
  simp only [space, if_false, loudest]
  rw [own, entered, set]
  simp only [list, filtered, without_kindSet, gates, groups]
  have whole : x.groups.set g ⟨(m₀.groups.get g).holder, without y.channel (m₀.groups.get g).members ++
      [x.recordOf w .forced], rest⟩ = m₀.groups.set g ⟨(m₀.groups.get g).holder,
        without y.channel (m₀.groups.get g).members ++ [m.recordOf w .forced], rest⟩ := by
    rw [← same, turned, Table.set_set, groups]
    rfl
  have posted : x.posted = m.posted := by rw [← same]; rfl
  rw [whole, posted]
  refine law.replaced fits member list (fun k first second => ?_) ?_ rfl rfl _ rest
  · rw [Table.get_set_other _ _ (Ne.symm second), Table.get_set_other _ _ (Ne.symm first)]
    exact others k first
  · rw [Table.get_set_self]
    rfl

end

end Mix

end Sys2Proof.Machine
end

section
/-! SUPPORT. The outcomes at the level of the state: the set that moves alone, the asks of R111, a forced ask, an exit and a
new effective mode (R92 to R94, R111 to R116), and what every event that ends in the re-evaluation of R63 leaves. -/

namespace Sys2Proof.Machine

open Sys2Proof.Safety

/-! ### The end of an event -/

/-- Where one group's open count alone can have changed, it alone can be asked of the engine (R111). -/
theorem Engine.askCounts_only (e : Engine) {before after : Table 6 GroupState} {g : Group}
    (others : ∀ h, h ≠ g → (before.get h).members.length = (after.get h).members.length) : e.askCounts before after =
      if (before.get g).members.length = (after.get g).members.length then e else e.askGroup g := by
  have skip (gs : List Group) (out : g ∉ gs) (e : Engine) : gs.foldl (fun e h =>
      if (before.get h).members.length = (after.get h).members.length then e else e.askGroup h) e = e := by
    induction gs generalizing e with
    | nil => rfl
    | cons h gs ih =>
      rw [List.mem_cons, not_or] at out
      rw [List.foldl_cons, if_pos (others h (Ne.symm out.1))]
      exact ih out.2 e
  have once (gs : List Group) (nodup : gs.Nodup) (mem : g ∈ gs) (e : Engine) : gs.foldl (fun e h =>
      if (before.get h).members.length = (after.get h).members.length then e else e.askGroup h) e =
        if (before.get g).members.length = (after.get g).members.length then e else e.askGroup g := by
    induction gs generalizing e with
    | nil => cases mem
    | cons h gs ih =>
      obtain ⟨fresh, nodup⟩ := List.nodup_cons.mp nodup
      rw [List.foldl_cons]
      obtain rfl | mem := List.mem_cons.mp mem
      · rw [skip gs fresh]
      · rw [if_pos (others h (ne_of_mem_of_not_mem mem fresh).symm)]
        exact ih nodup mem e
  exact once _ (List.nodup_finRange 6) (List.mem_finRange g) e

theorem Engine.askCounts_set (e : Engine) (before : Table 6 GroupState) (g : Group) (x : GroupState) :
    e.askCounts before (before.set g x) =
      if (before.get g).members.length = x.members.length then e else e.askGroup g := by
  rw [Engine.askCounts_only e fun h other => by rw [Table.get_set_other _ _ (Ne.symm other)], Table.get_set_self]

section
variable {s u t : State} {g : Group}

/-- The re-evaluation of R63 leaves every target the effective one, whatever the event has done. -/
theorem targetLaw_retarget (u : State) : TargetLaw u.retarget := fun n j => by
  rw [State.retarget_crosspoints, Table.get_map, Table.get_map, Crosspoint.retarget_target]
  have live : u.retarget.live n j = u.live n j := rfl
  rw [State.targetOf, State.targetOf, live, Crosspoint.retarget_eq]

theorem targetLaw_settle (u s : State) : TargetLaw (u.settle s) := targetLaw_retarget _

/-- An event whose gates and groups end as they were, of a channel or none, moves no crosspoint and asks nothing. -/
theorem State.settle_of_groups (law : TargetLaw s) (crosspoints : u.crosspoints = s.crosspoints) (groups : u.groups = s.groups)
    (settings : u.settings = s.settings) (zones : u.zones = s.zones) (standby : u.standby = s.standby) : u.settle s = u :=
  State.settle_of_targetLaw (targetLaw_of_live law crosspoints fun n j => State.live_congr settings groups zones standby n j)
    fun h => by rw [groups]

/-- What one group's new set and list leave of the others, and what they ask (R111). -/
theorem onlySetMoved_of_set {members : List Member} {waiting : List Channel}
    (groups : t.groups = s.groups.set g ⟨(s.groups.get g).holder, members, waiting⟩)
    (engine : t.engine.queue = (s.engine.askCounts s.groups t.groups).queue) : OnlySetMoved s t g := by
  refine ⟨fun h other => by rw [groups, Table.get_set_other _ _ (Ne.symm other)], by rw [groups, Table.get_set_self], ?_⟩
  rw [engine, groups, Engine.askCounts_set, Table.get_set_self]
  by_cases same : members.length = (s.groups.get g).members.length
  · rw [if_pos same.symm, if_pos same]
  · rw [if_neg (Ne.symm same), if_neg same]
    rfl

end

/-! ### A forced ask -/

section
variable {s t : State} {m m' : Mix} {g : Group} {n : Channel}

/-- A forced ask of a CLOSED channel, at the level of the state (R114 to R116). -/
theorem Mix.Asked.forcedAsk (asked : m.Asked (s.settings.groupRecord g).maxOpen m' g n) (changed : Mix.GateChanged s.mix m n)
    (absent : ∀ y ∈ (s.groups.get g).members, y.channel ≠ n) (closed : (m.gates.get n).state = .closed)
    (rests : (m.gates.get n).holdCounter = 0) (gates : t.gates = m'.gates) (groups : t.groups = m'.groups)
    (engine : t.engine.queue = (s.engine.askCounts s.groups t.groups).queue) : ForcedAsk s t g n := by
  obtain ⟨near, beside, room, bump, waits⟩ := asked
  obtain ⟨same, others, latest⟩ := changed
  have same : m.groups = s.groups := same
  have others (k : Channel) (other : k ≠ n) : m.gates.get k = s.gates.get k := others k other
  have record : m.recordOf n .forced = forcedRecord s n := by rw [Mix.recordOf, latest]; rfl
  rw [same, record] at beside room bump
  rw [same] at near waits
  have heard (quiet : ∀ y ∈ (s.groups.get g).members, (s.gates.get y.channel).state ≠ .lastOn) :
      ∀ y ∈ (s.groups.get g).members, (m.gates.get y.channel).state ≠ .lastOn := fun y member => by
    rw [others _ (absent y member)]
    exact quiet y member
  have swapped {k : Channel} (other : k ≠ n)
      (eq : m'.gates = (m.gates.set k ((m.gates.get k).put .closed)).set n ((m.gates.get n).put .opened)) :
      GateIn t n .opened ∧ GateIn t k .closed ∧ GatesOutside [n, k] s t := by
    refine ⟨?_, ?_, fun l out => ?_⟩
    · rw [GateIn, gates, eq, Table.get_set_self]
      exact ⟨rfl, rfl⟩
    · rw [GateIn, gates, eq, Table.get_set_other _ _ (Ne.symm other), Table.get_set_self]
      exact ⟨rfl, rfl⟩
    · simp only [List.mem_cons, List.not_mem_nil, or_false, not_or] at out
      rw [gates, eq, Table.get_set_other _ _ (Ne.symm out.1), Table.get_set_other _ _ (Ne.symm out.2)]
      exact others l out.1
  refine ⟨?_, fun y alone lastOn => ?_, fun noLastOn space => ?_, fun noLastOn full v found => ?_, fun full forced => ?_⟩
  · obtain ⟨members, waiting, eq⟩ := near
    exact onlySetMoved_of_set (groups.trans eq) engine
  · have apart := absent y (by rw [alone]; exact List.mem_singleton_self y)
    obtain ⟨-, eq⟩ := beside y alone (by rw [others _ apart]; exact lastOn)
    refine ⟨?_, swapped apart (by rw [eq])⟩
    rw [SetIs, groups, eq, Table.get_set_self]
    exact ⟨rfl, rfl⟩
  · have eq := room (heard noLastOn) space
    refine ⟨?_, ?_, fun l out => ?_⟩
    · rw [SetIs, groups, eq, Table.get_set_self]
      exact ⟨rfl, rfl⟩
    · rw [GateIn, gates, eq, Table.get_set_self]
      exact ⟨rfl, rfl⟩
    · rw [List.mem_singleton] at out
      rw [gates, eq, Table.get_set_other _ _ (Ne.symm out)]
      exact others l out
  · obtain ⟨apart, eq⟩ := bump (heard noLastOn) full v found
    refine ⟨?_, swapped apart (by rw [eq])⟩
    rw [SetIs, groups, eq, Table.get_set_self]
    exact ⟨rfl, rfl⟩
  · have eq := waits full forced
    refine ⟨?_, ?_, fun l out => ?_⟩
    · rw [SetIs, groups, eq, Table.get_set_self]
      exact ⟨rfl, rfl⟩
    · rw [GateIn, gates, eq]
      exact ⟨closed, rests⟩
    · rw [List.mem_singleton] at out
      rw [gates, eq]
      exact others l out

/-! ### An exit -/

/-- An exit for whose place nobody waits, at the level of the state (R94). -/
theorem memberLeaves_of_alone {st : GateState} (changed : Mix.GateChanged s.mix m n) (empty : (s.groups.get g).waiting = [])
    (gates : t.gates = m.gates.set n ((m.gates.get n).put st))
    (groups : t.groups = s.groups.set g { s.groups.get g with members := without n (s.groups.get g).members })
    (engine : t.engine.queue = (s.engine.askCounts s.groups t.groups).queue) : MemberLeaves s t g n st := by
  refine ⟨onlySetMoved_of_set groups engine, ?_, fun _ => ⟨?_, fun k out => ?_⟩, fun w rest list => ?_⟩
  · rw [GateIn, gates, Table.get_set_self]
    exact ⟨rfl, rfl⟩
  · rw [SetIs, groups, Table.get_set_self]
    exact ⟨rfl, empty⟩
  · rw [List.mem_singleton] at out
    rw [gates, Table.get_set_other _ _ (Ne.symm out)]
    exact changed.others k out
  · rw [list] at empty
    cases empty

/-- An exit for whose place channels wait, at the level of the state (R94, R115). -/
theorem memberLeaves_of_next {st : GateState} {w : Channel} {rest : List Channel} (changed : Mix.GateChanged s.mix m n)
    (list : (s.groups.get g).waiting = w :: rest) (apart : n ≠ w)
    (gates : t.gates = (m.gates.set n ((m.gates.get n).put st)).set w ((m.gates.get w).put .opened))
    (groups : t.groups = s.groups.set g ⟨(s.groups.get g).holder,
      without n (s.groups.get g).members ++ [m.recordOf w .forced], rest⟩)
    (engine : t.engine.queue = (s.engine.askCounts s.groups t.groups).queue) : MemberLeaves s t g n st := by
  have record : m.recordOf w .forced = forcedRecord s w := by
    rw [Mix.recordOf, changed.others w (Ne.symm apart)]
    rfl
  rw [record] at groups
  refine ⟨onlySetMoved_of_set groups engine, ?_, fun empty => ?_, fun v others eq => ?_⟩
  · rw [GateIn, gates, Table.get_set_other _ _ (Ne.symm apart), Table.get_set_self]
    exact ⟨rfl, rfl⟩
  · rw [list] at empty
    cases empty
  · rw [list, List.cons.injEq] at eq
    obtain ⟨rfl, rfl⟩ := eq
    refine ⟨?_, ?_, fun k out => ?_⟩
    · rw [SetIs, groups, Table.get_set_self]
      exact ⟨rfl, rfl⟩
    · rw [GateIn, gates, Table.get_set_self]
      exact ⟨rfl, rfl⟩
    · simp only [List.mem_cons, List.not_mem_nil, or_false, not_or] at out
      rw [gates, Table.get_set_other _ _ (Ne.symm out.2), Table.get_set_other _ _ (Ne.symm out.1)]
      exact changed.others k out.1

/-- A member's exit with the offer of R115, at the level of the state. -/
theorem memberLeaves_leave (law : GroupLaw s) (changed : Mix.GateChanged s.mix m n) (found : memberGroup s.groups n = some g)
    {st : GateState} (gates : t.gates = (m.leave s.settings n st).gates) (groups : t.groups = (m.leave s.settings n st).groups)
    (engine : t.engine.queue = (s.engine.askCounts s.groups t.groups).queue) : MemberLeaves s t g n st := by
  have sets := (groupLaw_gating law).law
  have same : m.groups = s.groups := changed.groups
  cases list : (s.groups.get g).waiting with
  | nil =>
    rw [sets.leave_alone changed found list] at gates groups
    rw [same] at groups
    exact memberLeaves_of_alone changed list gates groups engine
  | cons w rest =>
    obtain ⟨apart, eq⟩ := sets.leave_next changed (groupLaw_fit law g) found list st
    rw [eq] at gates groups
    rw [same] at groups
    exact memberLeaves_of_next changed list apart gates groups engine

/-! ### A new effective mode -/

section
variable {c : Settings} {mode : GateMode}

theorem Mix.reactMode_parked (parked : (m.gates.get n).state = .parked) : m.reactMode c n mode = m := by
  unfold Mix.reactMode
  rw [parked]

theorem Mix.reactMode_asks (closed : (m.gates.get n).state = .closed) : m.reactMode c n .forceOpen = m.askForced c n := by
  unfold Mix.reactMode
  rw [closed]
  exact if_pos rfl

theorem Mix.reactMode_stays (closed : (m.gates.get n).state = .closed) (free : mode ≠ .forceOpen) :
    m.reactMode c n mode = m.unwait n := by
  unfold Mix.reactMode
  rw [closed]
  exact if_neg free

theorem Mix.reactMode_auto (sounds : sounding (m.gates.get n).state = true) :
    m.reactMode c n .auto = m.becomeAuto c n := by
  unfold Mix.reactMode
  cases state : (m.gates.get n).state
  case parked => rw [state] at sounds; cases sounds
  case closed => rw [state] at sounds; cases sounds
  all_goals rfl

theorem Mix.reactMode_shuts (sounds : sounding (m.gates.get n).state = true) :
    m.reactMode c n .forceClosed = m.leave c n .closed := by
  unfold Mix.reactMode
  cases state : (m.gates.get n).state
  case parked => rw [state] at sounds; cases sounds
  case closed => rw [state] at sounds; cases sounds
  all_goals rfl

/-- A sounding gate that becomes FORCE_OPEN is OPEN (R93). -/
theorem Mix.reactMode_forced (sounds : sounding (m.gates.get n).state = true)
    (rests : (m.gates.get n).state = .opened → (m.gates.get n).holdCounter = 0) :
    m.reactMode c n .forceOpen = (m.setState n .opened).setKind n .forced := by
  unfold Mix.reactMode
  cases state : (m.gates.get n).state
  case parked => rw [state] at sounds; cases sounds
  case closed => rw [state] at sounds; cases sounds
  case opened =>
    have still : m.setState n .opened = m := by
      have gate : (m.gates.get n).put .opened = m.gates.get n := by
        rw [Gate.put, ← state, ← rests state]
      rw [Mix.setState_eq, gate, Table.set_get_self]
    rw [still]
  all_goals rfl

end

/-- A member of a set in the state is a member of its own group's. -/
theorem memberGroup_of_sounding (law : GroupLaw s) (own : s.settings.channelGroup n = some g)
    (sounds : sounding (s.gates.get n).state = true) : memberGroup s.groups n = some g := by
  have sets := (groupLaw_gating law).law
  obtain ⟨h, found, there⟩ := sets.memberGroup_isSome sounds
  rw [own, Option.some.injEq] at there
  rw [there]
  exact found

/-- What a new effective mode makes of the gate and the set of a channel that is not PARKED (R93, R112, R115). -/
theorem modeReaction (law : GroupLaw s) (changed : Mix.GateChanged s.mix m n)
    (state : (m.gates.get n).state = (s.gates.get n).state)
    (counter : (m.gates.get n).holdCounter = (s.gates.get n).holdCounter) {mode : GateMode}
    (new : mode ≠ (s.gates.get n).mode) (own : s.settings.channelGroup n = some g)
    (gates : t.gates = (m.reactMode s.settings n mode).gates) (groups : t.groups = (m.reactMode s.settings n mode).groups)
    (engine : t.engine.queue = (s.engine.askCounts s.groups t.groups).queue) : ModeReaction s t g n mode := by
  have sets := (groupLaw_gating law).law
  have same : m.groups = s.groups := changed.groups
  have outside (k : Channel) (out : k ∉ [n]) : m.gates.get k = s.gates.get k :=
    changed.others k fun is => out (List.mem_singleton.mpr is)
  have rests (still : (s.gates.get n).state ≠ .holding) : (m.gates.get n).holdCounter = 0 :=
    counter.trans ((sets.gate n).rests still)
  have stillSounds (sounds : sounding (s.gates.get n).state = true) : sounding (m.gates.get n).state = true := by
    rw [state]
    exact sounds
  have wasForced (sounds : sounding (s.gates.get n).state = true) (auto : mode = .auto) :
      (s.gates.get n).mode = .forceOpen := by
    have open_ := (sets.gate n).sounds sounds
    subst auto
    cases was : (s.gates.get n).mode with
    | auto => exact absurd was.symm new
    | forceOpen => rfl
    | forceClosed => exact absurd was open_
  refine ⟨fun closed free => ?_, fun closed forced => ?_, fun sounds forced => ?_, fun sounds auto empty => ?_,
    fun sounds auto list => ?_, fun sounds shut => ?_⟩
  · rw [Mix.reactMode_stays (state.trans closed) free] at gates groups
    have set : t.groups = s.groups.set g { s.groups.get g with
        waiting := (s.groups.get g).waiting.filter fun w => w != n } := Table.ext_get fun h => by
      rw [groups, Mix.unwait_groups_get, same]
      by_cases at_g : g = h
      · rw [at_g, Table.get_set_self]
      · rw [Table.get_set_other _ _ at_g, Mix.Law.filter_waiting_of_not_mem]
        intro listed
        exact at_g (Option.some.inj (own.symm.trans (sets.waits h n listed).2.2))
    refine ⟨onlySetMoved_of_set set engine, ?_, ?_, fun k out => ?_⟩
    · rw [GateIn, gates]
      exact ⟨state.trans closed, rests (by rw [closed]; decide)⟩
    · rw [SetIs, set, Table.get_set_self]
      exact ⟨rfl, rfl⟩
    · rw [gates]
      exact outside k out
  · subst forced
    have silent : sounding (s.mix.gates.get n).state = false := by
      change sounding (s.gates.get n).state = false
      rw [closed]
      rfl
    have fresh (h : Group) : n ∉ (s.mix.groups.get h).waiting := sets.not_mem_waiting_of_mode (Ne.symm new) h
    have asked := sets.asked (g := g) (maxOpen := (s.settings.groupRecord g).maxOpen) changed silent fresh
    rw [Mix.reactMode_asks (state.trans closed), Mix.askForced_of_group m own] at gates groups
    exact asked.forcedAsk changed (fun y member => sets.channel_ne_of_silent silent member) (state.trans closed)
      (rests (by rw [closed]; decide)) gates groups engine
  · subst forced
    rw [Mix.reactMode_forced (stillSounds sounds) fun opened => rests (by rw [← state, opened]; decide),
      sets.setKind_eq (m := m.setState n .opened) same (memberGroup_of_sounding law own sounds)] at gates groups
    have set : t.groups = s.groups.set g { s.groups.get g with
        members := Mix.kindSet n .forced (s.groups.get g).members } := by
      rw [groups, Mix.turned, Mix.setState_groups, same]
    refine ⟨onlySetMoved_of_set set engine, ?_, ?_, fun k out => ?_⟩
    · rw [GateIn, gates, Mix.turned, Mix.setState_get_self]
      exact ⟨rfl, rfl⟩
    · rw [SetIs, set, Table.get_set_self]
      exact ⟨rfl, rfl⟩
    · rw [gates, Mix.turned, Mix.setState_get_other _ _ fun is => out (List.mem_singleton.mpr is.symm)]
      exact outside k out
  · subst auto
    rw [Mix.reactMode_auto (stillSounds sounds), sets.becomeAuto_alone changed (memberGroup_of_sounding law own sounds)
      (wasForced sounds rfl) empty] at gates groups
    have set : t.groups = s.groups.set g { s.groups.get g with
        members := Mix.kindSet n .auto (s.groups.get g).members } := by
      rw [groups, Mix.turned, same]
    refine ⟨onlySetMoved_of_set set engine, ?_, ?_, fun k out => ?_⟩
    · rw [gates]
      exact state
    · rw [SetIs, set, Table.get_set_self]
      exact ⟨rfl, empty⟩
    · rw [gates]
      exact outside k out
  · subst auto
    rw [Mix.reactMode_auto (stillSounds sounds)] at gates groups
    obtain ⟨w, rest, list⟩ := List.exists_cons_of_ne_nil list
    obtain ⟨apart, eq⟩ := sets.becomeAuto_yields changed (groupLaw_fit law g) (memberGroup_of_sounding law own sounds)
      (wasForced sounds rfl) state list
    rw [eq] at gates groups
    rw [same] at groups
    exact memberLeaves_of_next changed list apart gates groups engine
  · subst shut
    rw [Mix.reactMode_shuts (stillSounds sounds)] at gates groups
    exact memberLeaves_leave law changed (memberGroup_of_sounding law own sounds) gates groups engine

end

end Sys2Proof.Machine
end

section
/-! PROOFS. Measurements: what they record, the moves of a gate, the end of a countdown and the decision on an AUTO candidate
(R82, R83, R87 to R91, R106, R112, R113, R116). -/

namespace Sys2Proof.Machine

open Sys2Proof.Safety

section
variable {s t u : State} {n : Channel} {l : Nat}

theorem exec_measurementComplete {sum : Nat} (awake : s.held = false) (done : (s.gates.get n).detector.done = some sum) :
    exec (.measurementComplete n) s = .next (s.takeMeasurement n (measurementOf sum)) := by
  change execMeasurementComplete n s = _
  rw [execMeasurementComplete, occur_of_awake awake, done]

/-- The gates and sets in which a measurement has been recorded, before the gate acts on it (R83, R112). -/
def State.measured (s : State) (n : Channel) (l : Nat) : Mix := (s.takeBlock n).mix.record n l

/-- The gate of Mn with the measurement recorded and its block taken (R83). -/
def Gate.measured (l : Nat) (x : Gate) : Gate := { x with latest := l, detector := { x.detector with done := none } }

theorem State.measured_gates : (s.measured n l).gates = s.gates.set n ((s.gates.get n).measured l) := by
  have block : (s.takeBlock n).gates.get n =
      { s.gates.get n with detector := { (s.gates.get n).detector with done := none } } := Table.get_modify_self ..
  change (s.takeBlock n).gates.set n { (s.takeBlock n).gates.get n with latest := l } = _
  rw [block]
  exact Table.set_set ..

theorem State.measured_groups : (s.measured n l).groups = .ofFn fun h => { s.groups.get h with
    members := (s.groups.get h).members.map fun y => if y.channel = n then { y with latest := l } else y } := rfl

theorem State.takeMeasurement_withMix : s.takeMeasurement n l =
    ((s.takeBlock n).withMix ((s.measured n l).actOn s.settings n l)).settle s := rfl

/-- A measurement recorded moves no channel into or out of a set (R112). -/
theorem State.measured_holds (g : Group) (k : Channel) : ((s.measured n l).groups.get g).holds k = (s.groups.get g).holds k := by
  have names (y : Member) : (if y.channel = n then { y with latest := l } else y).channel = y.channel := by
    split <;> rfl
  rw [State.measured_groups, Table.get_ofFn, GroupState.holds, GroupState.holds, List.any_map]
  simp only [Function.comp_def, names]

/-- The live test reads of the sets who is in them (R62). -/
theorem State.live_of_holds (settings : u.settings = s.settings) (zones : u.zones = s.zones) (standby : u.standby = s.standby)
    (holds : ∀ g k, (u.groups.get g).holds k = (s.groups.get g).holds k) (k : Channel) (j : Zone) :
    u.live k j = s.live k j := by
  simp only [State.live, settings, zones, standby, holds]

/-- A measurement that moves no set leaves the crosspoints and asks nothing (R63, R111). -/
theorem State.takeMeasurement_of_still (law : TargetLaw s) {gates : Table 16 Gate}
    (acted : (s.measured n l).actOn s.settings n l = ⟨gates, (s.measured n l).groups, 0⟩) :
    s.takeMeasurement n l = { s with gates := gates, groups := (s.measured n l).groups } := by
  have quiet : (s.takeBlock n).withMix ⟨gates, (s.measured n l).groups, 0⟩ =
      { s with gates := gates, groups := (s.measured n l).groups } := State.postMask_zero _
  rw [State.takeMeasurement_withMix, acted, quiet]
  refine State.settle_of_targetLaw (targetLaw_of_live law rfl fun k j => ?_) fun g => ?_
  · exact State.live_of_holds (s := s) (u := { s with gates := gates, groups := (s.measured n l).groups }) rfl rfl rfl
      (fun g k => State.measured_holds g k) k j
  · change _ = ((s.measured n l).groups.get g).members.length
    rw [State.measured_groups, Table.get_ofFn, List.length_map]
    rfl

theorem State.measured_gate : (s.measured n l).gates.get n = (s.gates.get n).measured l := by
  rw [State.measured_gates, Table.get_set_self]

/-- What becomes of the gate of Mn after its measurement is recorded. -/
theorem State.measured_set (x : Gate) : (s.measured n l).gates.set n x = s.gates.set n x := by
  rw [State.measured_gates, Table.set_set]

end

/-- What a measurement leaves after which the gate of Mn stands in `st` with its counter at `counter`, no set having moved. -/
def State.afterMeasurement (s : State) (n : Channel) (l : Nat) (st : GateState) (counter : Nat) : State := { s with
  gates := s.gates.set n { s.gates.get n with
    state := st, holdCounter := counter, latest := l, detector := { (s.gates.get n).detector with done := none } }
  groups := .ofFn fun h => { s.groups.get h with
    members := (s.groups.get h).members.map fun m => if m.channel = n then { m with latest := l } else m } }

/-! ### The moves that ask nothing of the arbiter -/

section
variable {s : State} {n : Channel} {l : Nat}

theorem State.takeMeasurement_gate (law : TargetLaw s) (st : GateState) (counter : Nat)
    (acted : (s.measured n l).actOn s.settings n l = ⟨(s.measured n l).gates.set n
      { (s.gates.get n).measured l with state := st, holdCounter := counter }, (s.measured n l).groups, 0⟩) :
    s.takeMeasurement n l = s.afterMeasurement n l st counter := by
  rw [State.measured_set] at acted
  rw [State.takeMeasurement_of_still law acted, State.measured_groups, Gate.measured, State.afterMeasurement]

theorem State.takeMeasurement_kept (law : TargetLaw s) {st : GateState} (now : (s.gates.get n).state = st)
    (acted : (s.measured n l).actOn s.settings n l = s.measured n l) :
    s.takeMeasurement n l = s.afterMeasurement n l st (s.gates.get n).holdCounter := by
  refine State.takeMeasurement_gate law st _ (acted.trans ?_)
  have still : { (s.gates.get n).measured l with state := st, holdCounter := (s.gates.get n).holdCounter } =
      (s.measured n l).gates.get n := by
    rw [State.measured_gate, ← now]
    rfl
  rw [still, Table.set_get_self]
  rfl

theorem State.measured_state : ((s.measured n l).gates.get n).state = (s.gates.get n).state := by
  rw [State.measured_gate, Gate.measured]

theorem State.measured_mode : ((s.measured n l).gates.get n).mode = (s.gates.get n).mode := by
  rw [State.measured_gate, Gate.measured]

theorem State.measured_counter : ((s.measured n l).gates.get n).holdCounter = (s.gates.get n).holdCounter := by
  rw [State.measured_gate, Gate.measured]

theorem State.measured_setState (st : GateState) : (s.measured n l).setState n st =
    ⟨(s.measured n l).gates.set n { (s.gates.get n).measured l with state := st, holdCounter := 0 },
      (s.measured n l).groups, 0⟩ := by
  rw [Mix.setState_eq, State.measured_gate]
  rfl

theorem State.takeMeasurement_parked (law : TargetLaw s) (parked : (s.gates.get n).state = .parked) :
    s.takeMeasurement n l = s.afterMeasurement n l .parked (s.gates.get n).holdCounter := by
  refine State.takeMeasurement_kept law parked ?_
  unfold Mix.actOn
  simp only [State.measured_state, parked]

theorem State.takeMeasurement_deaf (law : TargetLaw s) (closed : (s.gates.get n).state = .closed)
    (deaf : ¬((s.gates.get n).mode = .auto ∧ l ≤ (s.settings.channels.get n).threshold)) :
    s.takeMeasurement n l = s.afterMeasurement n l .closed (s.gates.get n).holdCounter := by
  refine State.takeMeasurement_kept law closed ?_
  unfold Mix.actOn
  simp only [State.measured_state, State.measured_mode, closed]
  exact if_neg deaf

theorem State.takeMeasurement_opened (law : TargetLaw s) (opened : (s.gates.get n).state = .opened) :
    s.takeMeasurement n l =
      if (s.gates.get n).mode = .auto ∧ (s.settings.channels.get n).threshold + 12 < l then
        s.afterMeasurement n l .holding (s.settings.channels.get n).holdTime
      else s.afterMeasurement n l .opened (s.gates.get n).holdCounter := by
  have falls : ((s.gates.get n).mode = .auto ∧ ¬l ≤ (s.settings.channels.get n).threshold + 12) ↔
      (s.gates.get n).mode = .auto ∧ (s.settings.channels.get n).threshold + 12 < l := by rw [Nat.not_le]
  split
  case isTrue fell =>
    refine State.takeMeasurement_gate law _ _ ?_
    unfold Mix.actOn
    simp only [State.measured_state, State.measured_mode, opened]
    rw [if_pos (falls.mpr fell), Mix.onGate, Table.modify, State.measured_gate]
    rfl
  case isFalse stays =>
    refine State.takeMeasurement_kept law opened ?_
    unfold Mix.actOn
    simp only [State.measured_state, State.measured_mode, opened]
    exact if_neg fun fell => stays (falls.mp fell)

theorem State.takeMeasurement_loud (law : TargetLaw s) (state : (s.gates.get n).state = .holding ∨ (s.gates.get n).state = .lastOn)
    (loud : l ≤ (s.settings.channels.get n).threshold + 12) :
    s.takeMeasurement n l = s.afterMeasurement n l .opened 0 := by
  refine State.takeMeasurement_gate law _ _ (Eq.trans ?_ (State.measured_setState .opened))
  unfold Mix.actOn
  obtain state | state := state
  · simp only [State.measured_state, state]
    exact if_pos loud
  · simp only [State.measured_state, state]
    exact if_pos loud

theorem State.takeMeasurement_counts (law : TargetLaw s) (holding : (s.gates.get n).state = .holding)
    (silent : (s.settings.channels.get n).threshold + 12 < l) (more : 1 < (s.gates.get n).holdCounter) :
    s.takeMeasurement n l = s.afterMeasurement n l .holding ((s.gates.get n).holdCounter - 1) := by
  refine State.takeMeasurement_gate law _ _ ?_
  unfold Mix.actOn
  simp only [State.measured_state, State.measured_counter, holding]
  rw [if_neg (Nat.not_le.mpr silent), if_neg (Nat.not_le.mpr more), Mix.onGate, Table.modify, State.measured_gate,
    ← holding]
  rfl

theorem State.takeMeasurement_lastOn (law : TargetLaw s) (lastOn : (s.gates.get n).state = .lastOn)
    (silent : ¬l ≤ (s.settings.channels.get n).threshold + 12) :
    s.takeMeasurement n l = s.afterMeasurement n l .lastOn (s.gates.get n).holdCounter := by
  refine State.takeMeasurement_kept law lastOn ?_
  unfold Mix.actOn
  simp only [State.measured_state, lastOn]
  exact if_neg silent

end

/-- Settles O36, by the state of the gate. -/
theorem measurementsMoveTheGate : Obligations.MeasurementsMoveTheGate := by
  unfold Obligations.MeasurementsMoveTheGate
  intro s n sum awake done law
  have run := exec_measurementComplete awake done
  generalize measurementOf sum = l at run ⊢
  intro level c g after
  have outcome {t : State} (h : s.takeMeasurement n l = t) : exec (.measurementComplete n) s = .next t :=
    run.trans (congrArg Host.Outcome.next h)
  refine ⟨fun parked => ?_, fun closed deaf => ?_, fun opened => ?_, fun holding loud => ?_, fun holding silent more => ?_,
    fun lastOn => ?_⟩
  · exact outcome (State.takeMeasurement_parked law parked)
  · exact outcome (State.takeMeasurement_deaf law closed deaf)
  · exact outcome (State.takeMeasurement_opened law opened)
  · exact outcome (State.takeMeasurement_loud law (.inl holding) loud)
  · exact outcome (State.takeMeasurement_counts law holding silent more)
  · by_cases loud : l ≤ c.threshold + 12
    · rw [if_pos loud]
      exact outcome (State.takeMeasurement_loud law (.inr lastOn) loud)
    · rw [if_neg loud]
      exact outcome (State.takeMeasurement_lastOn law lastOn loud)

end Sys2Proof.Machine
end

section
/-! PROOFS. The end of a hold countdown and the decision on an AUTO candidate (R90, R106, R113, R116). -/

namespace Sys2Proof.Machine

open Sys2Proof.Safety

/-! ### What one event has posted -/

section
variable {s t : State} {posted kinds : EventMask} {k : EventKind}

theorem postMask_sticky (s : State) (posted : EventMask) (p : Port) :
    ((s.postMask posted).events.get p).sticky = (s.events.get p).sticky ||| posted := by
  rw [State.postMask, ByPort.get_map]
  rfl

theorem postedToAll_of_postMask (events : t.events = (s.postMask posted).events) (within : posted &&& k.mask = k.mask) :
    PostedToAll k t := fun p => by
  rw [events, postMask_sticky]
  ext i bound
  have at_i : (posted[i] && k.mask[i]) = k.mask[i] := by rw [← BitVec.getElem_and, within]
  rw [BitVec.getElem_and, BitVec.getElem_or, Bool.and_or_distrib_right, at_i, Bool.or_eq_right_iff_imp]
  exact fun both => (Bool.and_eq_true_iff.mp both).2

theorem postedWithin_of_postMask (events : t.events = (s.postMask posted).events) (within : posted &&& ~~~kinds = 0) :
    PostedWithin kinds s t := fun p => by
  rw [events, postMask_sticky]
  exact (EventMask.AgreeOutside.refl kinds _).or within

end

/-! ### A measurement recorded -/

section
variable {s : State} {n : Channel} {g : Group} {l : Nat}

/-- The sets and gates in which a measurement has been recorded keep the law of the sets (R83, R112). -/
theorem State.measured_law (law : GroupLaw s) (n : Channel) (l : Nat) :
    (s.measured n l).Law s.settings.channelGroup (fun k => (s.takeBlock n).eligible k = true) fun _ => True :=
  (groupLaw_gating (groupLaw_takeBlock law n)).law.record l

theorem State.measured_fit (law : GroupLaw s) (n : Channel) (l : Nat) : Mix.AllFit s.settings (s.measured n l) :=
  Mix.Law.allFit_record (groupLaw_fit (groupLaw_takeBlock law n)) l

theorem State.measured_group (g : Group) : (s.measured n l).groups.get g = { s.groups.get g with
    members := (s.groups.get g).members.map fun y => if y.channel = n then { y with latest := l } else y } := by
  rw [State.measured_groups, Table.get_ofFn]

theorem State.measured_other {k : Channel} (other : k ≠ n) : (s.measured n l).gates.get k = s.gates.get k := by
  rw [State.measured_gates, Table.get_set_other _ _ (Ne.symm other)]

theorem State.measured_latest (k : Channel) : ((s.measured n l).gates.get k).latest =
    if k = n then l else (s.gates.get k).latest := by
  split
  case isTrue same => rw [same, State.measured_gate, Gate.measured]
  case isFalse other => rw [State.measured_other other]

end

/-! ### The end of the hold countdown -/

section
variable {s : State} {n : Channel} {g : Group} {l : Nat}

theorem exec_holdCountdownEnd {sum : Nat} (awake : s.held = false) (done : (s.gates.get n).detector.done = some sum)
    (holding : (s.gates.get n).state = .holding) (last : (s.gates.get n).holdCounter ≤ 1)
    (silent : (s.settings.channels.get n).threshold + 12 < measurementOf sum) :
    exec (.holdCountdownEnd n) s = .next (s.takeMeasurement n (measurementOf sum)) := by
  change execHoldCountdownEnd n s = _
  rw [execHoldCountdownEnd, occur_of_awake awake, done]
  exact congrArg Host.Outcome.next (if_pos ⟨holding, last, silent⟩)

theorem State.actOn_ended (holding : (s.gates.get n).state = .holding) (last : (s.gates.get n).holdCounter ≤ 1)
    (silent : (s.settings.channels.get n).threshold + 12 < l) :
    (s.measured n l).actOn s.settings n l = (s.measured n l).endCountdown s.settings n := by
  unfold Mix.actOn
  simp only [State.measured_state, State.measured_counter, holding]
  rw [if_neg (Nat.not_le.mpr silent), if_pos last]

theorem State.measured_memberGroup (law : GroupLaw s) (holds : (s.groups.get g).holds n = true) :
    memberGroup (s.measured n l).groups n = some g := by
  rw [← State.measured_holds (n := n) (l := l), GroupState.holds_iff] at holds
  obtain ⟨y, member, rfl⟩ := holds
  exact (State.measured_law law _ l).memberGroup_eq member

/-- The only member of a set with last-channel hold stays in it at the end of its countdown (R90). -/
theorem State.takeMeasurement_lastHold (law : GroupLaw s) (targets : TargetLaw s) (holding : (s.gates.get n).state = .holding)
    (holds : (s.groups.get g).holds n = true) (silent : (s.settings.channels.get n).threshold + 12 < l)
    (last : (s.gates.get n).holdCounter ≤ 1) (kept : (s.settings.groupRecord g).lastHold = true)
    (alone : (s.groups.get g).members.length = 1) : s.takeMeasurement n l = s.afterMeasurement n l .lastOn 0 := by
  refine State.takeMeasurement_gate targets _ _ ?_
  have auto : ((s.measured n l).gates.get n).mode = .auto := by
    rw [State.measured_mode]
    exact ((groupLaw_gating law).law.gate n).auto (.inl holding)
  have one : ((s.measured n l).groups.get g).openCount = 1 := by
    rw [GroupState.openCount, State.measured_group, List.length_map, alone]
  rw [State.actOn_ended holding last silent, Mix.endCountdown, State.measured_memberGroup law holds]
  simp only [kept, auto, one, and_self, if_true]
  exact State.measured_setState .lastOn

/-- Any other member leaves its set at the end of its countdown (R90). -/
theorem State.actOn_leaves (law : GroupLaw s) (holding : (s.gates.get n).state = .holding)
    (holds : (s.groups.get g).holds n = true) (silent : (s.settings.channels.get n).threshold + 12 < l)
    (last : (s.gates.get n).holdCounter ≤ 1)
    (other : (s.settings.groupRecord g).lastHold = false ∨ (s.groups.get g).members.length ≠ 1) :
    (s.measured n l).actOn s.settings n l = (s.measured n l).leave s.settings n .closed := by
  rw [State.actOn_ended holding last silent, Mix.endCountdown, State.measured_memberGroup law holds]
  refine if_neg ?_
  rintro ⟨kept, -, one⟩
  rw [GroupState.openCount, State.measured_group, List.length_map] at one
  obtain free | many := other
  · rw [free] at kept
    cases kept
  · exact many one

/-- What an exit whose place nobody or the first waiting channel takes leaves of the gates, the kinds and the membership
(R94, R115). -/
theorem Mix.Law.leave_outcome {grp : Channel → Option Group} {ok due : Channel → Prop} {m₀ m : Mix} {c : Settings}
    (law : m₀.Law grp ok due) (fits : Mix.AllFit c m₀) (changed : Mix.GateChanged m₀ m n)
    (found : memberGroup m₀.groups n = some g) (st : GateState) :
    ((m.leave c n st).gates.get n = (m.gates.get n).put st) ∧ memberGroup (m.leave c n st).groups n = none ∧
      (∃ kinds, (m.leave c n st).posted = m.posted ||| kinds ∧ kinds &&& EventKind.gateClosed.mask =
        EventKind.gateClosed.mask ∧ kinds &&& ~~~gateKinds = 0) ∧
      ((m₀.groups.get g).waiting = [] → (m.leave c n st).groups =
        m.groups.set g { m.groups.get g with members := without n (m.groups.get g).members }) := by
  have same := changed.groups
  have absent (h : Group) (other : h ≠ g) (y : Member) (member : y ∈ (m.groups.get h).members) : y.channel ≠ n := by
    rintro rfl
    rw [same] at member
    have := law.memberGroup_eq member
    rw [found] at this
    exact other (Option.some.inj this.symm)
  cases list : (m₀.groups.get g).waiting with
  | nil =>
    have eq := law.leave_alone (c := c) changed found list st
    refine ⟨by rw [eq]; exact Table.get_set_self .., ?_, ⟨_, by rw [eq], by decide, by decide⟩, fun _ => by rw [eq]⟩
    rw [memberGroup_eq_none, eq]
    intro h y member
    by_cases own : g = h
    · subst own
      rw [Table.get_set_self] at member
      simpa using (List.mem_filter.mp member).2
    · rw [Table.get_set_other _ _ own] at member
      exact absent h (Ne.symm own) y member
  | cons w rest =>
    obtain ⟨apart, eq⟩ := law.leave_next changed (fits g) found list st
    refine ⟨?_, ?_, ⟨_, by rw [eq], by decide, by decide⟩, nofun⟩
    · rw [eq, Table.get_set_other _ _ (Ne.symm apart), Table.get_set_self]
    · rw [memberGroup_eq_none, eq]
      intro h y member
      by_cases own : g = h
      · subst own
        rw [Table.get_set_self, List.mem_append, List.mem_singleton] at member
        obtain old | rfl := member
        · simpa using (List.mem_filter.mp old).2
        · exact Ne.symm apart
      · rw [Table.get_set_other _ _ own] at member
        exact absent h (Ne.symm own) y member

end

/-- Settles O37: the countdown ends in LAST_ON or in an exit, whose place nobody or the first waiting channel takes. -/
theorem holdCountdownEnds : Obligations.HoldCountdownEnds := by
  unfold Obligations.HoldCountdownEnds
  intro s n g sum awake done law targets holding holds silent last
  have run := exec_measurementComplete awake done
  have ends := exec_holdCountdownEnd awake done holding (Nat.le_of_eq last) silent
  generalize measurementOf sum = l at run ends silent ⊢
  refine ⟨ends.trans run.symm, s.takeMeasurement n l, ends, ?_⟩
  have sets := State.measured_law law n l
  have found : memberGroup (s.measured n l).groups n = some g := State.measured_memberGroup law holds
  by_cases stays : (s.settings.groupRecord g).lastHold = true ∧ (s.groups.get g).members.length = 1
  · obtain ⟨kept, alone⟩ := stays
    rw [State.takeMeasurement_lastHold law targets holding holds silent (Nat.le_of_eq last) kept alone]
    have gate : (s.afterMeasurement n l .lastOn 0).gates.get n = { s.gates.get n with
        state := .lastOn, holdCounter := 0, latest := l, detector := { (s.gates.get n).detector with done := none } } :=
      Table.get_set_self ..
    refine ⟨by rw [gate], by rw [gate], fun k other => ?_, fun _ _ => ⟨by rw [gate], ?_, rfl, rfl⟩, fun leaves => ?_,
      fun _ => rfl, rfl, rfl, ⟨rfl, rfl, rfl, rfl, rfl, rfl, rfl, rfl, rfl, rfl, rfl⟩⟩
    · exact congrArg Gate.latest (Table.get_set_other _ _ (Ne.symm other))
    · exact (State.measured_holds (n := n) (l := l) g n).trans holds
    · obtain free | many := leaves
      · rw [kept] at free
        cases free
      · exact absurd alone many
  · have leaves : (s.settings.groupRecord g).lastHold = false ∨ (s.groups.get g).members.length ≠ 1 := by
      by_cases kept : (s.settings.groupRecord g).lastHold = true
      · exact .inr fun alone => stays ⟨kept, alone⟩
      · exact .inl (Bool.eq_false_iff.mpr kept)
    have acted := State.actOn_leaves law holding holds silent (Nat.le_of_eq last) leaves
    have frame := (Mix.Frame.refl gateKinds (s.measured n l)).leave Mix.postsGates_gateKinds s.settings n .closed
    obtain ⟨gate, out, ⟨kinds, posted, closed, within⟩, empty⟩ := sets.leave_outcome (State.measured_fit law n l) (.refl _ n) found .closed
    rw [State.takeMeasurement_withMix, acted]
    generalize (s.measured n l).leave s.settings n .closed = m at gate out posted empty frame
    have zero : (s.measured n l).posted = 0 := rfl
    have events : (((s.takeBlock n).withMix m).settle s).events = (s.postMask kinds).events := by
      have all : m.posted = kinds := posted.trans (by rw [zero]; exact BitVec.zero_or)
      rw [← all]
      rfl
    refine ⟨?_, ?_, fun k other => ?_, fun kept alone => absurd ⟨kept, alone⟩ stays, fun _ => ⟨?_, out,
      postedToAll_of_postMask events closed, fun list => ?_⟩, postedWithin_of_postMask events within, rfl, rfl,
      ⟨rfl, rfl, rfl, rfl, rfl, rfl, rfl, rfl, rfl, rfl, rfl⟩⟩
    · exact congrArg Gate.holdCounter gate
    · exact (frame.latest n).trans ((State.measured_latest n).trans (if_pos rfl))
    · exact (frame.latest k).trans ((State.measured_latest k).trans (if_neg other))
    · exact congrArg Gate.state gate
    · obtain ⟨y, member, rfl⟩ := (GroupState.holds_iff _ _).mp ((State.measured_holds (n := n) (l := l) g n).trans holds)
      have groups := empty (by rw [State.measured_group]; exact list)
      have fewer := sets.length_without member
      have before : ((s.measured y.channel l).groups.get g).members.length = (s.groups.get g).members.length := by
        rw [State.measured_group, List.length_map]
      have count : (m.groups.get g).members.length + 1 = (s.groups.get g).members.length := by
        rw [groups, Table.get_set_self, fewer, before]
      refine ⟨count, ?_⟩
      have asks : s.engine.askCounts s.groups m.groups = s.engine.askGroup g := by
        rw [Engine.askCounts_only (g := g) s.engine fun h other => ?_, if_neg (by omega)]
        rw [groups, Table.get_set_other _ _ (Ne.symm other), State.measured_group, List.length_map]
      exact asks

end Sys2Proof.Machine
end

section
/-! PROOFS. The decision on an AUTO candidate, and which member is the quietest (R106, R113, R116). -/

namespace Sys2Proof.Machine

open Sys2Proof.Safety

/-! ### The quietest AUTO member -/

namespace Mix

/-- The quietest of a list is louder than no AUTO member before it and none after it (R106, R113). -/
theorem quietest_split {ms : List Member} {v : Member} (found : quietest ms = some v) :
    ∃ before after, ms = before ++ v :: after ∧ v.kind = .auto ∧
      (∀ w ∈ before, w.kind = .auto → w.latest < v.latest) ∧ ∀ w ∈ after, w.kind = .auto → w.latest ≤ v.latest := by
  induction ms using List.reverseRecOn generalizing v with
  | nil => cases found
  | append_singleton ms y ih =>
    have later {b : Member} (best : quietest ms = some b) (quieter : y.kind = .auto → y.latest ≤ b.latest) :
        ∃ before after, ms ++ [y] = before ++ b :: after ∧ b.kind = .auto ∧
          (∀ w ∈ before, w.kind = .auto → w.latest < b.latest) ∧ ∀ w ∈ after, w.kind = .auto → w.latest ≤ b.latest := by
      obtain ⟨before, after, rfl, auto, first, rest⟩ := ih best
      refine ⟨before, after ++ [y], by simp, auto, first, fun w member => ?_⟩
      rw [List.mem_append, List.mem_singleton] at member
      obtain old | rfl := member
      · exact rest w old
      · exact quieter
    rw [quietest_concat] at found
    split at found
    case isFalse forced => exact later found fun auto => absurd auto forced
    case isTrue auto =>
      cases best : quietest ms with
      | none =>
        rw [best, Option.some.injEq] at found
        subst found
        refine ⟨ms, [], rfl, auto, fun w member kind => ?_, nofun⟩
        rw [kind_of_quietest_none best w member] at kind
        cases kind
      | some b =>
        rw [best] at found
        simp only at found
        split at found
        case isFalse quieter =>
          rw [← Option.some.inj found]
          exact later best fun _ => Nat.le_of_not_lt quieter
        case isTrue louder =>
          rw [Option.some.injEq] at found
          subst found
          refine ⟨ms, [], rfl, auto, fun w member kind => ?_, nofun⟩
          obtain ⟨-, -, least⟩ := quietest_some best
          by_cases same : w = b
          · exact same ▸ louder
          · obtain less | ⟨equal, -⟩ := least w member kind same
            · exact less.trans louder
            · exact equal ▸ louder

theorem quietest_of_split {before after : List Member} {v : Member} (auto : v.kind = .auto)
    (first : ∀ w ∈ before, w.kind = .auto → w.latest < v.latest)
    (rest : ∀ w ∈ after, w.kind = .auto → w.latest ≤ v.latest) : quietest (before ++ v :: after) = some v := by
  induction after using List.reverseRecOn with
  | nil =>
    rw [quietest_concat, if_pos auto]
    cases best : quietest before with
    | none => rfl
    | some b =>
      obtain ⟨member, kind, -⟩ := quietest_some best
      exact if_pos (first b member kind)
  | append_singleton after y ih =>
    have found := ih fun w member => rest w (List.mem_append_left _ member)
    rw [← List.cons_append, ← List.append_assoc, quietest_concat, found]
    split
    case isFalse => rfl
    case isTrue kind => exact if_neg (Nat.not_lt.mpr (rest y (List.mem_append_right _ (List.mem_singleton_self y)) kind))

theorem quietest_eq_none_iff (ms : List Member) : quietest ms = none ↔ ∀ w ∈ ms, w.kind = .forced :=
  ⟨kind_of_quietest_none, quietest_forced⟩

/-! ### The ask of an AUTO candidate -/

/-- What becomes of the ask of the AUTO candidate Mn for the set of `g` (R113, R116). -/
structure AskedAuto (maxOpen : Nat) (m m' : Mix) (g : Group) (n : Channel) (l : Nat) : Prop where
  near : ∃ members, m'.groups = m.groups.set g { m.groups.get g with members := members }
  beside : ∀ y, (m.groups.get g).members = [y] → (m.gates.get y.channel).state = .lastOn → y.channel ≠ n ∧ m' =
    ⟨(m.gates.set y.channel ((m.gates.get y.channel).put .closed)).set n ((m.gates.get n).put .opened),
      m.groups.set g { m.groups.get g with members := [m.recordOf n .auto] }, m.posted ||| gateKinds⟩
  room : (∀ y ∈ (m.groups.get g).members, (m.gates.get y.channel).state ≠ .lastOn) →
    (m.groups.get g).members.length < maxOpen → m' =
    ⟨m.gates.set n ((m.gates.get n).put .opened),
      m.groups.set g { m.groups.get g with members := (m.groups.get g).members ++ [m.recordOf n .auto] },
      m.posted ||| EventKind.gateOpened.mask⟩
  bump : (∀ y ∈ (m.groups.get g).members, (m.gates.get y.channel).state ≠ .lastOn) →
    maxOpen ≤ (m.groups.get g).members.length → ∀ v, quietest (m.groups.get g).members = some v → l + 12 ≤ v.latest →
    v.channel ≠ n ∧ m' =
    ⟨(m.gates.set v.channel ((m.gates.get v.channel).put .closed)).set n ((m.gates.get n).put .opened),
      m.groups.set g { m.groups.get g with
        members := without v.channel (m.groups.get g).members ++ [m.recordOf n .auto] },
      m.posted ||| (gateKinds ||| EventKind.openDenied.mask)⟩
  denied : (∀ y ∈ (m.groups.get g).members, (m.gates.get y.channel).state ≠ .lastOn) →
    maxOpen ≤ (m.groups.get g).members.length →
    (∀ v, quietest (m.groups.get g).members = some v → v.latest < l + 12) → m' = m.post .openDenied

theorem Law.askedAuto {grp : Channel → Option Group} {ok due : Channel → Prop} {m : Mix} {n : Channel} {g : Group} {c : Settings}
    (law : m.Law grp ok due) (own : c.channelGroup n = some g) (closed : (m.gates.get n).state = .closed)
    (mode : (m.gates.get n).mode = .auto) (l : Nat) :
    AskedAuto (c.groupRecord g).maxOpen m (m.askAuto c n l) g n l := by
  have silent : sounding (m.gates.get n).state = false := by rw [closed]; rfl
  have fresh (h : Group) : n ∉ (m.groups.get h).waiting := law.not_mem_waiting_of_mode (by rw [mode]; decide) h
  have listed : (m.groups.get g).waiting.filter (fun w => w != n) = (m.groups.get g).waiting :=
    filter_waiting_of_not_mem (fresh g)
  have apart {y : Member} (member : y ∈ (m.groups.get g).members) : y.channel ≠ n := law.channel_ne_of_silent silent member
  have swapped {y : Member} (member : y ∈ (m.groups.get g).members) :=
    swap_eq (law.memberGroup_eq member) (apart member) (fun h _ => fresh h) .closed .auto
  have joined := join_eq (g := g) (fun h _ => fresh h) .auto (m := m)
  rw [listed] at joined
  have asked : m.askAuto c n l = match m.lastOnMember g with
      | some y => (m.evict y.channel .closed).join g n .auto
      | none =>
        if (m.groups.get g).openCount < (c.groupRecord g).maxOpen then m.join g n .auto
        else match quietest (m.groups.get g).members with
          | none => m.post .openDenied
          | some v =>
            if l + 12 ≤ v.latest then ((m.evict v.channel .closed).join g n .auto).post .openDenied
            else m.post .openDenied := by
    rw [Mix.askAuto, own] <;> rfl
  have near (x : List Member) (gates : Table 16 Gate) (posted : EventMask) :
      ∃ members, (⟨gates, m.groups.set g { m.groups.get g with members := x }, posted⟩ : Mix).groups =
        m.groups.set g { m.groups.get g with members := members } := ⟨x, rfl⟩
  have still : ∃ members, m.groups = m.groups.set g { m.groups.get g with members := members } :=
    ⟨(m.groups.get g).members, (Table.set_get_self _ _).symm⟩
  rw [asked]
  refine ⟨?_, fun y alone lastOn => ?_, fun noLastOn space => ?_, fun noLastOn full v found margin => ?_,
    fun noLastOn full narrow => ?_⟩
  · cases last : m.lastOnMember g with
    | some y =>
      simp only
      rw [swapped (lastOnMember_some last).1, listed]
      exact near _ _ _
    | none =>
      simp only
      split
      case isTrue =>
        rw [joined]
        exact near _ _ _
      case isFalse =>
        cases found : quietest (m.groups.get g).members with
        | none => exact still
        | some v =>
          simp only
          split
          case isTrue =>
            rw [swapped (quietest_some found).1, listed]
            exact near _ _ _
          case isFalse => exact still
  · have member : y ∈ (m.groups.get g).members := by rw [alone]; exact List.mem_singleton_self y
    have emptied : without y.channel [y] = [] := by simp [without]
    rw [Law.lastOnMember_of_alone alone lastOn]
    simp only
    rw [swapped member, listed, alone, emptied, List.nil_append]
    exact ⟨apart member, rfl⟩
  · rw [lastOnMember_none.mpr noLastOn]
    exact (if_pos space).trans joined
  · rw [lastOnMember_none.mpr noLastOn]
    simp only [GroupState.openCount, if_neg (Nat.not_lt.mpr full), found, if_pos margin]
    rw [swapped (quietest_some found).1, listed, Mix.post, BitVec.or_assoc]
    exact ⟨apart (quietest_some found).1, rfl⟩
  · rw [lastOnMember_none.mpr noLastOn]
    refine (if_neg (Nat.not_lt.mpr full)).trans ?_
    cases found : quietest (m.groups.get g).members with
    | none => rfl
    | some v => exact if_neg (Nat.not_le.mpr (narrow v found))

end Mix

/-! ### The decision, at the level of the state -/

section
variable {s : State} {n : Channel} {g : Group} {l : Nat}

/-- A measurement of a channel that is no member moves no member's record (R112). -/
theorem State.measured_groups_of_silent (law : GroupLaw s) (silent : sounding (s.gates.get n).state = false) :
    (s.measured n l).groups = s.groups := Table.ext_get fun h => by
  have absent (y : Member) (member : y ∈ (s.groups.get h).members) : y.channel ≠ n :=
    (groupLaw_gating law).law.channel_ne_of_silent silent member
  have same : (s.groups.get h).members.map (fun y => if y.channel = n then { y with latest := l } else y) =
      (s.groups.get h).members :=
    (List.map_congr_left fun y member => if_neg (absent y member)).trans (List.map_id' _)
  rw [State.measured_group, same]

theorem State.actOn_asks (closed : (s.gates.get n).state = .closed) (auto : (s.gates.get n).mode = .auto)
    (loud : l ≤ (s.settings.channels.get n).threshold) :
    (s.measured n l).actOn s.settings n l = (s.measured n l).askAuto s.settings n l := by
  unfold Mix.actOn
  simp only [State.measured_state, State.measured_mode, closed]
  exact if_pos ⟨auto, loud⟩

/-- The gates of a channel that has entered and of the member that made way for it. -/
theorem State.measured_swap {gates : Table 16 Gate} {k : Channel} (other : k ≠ n)
    (eq : gates = ((s.measured n l).gates.set k (((s.measured n l).gates.get k).put .closed)).set n
      (((s.measured n l).gates.get n).put .opened)) :
    gates.get n = ((s.gates.get n).measured l).put .opened ∧ gates.get k = (s.gates.get k).put .closed ∧
      ∀ i, i ∉ [n, k] → gates.get i = s.gates.get i := by
  rw [eq, Table.get_set_self, Table.get_set_other _ _ (Ne.symm other), Table.get_set_self, State.measured_gate,
    State.measured_other other]
  refine ⟨rfl, rfl, fun i out => ?_⟩
  simp only [List.mem_cons, List.not_mem_nil, or_false, not_or] at out
  rw [Table.get_set_other _ _ (Ne.symm out.1), Table.get_set_other _ _ (Ne.symm out.2), State.measured_other out.1]

end

/-- What the decision on the AUTO candidate Mn, measured at `l`, leaves (R113, R116). -/
structure AutoDecided (s t : State) (g : Group) (n : Channel) (l : Nat) : Prop where
  beside : ∀ y, (s.groups.get g).members = [y] → (s.gates.get y.channel).state = .lastOn →
    (t.groups.get g).members = [⟨n, .auto, l⟩] ∧ t.gates.get n = ((s.gates.get n).measured l).put .opened ∧
    t.gates.get y.channel = (s.gates.get y.channel).put .closed ∧ GatesOutside [n, y.channel] s t ∧ t.engine = s.engine ∧
    t.events = (s.postMask gateKinds).events
  room : (∀ y ∈ (s.groups.get g).members, (s.gates.get y.channel).state ≠ .lastOn) →
    ¬(s.settings.groupRecord g).maxOpen ≤ (s.groups.get g).members.length →
    (t.groups.get g).members = (s.groups.get g).members ++ [⟨n, .auto, l⟩] ∧
    t.gates.get n = ((s.gates.get n).measured l).put .opened ∧ GatesOutside [n] s t ∧ t.engine = s.engine.askGroup g ∧
    t.events = (s.post .gateOpened).events
  bump : (∀ y ∈ (s.groups.get g).members, (s.gates.get y.channel).state ≠ .lastOn) →
    (s.settings.groupRecord g).maxOpen ≤ (s.groups.get g).members.length → ∀ v,
    Mix.quietest (s.groups.get g).members = some v → l + 12 ≤ v.latest →
    (t.groups.get g).members = without v.channel (s.groups.get g).members ++ [⟨n, .auto, l⟩] ∧
    t.gates.get n = ((s.gates.get n).measured l).put .opened ∧
    t.gates.get v.channel = (s.gates.get v.channel).put .closed ∧ GatesOutside [n, v.channel] s t ∧ t.engine = s.engine ∧
    t.events = (s.postMask (gateKinds ||| EventKind.openDenied.mask)).events
  denied : (∀ y ∈ (s.groups.get g).members, (s.gates.get y.channel).state ≠ .lastOn) →
    (s.settings.groupRecord g).maxOpen ≤ (s.groups.get g).members.length →
    (∀ v, Mix.quietest (s.groups.get g).members = some v → v.latest < l + 12) →
    t.groups = s.groups ∧ t.gates.get n = ((s.gates.get n).measured l).put .closed ∧ GatesOutside [n] s t ∧
    t.engine = s.engine ∧ t.events = (s.post .openDenied).events
  near : ∃ members, t.groups = s.groups.set g { s.groups.get g with members := members }

theorem State.takeMeasurement_decided {s : State} {n : Channel} {g : Group} (law : GroupLaw s)
    (closed : (s.gates.get n).state = .closed) (auto : (s.gates.get n).mode = .auto)
    (own : s.settings.channelGroup n = some g) (level : Nat) (loud : level ≤ (s.settings.channels.get n).threshold) :
    AutoDecided s (s.takeMeasurement n level) g n level := by
  have silent : sounding (s.gates.get n).state = false := by rw [closed]; rfl
  have groups : (s.measured n level).groups = s.groups := State.measured_groups_of_silent law silent
  have absent {y : Member} (member : y ∈ (s.groups.get g).members) : y.channel ≠ n :=
    (groupLaw_gating law).law.channel_ne_of_silent silent member
  have asked := (State.measured_law law n level).askedAuto own (State.measured_state.trans closed)
    (State.measured_mode.trans auto) level
  rw [State.takeMeasurement_withMix, State.actOn_asks closed auto loud]
  generalize (s.measured n level).askAuto s.settings n level = m at asked ⊢
  obtain ⟨near, beside, room, bump, denied⟩ := asked
  have record : (s.measured n level).recordOf n .auto = ⟨n, .auto, level⟩ := by
    rw [Mix.recordOf, State.measured_latest, if_pos rfl]
  have zero (kinds : EventMask) : (s.measured n level).posted ||| kinds = kinds := BitVec.zero_or
  have heard (noLastOn : ∀ y ∈ (s.groups.get g).members, (s.gates.get y.channel).state ≠ .lastOn) :
      ∀ y ∈ (s.groups.get g).members, ((s.measured n level).gates.get y.channel).state ≠ .lastOn := fun y member => by
    rw [State.measured_other (absent member)]
    exact noLastOn y member
  rw [groups] at near
  rw [groups, record] at beside room bump
  rw [groups] at denied
  obtain ⟨members, near⟩ := near
  have asks {x : List Member} (eq : m.groups = s.groups.set g { s.groups.get g with members := x }) :
      (((s.takeBlock n).withMix m).settle s).engine =
        if (s.groups.get g).members.length = x.length then s.engine else s.engine.askGroup g := by
    change s.engine.askCounts s.groups m.groups = _
    rw [eq, Engine.askCounts_set]
  have posted {kinds : EventMask} (eq : m.posted = (s.measured n level).posted ||| kinds) :
      (((s.takeBlock n).withMix m).settle s).events = (s.postMask kinds).events := by
    rw [← zero kinds, ← eq]
    rfl
  have now : (((s.takeBlock n).withMix m).settle s).groups = m.groups := rfl
  refine ⟨fun y alone lastOn => ?_, fun noLastOn space => ?_, fun noLastOn filled v found margin => ?_,
    fun noLastOn filled narrow => ?_, members, near⟩
  · have other := absent (y := y) (by rw [alone]; exact List.mem_singleton_self y)
    obtain ⟨-, eq⟩ := beside y alone (by rw [State.measured_other other]; exact lastOn)
    obtain ⟨mine, its, outside⟩ := State.measured_swap other (congrArg Mix.gates eq)
    refine ⟨?_, mine, its, outside, ?_, posted (by rw [eq])⟩
    · rw [now, eq, Table.get_set_self]
    · rw [asks (by rw [eq]), alone]
      exact if_pos rfl
  · have eq := room (heard noLastOn) (Nat.lt_of_not_le space)
    refine ⟨?_, ?_, fun k out => ?_, ?_, posted (by rw [eq])⟩
    · rw [now, eq, Table.get_set_self]
    · change m.gates.get n = _
      rw [eq, Table.get_set_self, State.measured_gate]
    · rw [List.mem_singleton] at out
      change m.gates.get k = _
      rw [eq, Table.get_set_other _ _ (Ne.symm out), State.measured_other out]
    · rw [asks (by rw [eq]), if_neg (by rw [List.length_append]; exact (Nat.lt_succ_self _).ne)]
  · have member := (Mix.quietest_some found).1
    obtain ⟨-, eq⟩ := bump (heard noLastOn) filled v found margin
    obtain ⟨mine, its, outside⟩ := State.measured_swap (absent member) (congrArg Mix.gates eq)
    have length := (groupLaw_gating law).law.length_without member
    refine ⟨?_, mine, its, outside, ?_, posted (by rw [eq])⟩
    · rw [now, eq, Table.get_set_self]
    · rw [asks (by rw [eq]), if_pos]
      rw [List.length_append, List.length_singleton]
      exact length.symm
  · have eq := denied (heard noLastOn) filled narrow
    have same : m.groups = s.groups := by rw [eq]; exact groups
    refine ⟨same, ?_, fun k out => ?_, ?_, posted (by rw [eq]; rfl)⟩
    · change m.gates.get n = _
      have rests := ((groupLaw_gating law).law.gate n).rests (by
        change (s.gates.get n).state ≠ _
        rw [closed]
        decide)
      change (s.gates.get n).holdCounter = 0 at rests
      rw [eq, Mix.post, State.measured_gate, Gate.put, ← closed, ← rests]
      rfl
    · rw [List.mem_singleton] at out
      change m.gates.get k = _
      rw [eq, Mix.post, State.measured_other out]
    · change s.engine.askCounts s.groups m.groups = _
      rw [same]
      exact Engine.askCounts_of_same _ fun _ => rfl

/-- Settles O38: the ask of an AUTO candidate by the state of the set, and the quietest member by the list of members. -/
theorem autoCandidatesAreDecided : Obligations.AutoCandidatesAreDecided := by
  unfold Obligations.AutoCandidatesAreDecided
  refine ⟨fun s n g sum awake done law targets closed auto own loud => ?_,
    fun ms => ⟨fun v => ⟨Mix.quietest_split, ?_⟩, Mix.quietest_eq_none_iff ms⟩⟩
  case refine_1 =>
    have run := exec_measurementComplete awake done
    have decided := State.takeMeasurement_decided law closed auto own (measurementOf sum) loud
    obtain ⟨level, measured⟩ : ∃ level, measurementOf sum = level := ⟨_, rfl⟩
    rw [measured] at run decided ⊢
    obtain ⟨beside, room, bump, denied, members, near⟩ := decided
    refine ⟨s.takeMeasurement n level, run, beside, room, bump, denied, ?_, ?_, fun h other => ?_, fun k j => ?_,
      targetLaw_settle _ _, rfl, rfl, rfl, ⟨rfl, rfl, rfl, rfl, rfl, rfl, rfl, rfl, rfl, rfl, rfl⟩⟩
    · rw [near, Table.get_set_self]
    · rw [near, Table.get_set_self]
    · rw [near, Table.get_set_other _ _ (Ne.symm other)]
    · rw [State.takeMeasurement_withMix, State.settle_crosspoints, Table.get_map, Table.get_map]
      rfl
  case refine_2 =>
    rintro ⟨before, after, rfl, kind, first, rest⟩
    exact Mix.quietest_of_split kind first rest

end Sys2Proof.Machine
end

section
/-! PROOFS. SET_GATE_MODE and what a new effective mode does (R92, R93, R97, R112 to R116). -/

namespace Sys2Proof.Machine

open Sys2Proof.Safety

/-! ### A new effective mode -/

section
variable {s t : State} {m : Mix} {n : Channel} {mode : GateMode}

/-- What a new effective mode, stored in the gate and reacted to, leaves (R92, R93). -/
theorem modeTaken (law : GroupLaw s) (changed : Mix.GateChanged s.mix m n) (stored : (m.gates.get n).mode = mode)
    (state : (m.gates.get n).state = (s.gates.get n).state)
    (counter : (m.gates.get n).holdCounter = (s.gates.get n).holdCounter) (new : mode ≠ (s.gates.get n).mode)
    (gates : t.gates = (m.reactMode s.settings n mode).gates) (groups : t.groups = (m.reactMode s.settings n mode).groups)
    (engine : t.engine = s.engine.askCounts s.groups t.groups) : ModeTaken s t n mode := by
  have frame := (Mix.Frame.refl EventMask.kinds m).reactMode Mix.postsGates_all s.settings n mode
  have others (k : Channel) (other : k ≠ n) : m.gates.get k = s.gates.get k := changed.others k other
  refine ⟨?_, fun k other => ⟨?_, ?_⟩, fun parked => ?_, fun _ g own => ?_⟩
  · rw [gates, frame.mode, stored]
  · rw [gates, frame.mode, others k other]
  · rw [gates, frame.portMode, others k other]
  · rw [Mix.reactMode_parked (state.trans parked)] at gates groups
    have same : t.groups = s.groups := groups.trans changed.groups
    refine ⟨same, ?_, ⟨?_, ?_⟩, fun k out => ?_⟩
    · rw [engine, same]
      exact Engine.askCounts_of_same _ fun _ => rfl
    · rw [gates]
      exact state.trans parked
    · rw [gates, counter]
      exact ((groupLaw_gating law).law.gate n).rests (by rw [show s.mix.gates.get n = s.gates.get n from rfl, parked]; decide)
    · rw [gates]
      exact others k fun is => out (List.mem_singleton.mpr is)
  · exact modeReaction law changed state counter new own gates groups (by rw [engine])

end

/-! ### What SET_GATE_MODE stores -/

theorem gateModeOf_code (m : GateMode) : gateModeOf m.code.toNat = some m := by cases m <;> rfl

theorem gateModeOf_eq_none {v : Nat} (h : 2 < v) : gateModeOf v = none := by
  rw [gateModeOf, if_neg (by omega), if_neg (by omega), if_neg (by omega)]

section
variable {s : State} {n : Channel} {port : GateMode}

theorem State.wouldForceOpen_iff : s.wouldForceOpen n (some port) = true ↔ s.modeFrom n port = .forceOpen := by
  rw [State.wouldForceOpen, State.modeFrom, beq_iff_eq]
  cases s.contactForce n with
  | none => exact Option.some.injEq .. |>.to_iff
  | some forced => exact Option.some.injEq .. |>.to_iff

theorem State.forcedAskFails_of_not_closed (open_ : (s.gates.get n).state ≠ .closed) (mode : Option GateMode) :
    s.forcedAskFails n mode = false := by
  rw [State.forcedAskFails, beq_false_of_ne open_, Bool.false_and, Bool.false_and]

theorem State.forcedAskFails_of_free (free : s.modeFrom n port ≠ .forceOpen) : s.forcedAskFails n (some port) = false := by
  rw [State.forcedAskFails, Bool.eq_false_iff.mpr (mt State.wouldForceOpen_iff.mp free), Bool.and_false, Bool.false_and]

theorem State.forcedAskFails_eq {g : Group} (closed : (s.gates.get n).state = .closed)
    (forced : s.modeFrom n port = .forceOpen) (own : s.settings.channelGroup n = some g) :
    s.forcedAskFails n (some port) = !s.mix.grantable (s.settings.groupRecord g).maxOpen g := by
  rw [State.forcedAskFails, closed, State.wouldForceOpen_iff.mpr forced, own]
  rfl

/-- The gate of Mn with its port-set and its effective mode stored (R92, R97). -/
def Gate.moded (port mode : GateMode) (x : Gate) : Gate := { x with portMode := port, mode := mode }

/-- The gates and sets with the modes of Mn stored, before its gate reacts. -/
def State.moded (s : State) (n : Channel) (port mode : GateMode) : Mix :=
  ⟨s.gates.set n ((s.gates.get n).moded port mode), s.groups, 0⟩

theorem State.moded_gate {mode : GateMode} : (s.moded n port mode).gates.get n = (s.gates.get n).moded port mode :=
  Table.get_set_self ..

theorem State.moded_changed (mode : GateMode) : Mix.GateChanged s.mix (s.moded n port mode) n where
  groups := rfl
  others _ other := Table.get_set_other _ _ (Ne.symm other)
  latest := by
    rw [State.moded_gate]
    rfl

/-- The gates with the effective mode stored after the port-set one. -/
theorem State.storeMode_moded (mode : GateMode) :
    ((s.storeMode n port).mix.onGate n fun g => { g with mode := mode }) = s.moded n port mode := by
  have gate : (s.storeMode n port).gates.get n = { s.gates.get n with portMode := port } := Table.get_modify_self ..
  change (⟨(s.storeMode n port).gates.set n { (s.storeMode n port).gates.get n with mode := mode }, s.groups, 0⟩ : Mix) = _
  rw [gate]
  exact congrArg (Mix.mk · s.groups 0) (Table.set_set ..)

theorem State.setPortMode_kept (same : s.modeFrom n port = (s.gates.get n).mode)
    (free : ¬((s.gates.get n).state = .closed ∧ s.modeFrom n port = .forceOpen)) :
    s.setPortMode n port = s.storeMode n port := by
  have gate : (s.storeMode n port).gates.get n = { s.gates.get n with portMode := port } := Table.get_modify_self ..
  have kept : (s.storeMode n port).mix.setMode s.settings n (s.modeFrom n port) = (s.storeMode n port).mix := by
    refine if_pos ?_
    rw [show (s.storeMode n port).mix.gates.get n = (s.storeMode n port).gates.get n from rfl, gate, same]
  rw [State.setPortMode_eq, if_neg (by rw [State.wouldForceOpen_iff]; exact free), State.reMode, gate]
  change (s.storeMode n port).withMix ((s.storeMode n port).mix.setMode s.settings n (s.modeFrom n port)) = _
  rw [kept]
  exact State.postMask_zero _

/-- A new effective mode, or a forced ask, is stored and reacted to (R92, R93, R97). -/
theorem State.setPortMode_new (new : s.modeFrom n port ≠ (s.gates.get n).mode ∨
      ((s.gates.get n).state = .closed ∧ s.modeFrom n port = .forceOpen)) :
    s.setPortMode n port = s.withMix ((s.moded n port (s.modeFrom n port)).reactMode s.settings n (s.modeFrom n port)) := by
  have gate : (s.storeMode n port).gates.get n = { s.gates.get n with portMode := port } := Table.get_modify_self ..
  rw [State.setPortMode_eq]
  split
  case isTrue asks =>
    obtain ⟨closed, forced⟩ := asks
    rw [State.wouldForceOpen_iff] at forced
    have still : ((s.moded n port .forceOpen).gates.get n).state = .closed := by
      rw [State.moded_gate]
      exact closed
    rw [forced, Mix.reactMode_asks still, ← State.storeMode_moded]
    rfl
  case isFalse free =>
    rw [State.wouldForceOpen_iff] at free
    obtain new | asks := new
    · have react : (s.storeMode n port).mix.setMode s.settings n (s.modeFrom n port) =
          (s.moded n port (s.modeFrom n port)).reactMode s.settings n (s.modeFrom n port) := by
        rw [Mix.setMode, if_neg, State.storeMode_moded]
        rw [show (s.storeMode n port).mix.gates.get n = (s.storeMode n port).gates.get n from rfl, gate]
        exact new
      rw [State.reMode, gate]
      change (s.storeMode n port).withMix ((s.storeMode n port).mix.setMode s.settings n (s.modeFrom n port)) = _
      rw [react]
      rfl
    · exact absurd asks free

end

/-! ### The cases of SET_GATE_MODE -/

section
variable {s : State} {n : Channel} {port : GateMode} {g : Group} {p : Port}

theorem serveSetGateMode_accepts (free : heldElsewhere s.groups p (s.settings.channelGroup n) = false)
    (granted : s.forcedAskFails n (some port) = false) :
    serveSetGateMode p [numberByte n, port.code] s = accept ((s.setPortMode n port).settle s) := by
  rw [serveSetGateMode_pair, free, if_neg Bool.false_ne_true, gateModeOf_code, granted, if_neg Bool.false_ne_true]

/-- The port-set mode stored moves no crosspoint and asks nothing. -/
theorem State.settle_of_gates (law : TargetLaw s) (gates : Table 16 Gate) :
    ({ s with gates := gates } : State).settle s = { s with gates := gates } :=
  State.settle_of_groups law rfl rfl rfl rfl rfl

theorem State.setPortMode_parked (parked : (s.gates.get n).state = .parked) : s.setPortMode n port =
    { s with gates := s.gates.set n ((s.gates.get n).moded port (s.modeFrom n port)) } := by
  by_cases same : s.modeFrom n port = (s.gates.get n).mode
  · rw [State.setPortMode_kept same (by rw [parked]; exact nofun), Gate.moded, same]
    rfl
  · have still : ((s.moded n port (s.modeFrom n port)).gates.get n).state = .parked := by
      rw [State.moded_gate]
      exact parked
    rw [State.setPortMode_new (.inl same), Mix.reactMode_parked still]
    exact State.postMask_zero _

/-- A forced ask into room (R97, R110, R114), whatever else the sets hold. -/
theorem State.setPortMode_room (closed : (s.gates.get n).state = .closed) (forced : s.modeFrom n port = .forceOpen)
    (own : s.settings.channelGroup n = some g)
    (noLastOn : ∀ y ∈ (s.groups.get g).members, (s.gates.get y.channel).state ≠ .lastOn)
    (space : (s.groups.get g).members.length < (s.settings.groupRecord g).maxOpen) :
    s.setPortMode n port = s.withMix ((s.moded n port .forceOpen).join g n .forced) := by
  have gate (k : Channel) : ((s.moded n port .forceOpen).gates.get k).state = (s.gates.get k).state := by
    by_cases same : k = n
    · subst same
      rw [State.moded_gate, Gate.moded]
    · exact congrArg Gate.state ((State.moded_changed .forceOpen).others k same)
  have quiet : (s.moded n port .forceOpen).lastOnMember g = none := Mix.lastOnMember_none.mpr fun y member => by
    rw [gate]
    exact noLastOn y member
  have fits : ((s.moded n port .forceOpen).groups.get g).openCount < (s.settings.groupRecord g).maxOpen := space
  have granted : (s.moded n port .forceOpen).grantable (s.settings.groupRecord g).maxOpen g = true := by
    simp only [Mix.grantable, fits, decide_true, Bool.or_true, Bool.true_or]
  rw [State.setPortMode_new (.inr ⟨closed, forced⟩), forced, Mix.reactMode_asks ((gate n).trans closed),
    Mix.askForced_of_group _ own, if_pos granted, Mix.enterForced, quiet]
  simp only [fits, if_true]

/-- A forced ask is granted where there is room or an AUTO member (R114). -/
theorem State.forcedAskFails_of_place (place : (s.gates.get n).state = .closed → s.modeFrom n port = .forceOpen →
      ∀ g, s.settings.channelGroup n = some g → (s.groups.get g).members.length < (s.settings.groupRecord g).maxOpen ∨
        ∃ y ∈ (s.groups.get g).members, y.kind = .auto) : s.forcedAskFails n (some port) = false := by
  by_cases closed : (s.gates.get n).state = .closed
  · by_cases forced : s.modeFrom n port = .forceOpen
    · cases own : s.settings.channelGroup n with
      | none => rw [State.forcedAskFails, own, Bool.and_false]
      | some g =>
        rw [State.forcedAskFails_eq closed forced own, Bool.not_eq_false']
        obtain room | ⟨y, member, auto⟩ := place closed forced g own
        · have room : (s.mix.groups.get g).openCount < (s.settings.groupRecord g).maxOpen := room
          simp only [Mix.grantable, room, decide_true, Bool.or_true, Bool.true_or]
        · cases quiet : Mix.quietest (s.groups.get g).members with
          | none =>
            rw [Mix.kind_of_quietest_none quiet y member] at auto
            cases auto
          | some v =>
            have quiet : Mix.quietest (s.mix.groups.get g).members = some v := quiet
            simp only [Mix.grantable, quiet, Option.isSome_some, Bool.or_true]
    · exact State.forcedAskFails_of_free forced
  · exact State.forcedAskFails_of_not_closed closed _

/-- What a granted forced ask posts (R96): GATE_OPENED, and GATE_CLOSED where a member made way. -/
theorem Mix.Asked.posted {m m' : Mix} {maxOpen : Nat} (asked : m.Asked maxOpen m' g n)
    (alone : ∀ y ∈ (m.groups.get g).members, (m.gates.get y.channel).state = .lastOn → (m.groups.get g).members = [y])
    (nodup : ((m.groups.get g).members.map Member.channel).Nodup)
    (place : (m.groups.get g).members.length < maxOpen ∨ ∃ y ∈ (m.groups.get g).members, y.kind = .auto) :
    m'.posted = m.posted ||| if (m'.groups.get g).members.length = (m.groups.get g).members.length then gateKinds
      else EventKind.gateOpened.mask := by
  by_cases last : ∃ y ∈ (m.groups.get g).members, (m.gates.get y.channel).state = .lastOn
  · obtain ⟨y, member, lastOn⟩ := last
    obtain ⟨-, eq⟩ := asked.beside y (alone y member lastOn) lastOn
    rw [eq, Table.get_set_self, alone y member lastOn, if_pos (by rfl)]
  · have quiet : ∀ y ∈ (m.groups.get g).members, (m.gates.get y.channel).state ≠ .lastOn :=
      fun y member lastOn => last ⟨y, member, lastOn⟩
    by_cases room : (m.groups.get g).members.length < maxOpen
    · rw [asked.room quiet room, Table.get_set_self, if_neg (by simp)]
    · obtain ⟨y, member, auto⟩ := place.resolve_left room
      cases found : Mix.quietest (m.groups.get g).members with
      | none =>
        rw [Mix.kind_of_quietest_none found y member] at auto
        cases auto
      | some v =>
        obtain ⟨-, eq⟩ := asked.bump quiet (Nat.le_of_not_lt room) v found
        have length := Mix.length_without_of_mem nodup (Mix.quietest_some found).1
        rw [eq, Table.get_set_self, if_pos]
        rw [List.length_append, List.length_singleton]
        exact length

/-- What a new effective mode posts (R96). -/
theorem State.moded_posted (law : GroupLaw s) {mode : GateMode} (new : mode ≠ (s.gates.get n).mode) :
    ((s.gates.get n).state = .closed → mode = .forceOpen → ∀ g, s.settings.channelGroup n = some g →
      (s.groups.get g).members.length < (s.settings.groupRecord g).maxOpen ∨
        (∃ y ∈ (s.groups.get g).members, y.kind = .auto) →
      ((s.moded n port mode).reactMode s.settings n mode).posted =
        if ((((s.moded n port mode).reactMode s.settings n mode).groups).get g).members.length =
          (s.groups.get g).members.length then gateKinds else EventKind.gateOpened.mask) ∧
    (sounding (s.gates.get n).state = true → mode = .forceClosed →
      ((s.moded n port mode).reactMode s.settings n mode).posted &&& EventKind.gateClosed.mask =
        EventKind.gateClosed.mask) := by
  have sets := (groupLaw_gating law).law
  have zero (kinds : EventMask) : (s.moded n port mode).posted ||| kinds = kinds := BitVec.zero_or
  have state : ((s.moded n port mode).gates.get n).state = (s.gates.get n).state := by
    rw [State.moded_gate]
    rfl
  refine ⟨fun closed forced g own place => ?_, fun sounds shut => ?_⟩
  · subst forced
    have silent : sounding (s.mix.gates.get n).state = false := by
      change sounding (s.gates.get n).state = false
      rw [closed]
      rfl
    have fresh (h : Group) : n ∉ (s.mix.groups.get h).waiting := sets.not_mem_waiting_of_mode (Ne.symm new) h
    have asked := sets.asked (g := g) (maxOpen := (s.settings.groupRecord g).maxOpen) (State.moded_changed (port := port) .forceOpen)
      silent fresh
    rw [Mix.reactMode_asks (state.trans closed), Mix.askForced_of_group _ own]
    refine (asked.posted (fun y member lastOn => ?_) (sets.nodup g) place).trans (zero _)
    rw [(State.moded_changed .forceOpen).others _ (sets.channel_ne_of_silent silent member)] at lastOn
    exact sets.lastOn g y member lastOn
  · subst shut
    obtain ⟨g, found, -⟩ := sets.memberGroup_isSome sounds
    obtain ⟨-, -, ⟨kinds, posted, closed, -⟩, -⟩ :=
      sets.leave_outcome (groupLaw_fit law) (State.moded_changed (port := port) .forceClosed) found .closed
    rw [Mix.reactMode_shuts (by rw [state]; exact sounds), posted, zero]
    exact closed

end

/-- A state whose ground differs in settings, handlers and delay memory alone has the same building. -/
theorem sameBuilding_of_ground {s t : State} {c : Settings} {ports : ByPort Handler} {d : DelayMemory}
    (h : t.ground = { s.ground with settings := c, ports := ports, delay := d }) : SameBuilding s t :=
  ⟨congrArg Ground.held h, congrArg Ground.frozen h, congrArg Ground.sockets h, congrArg Ground.zones h,
    congrArg Ground.override h, congrArg Ground.clock h, congrArg Ground.standby h, congrArg Ground.contacts h,
    congrArg Ground.announcement h, congrArg Ground.feeds h, congrArg Ground.pending h⟩

/-- A response to a request that acted on gates and sets alone leaves the settings, delay memory and the building. -/
theorem answering_withMix (s : State) (m : Mix) (p : Port) (kind : Byte) (st : Status) (body : List Byte) :
    (answering ((s.withMix m).settle s) p kind st body).settings = s.settings ∧
      (answering ((s.withMix m).settle s) p kind st body).delay = s.delay ∧
      SameBuilding s (answering ((s.withMix m).settle s) p kind st body) := by
  have ground : (answering ((s.withMix m).settle s) p kind st body).ground =
      { s.ground with ports := s.ports.set p (.responding ⟨kind, st, body⟩ false) } := rfl
  exact ⟨congrArg Ground.settings ground, congrArg Ground.delay ground, sameBuilding_of_ground ground⟩

/-- Settles O19: the refusals and the stored mode first, then a forced ask into room, then every new effective mode. -/
theorem setGateModeDecides : Obligations.SetGateModeDecides := by
  unfold Obligations.SetGateModeDecides
  intro s p n free targets
  refine ⟨fun v beyond ready open_ => ?_, fun port ready => ?_⟩
  · rw [exec_setGateMode ready, serveSetGateMode_pair, free, if_neg Bool.false_ne_true, gateModeOf_eq_none beyond,
      State.forcedAskFails_of_not_closed open_, if_neg Bool.false_ne_true]
    rfl
  intro mode run
  have answered (granted : s.forcedAskFails n (some port) = false) :
      run = .next (answering ((s.setPortMode n port).settle s) p 0x04 .ok []) := by
    rw [← accept_sentTo, ← serveSetGateMode_accepts free granted]
    exact exec_setGateMode ready
  refine ⟨fun parked => ?_, fun same kept => ?_, fun closed forced g own noLastOn => ⟨fun full all => ?_, fun space => ?_⟩,
    fun new law place => ?_⟩
  · rw [answered (State.forcedAskFails_of_not_closed (by rw [parked]; decide) _), State.setPortMode_parked parked,
      State.settle_of_gates targets]
    rfl
  · have granted : s.forcedAskFails n (some port) = false := by
      by_cases closed : (s.gates.get n).state = .closed
      · exact State.forcedAskFails_of_free fun forced => kept ⟨closed, forced⟩
      · exact State.forcedAskFails_of_not_closed closed _
    rw [answered granted, State.setPortMode_kept same kept]
    exact congrArg (fun u => Host.Outcome.next (answering u p 0x04 .ok [])) (State.settle_of_gates targets _)
  · have fails : s.forcedAskFails n (some port) = true := by
      rw [State.forcedAskFails_eq closed forced own, Mix.grantable_full (by exact full) (by exact all) (by exact noLastOn)]
      rfl
    refine (exec_setGateMode ready).trans ?_
    rw [serveSetGateMode_pair, free, if_neg Bool.false_ne_true, gateModeOf_code, fails, if_pos rfl]
    rfl
  · have run' := answered (State.forcedAskFails_of_place fun _ _ h there => .inl (by
      rw [own, Option.some.injEq] at there
      exact there ▸ space))
    rw [State.setPortMode_room closed forced own noLastOn space] at run'
    have frame := (Mix.Frame.refl gateKinds (s.moded n port .forceOpen)).join Mix.postsGates_gateKinds g n .forced
    have gate : (s.moded n port .forceOpen).gates.get n = (s.gates.get n).moded port .forceOpen := State.moded_gate
    have record : (s.moded n port .forceOpen).recordOf n .forced = forcedRecord s n := by
      rw [Mix.recordOf, gate]
      rfl
    have mine := Mix.join_groups_get_self (s.moded n port .forceOpen) n .forced (g := g)
    have others (h : Group) (other : h ≠ g) :=
      Mix.join_groups_get_other (s.moded n port .forceOpen) n .forced (Ne.symm other)
    have count (h : Group) (other : h ≠ g) : (s.groups.get h).members.length =
        ((((s.moded n port .forceOpen).join g n .forced).groups).get h).members.length := by
      rw [others h other]
      rfl
    refine ⟨_, run', rfl, ?_, ?_, ?_, fun h other => ?_, fun h => frame.holder h, ?_, ?_, targetLaw_settle _ _, answering_withMix ..⟩
    · change ((s.moded n port .forceOpen).gates.set n (((s.moded n port .forceOpen).gates.get n).put .opened)) = _
      rw [gate]
      exact Table.set_set ..
    · refine (congrArg GroupState.members mine).trans ?_
      exact congrArg ((s.groups.get g).members ++ [·]) record
    · refine fun listed => ?_
      have listed : n ∈ ((((s.moded n port .forceOpen).join g n .forced).groups).get g).waiting := listed
      rw [mine] at listed
      simp at listed
    · refine (congrArg GroupState.members (others h other)).trans ?_
      rfl
    · change (s.postMask (0 ||| EventKind.gateOpened.mask)).events = _
      rw [show (0 : EventMask) ||| EventKind.gateOpened.mask = EventKind.gateOpened.mask from BitVec.zero_or]
      rfl
    · change s.engine.askCounts s.groups ((s.moded n port .forceOpen).join g n .forced).groups = _
      rw [Engine.askCounts_only (g := g) _ count, if_neg]
      · rfl
      · rw [mine]
        simp only [List.length_append, List.length_singleton]
        exact (Nat.lt_succ_self _).ne
  · have granted : s.forcedAskFails n (some port) = false := State.forcedAskFails_of_place place
    obtain ⟨opens, shuts⟩ := State.moded_posted (port := port) law new
    have frame := (Mix.Frame.refl gateKinds (s.moded n port mode)).reactMode Mix.postsGates_gateKinds s.settings n mode
    have within : ((s.moded n port mode).reactMode s.settings n mode).posted &&& ~~~gateKinds = 0 := by
      simpa [EventMask.AgreeOutside, State.moded] using frame.posted
    have run' : run = .next (answering ((s.withMix ((s.moded n port mode).reactMode s.settings n mode)).settle s) p 0x04
        .ok []) :=
      (answered granted).trans (congrArg (fun u : State => Host.Outcome.next (answering (u.settle s) p 0x04 .ok []))
        (State.setPortMode_new (.inl new)))
    have gate : (s.moded n port mode).gates.get n = (s.gates.get n).moded port mode := State.moded_gate
    have stored : (((s.moded n port mode).reactMode s.settings n mode).gates.get n).portMode = port := by
      rw [frame.portMode, gate]
      rfl
    have taken : ModeTaken s (answering ((s.withMix ((s.moded n port mode).reactMode s.settings n mode)).settle s) p 0x04
        .ok []) n mode :=
      modeTaken (m := s.moded n port mode) law (State.moded_changed mode) (by rw [gate]; rfl) (by rw [gate]; rfl)
        (by rw [gate]; rfl) new rfl rfl rfl
    generalize (s.moded n port mode).reactMode s.settings n mode = m at *
    have opened (closed : (s.gates.get n).state = .closed) (forced : mode = .forceOpen) (g : Group)
        (own : s.settings.channelGroup n = some g) : (s.postMask m.posted).events =
          (if (m.groups.get g).members.length = (s.groups.get g).members.length then s.postMask gateKinds
            else s.post .gateOpened).events := by
      rw [opens closed forced g own (place closed forced g own)]
      exact (apply_ite (fun kinds => (s.postMask kinds).events) _ _ _).trans (apply_ite State.events _ _ _).symm
    exact ⟨_, run', rfl, stored, taken, opened, fun sounds shut => postedToAll_of_postMask rfl (shuts sounds shut),
      targetLaw_settle _ _, postedWithin_of_postMask rfl within, answering_withMix ..⟩

end Sys2Proof.Machine
end

section
/-! PROOFS. MOVE_SOURCE (R98). -/

namespace Sys2Proof.Machine

open Sys2Proof.Safety

/-! ### What is asked stays asked -/

theorem mem_mergeItem_of_mem {i j : Item} {q : List Item} (mem : i ∈ q) : i ∈ mergeItem j q := by
  obtain ⟨eq, -⟩ | ⟨eq, -⟩ := mergeItem_cases j q
  · rwa [eq]
  · rw [eq]
    exact List.mem_append_left _ mem

theorem mem_mergeItem (i : Item) (q : List Item) : i ∈ mergeItem i q ∨ Item.all ∈ mergeItem i q := by
  obtain ⟨eq, all | mem⟩ | ⟨eq, -⟩ := mergeItem_cases i q
  · exact .inr (eq.symm ▸ all)
  · exact .inl (eq.symm ▸ mem)
  · rw [eq]
    exact .inl (List.mem_append_right _ (List.mem_singleton_self i))

theorem Engine.mem_askCounts (before after : Table 6 GroupState) {e : Engine} {i : Item} (mem : i ∈ e.queue) :
    i ∈ (e.askCounts before after).queue := by
  unfold Engine.askCounts
  refine List.foldlRecOn (motive := fun e : Engine => i ∈ e.queue) _ _ mem fun f h g _ => ?_
  split
  · exact h
  · exact mem_mergeItem_of_mem h

/-! ### The three steps of a move -/

section
variable {s : State} {n : Channel} {st : Option Station}

/-- Mn with its new station, and asked for, before its eligibility is re-evaluated (R98). -/
def State.restationed (s : State) (n : Channel) (st : Option Station) : State := (s.setStation n st).askChannel n

theorem State.restationed_gate : (s.restationed n st).gates.get n = { s.gates.get n with station := st } := Table.get_modify_self ..

theorem State.restationed_changed : Mix.GateChanged s.mix (s.restationed n st).mix n where
  groups := rfl
  others _ other := Table.get_modify_other _ _ (Ne.symm other)
  latest := by
    have gate := State.restationed_gate (s := s) (n := n) (st := st)
    exact (congrArg Gate.latest gate).trans rfl

/-- A move parks a channel that has lost its eligibility, and moves no other gate and no set (R98). -/
theorem State.moveTo_cases (s : State) (n : Channel) (st : Option Station) : s.moveTo n st =
    if (s.restationed n st).eligible n = true ∨ (s.gates.get n).state = .parked then s.restationed n st
    else (s.restationed n st).onMix (Mix.leave s.settings n .parked) := by
  have state : ((s.restationed n st).gates.get n).state = (s.gates.get n).state := by rw [State.restationed_gate]
  have unaligned : (s.restationed n st).engine.aligned.get n = false := Table.get_set_self ..
  rw [State.moveTo_eq]
  change (s.restationed n st).reEvaluate n = _
  rw [State.reEvaluate, state, unaligned]
  by_cases able : (s.restationed n st).eligible n = true
  · rw [if_pos able, if_neg fun both => Bool.false_ne_true both.2, if_pos (.inl able)]
  · rw [if_neg able]
    simp only [able, Bool.false_eq_true, false_or]
    rfl

theorem State.moveTo_gates (s : State) (n : Channel) (st : Option Station) (k : Channel) :
    ((s.moveTo n st).gates.get k).still = ((s.restationed n st).gates.get k).still := by
  rw [State.moveTo_cases]
  split
  · rfl
  · exact ((Mix.Frame.refl EventMask.kinds (s.restationed n st).mix).leave Mix.postsGates_all s.settings n .parked).gate k

theorem State.moveTo_parked (law : GroupLaw s) (parked : (s.gates.get n).state = .parked) :
    ((s.moveTo n st).gates.get n).state = .parked ∧ ((s.moveTo n st).gates.get n).holdCounter = 0 ∧
      memberGroup (s.moveTo n st).groups n = none := by
  have sets := (groupLaw_gating law).law
  have state : (s.mix.gates.get n).state = .parked := parked
  rw [State.moveTo_cases, if_pos (.inr parked), State.restationed_gate]
  exact ⟨parked, (sets.gate n).rests (by rw [state]; decide), sets.memberGroup_eq_none_iff.mpr (by rw [state]; rfl)⟩

/-- A channel that moves to no station is PARKED afterwards, and in no set (R85, R98). -/
theorem State.moveTo_nowhere (law : GroupLaw s) (n : Channel) :
    ((s.moveTo n none).gates.get n).state = .parked ∧ ((s.moveTo n none).gates.get n).holdCounter = 0 ∧
      memberGroup (s.moveTo n none).groups n = none := by
  by_cases parked : (s.gates.get n).state = .parked
  · exact State.moveTo_parked law parked
  · have sets := (groupLaw_gating law).law
    have unable : ¬(s.restationed n none).eligible n = true := fun able => by
      obtain ⟨-, station, -⟩ := (State.eligible_iff _ _).mp able
      rw [State.restationed_gate] at station
      cases station
    rw [State.moveTo_cases, if_neg (by simp only [unable, parked, Bool.false_eq_true, false_or, not_false_iff])]
    change (((s.restationed n none).mix.leave s.settings n .parked).gates.get n).state = _ ∧
      (((s.restationed n none).mix.leave s.settings n .parked).gates.get n).holdCounter = _ ∧
      memberGroup ((s.restationed n none).mix.leave s.settings n .parked).groups n = none
    cases found : memberGroup s.mix.groups n with
    | none =>
      have alone : (s.restationed n none).mix.leave s.settings n .parked = ((s.restationed n none).mix.unwait n).setState n .parked :=
        Mix.leave_of_none _ found
      have out := (memberGroup_eq_none _ _).mp found
      rw [alone, Mix.setState_get_self]
      refine ⟨rfl, rfl, (memberGroup_eq_none _ _).mpr fun g y member => out g y ?_⟩
      rw [Mix.setState_groups, Mix.unwait_groups_get] at member
      exact member
    | some g =>
      obtain ⟨gate, gone, -⟩ := sets.leave_outcome (groupLaw_fit law) State.restationed_changed found .parked
      rw [gate]
      exact ⟨rfl, rfl, gone⟩

/-- A channel that is not PARKED and moves to a station keeps its gate, and no set moves (R98). -/
theorem State.moveTo_somewhere (law : GroupLaw s) (up : (s.gates.get n).state ≠ .parked) (there : st ≠ none) :
    s.moveTo n st = s.restationed n st := by
  have able := ((groupLaw_gating law).law.gate n).ok up
  have still : (s.restationed n st).eligible n = s.eligible n := by
    refine State.eligible_congr rfl (fun _ _ => rfl) ?_ rfl rfl rfl
    rw [State.restationed_gate, ((State.eligible_iff s n).mp able).2.1]
    exact Option.isSome_iff_ne_none.mpr there
  rw [State.moveTo_cases, if_pos (.inl (still.trans able))]

end

theorem State.moveTo_still {s : State} {n k : Channel} {st : Option Station} :
    (((s.moveTo n st).gates.get k).mode = (s.gates.get k).mode ∧
      ((s.moveTo n st).gates.get k).portMode = (s.gates.get k).portMode ∧
      ((s.moveTo n st).gates.get k).latest = (s.gates.get k).latest) ∧
    ((s.moveTo n st).gates.get k).station = if k = n then st else (s.gates.get k).station := by
  have still := s.moveTo_gates n st k
  have mode := congrArg Gate.mode still
  have port := congrArg Gate.portMode still
  have latest := congrArg Gate.latest still
  have station := congrArg Gate.station still
  simp only [Gate.still] at mode port latest station
  rw [mode, port, latest, station]
  split
  case isTrue same =>
    subst same
    rw [State.restationed_gate]
    exact ⟨⟨rfl, rfl, rfl⟩, rfl⟩
  case isFalse other =>
    rw [show (s.restationed n st).gates.get k = s.gates.get k from State.restationed_changed.others k other]
    exact ⟨⟨rfl, rfl, rfl⟩, rfl⟩

/-- What the re-evaluation at the end of the event and the response that follows leave of the building. -/
theorem sameBuilding_answered {s u : State} (same : SameBuilding s u) (b : State) (p : Port) (kind : Byte) (st : Status)
    (body : List Byte) : SameBuilding s (answering (u.settle b) p kind st body) :=
  ⟨same.held, same.frozen, same.sockets, same.zones, same.override, same.clock, same.standby, same.contacts,
    same.announcement, same.feeds, same.pending⟩

theorem numberedOrNone_numberOf (st : Option Station) : numberedOrNone 32 (numberOf st).toNat = some st := by
  cases st with
  | none => rfl
  | some i =>
    have number : numbered 32 (byteOf (i.val + 1)).toNat = some i := numbered_numberByte i (by decide)
    rw [numberOf, numberedOrNone, number, if_neg]
    · rfl
    · intro zero
      rw [zero] at number
      cases number

theorem numberedOrNone_eq_none {v : Nat} (h : 32 < v) : numberedOrNone 32 v = none := by
  rw [numberedOrNone, if_neg (by omega), numbered_eq_none.mpr (.inr h)]
  rfl

/-- Settles O18: the steps of the move one by one, then the refusals. -/
theorem moveSourceMoves : Obligations.MoveSourceMoves := by
  unfold Obligations.MoveSourceMoves
  refine ⟨fun s p n st ready law free => ?_, fun s p v w ready => ⟨fun outside => ?_, ?_⟩⟩
  · have run : exec (.moveSource p [numberByte n, numberOf st]) s =
        .next (answering ((s.moveTo n st).settle s) p 0x03 .ok []) := by
      rw [exec_moveSource ready, serveMoveSource_pair, free, if_neg Bool.false_ne_true, numberedOrNone_numberOf]
      rfl
    have ground : (s.moveTo n st).ground = s.ground := State.moveTo_ground ..
    have quiet := ((Quiet.refl gateKinds s).moveTo Mix.postsGates_gateKinds n st).sticky
    have still (k : Channel) := State.moveTo_still (s := s) (n := n) (k := k) (st := st)
    have parks (parked : (s.gates.get n).state = .parked) := (State.moveTo_parked (st := st) law parked).1
    have gone (nowhere : st = none) := nowhere ▸ State.moveTo_nowhere law n
    have stays (there : st ≠ none) (up : (s.gates.get n).state ≠ .parked) := State.moveTo_somewhere law up there
    have asked : (s.moveTo n st).engine = s.engine.askChannel n := State.moveTo_engine ..
    have quiet := ((Quiet.refl gateKinds s).moveTo Mix.postsGates_gateKinds n st).sticky
    have ground : (s.moveTo n st).ground = s.ground := State.moveTo_ground ..
    generalize s.moveTo n st = u at *
    obtain ⟨flight, aligned, -⟩ := Engine.askCounts_frame s.groups u.groups u.engine
    obtain ⟨⟨mode, port, latest⟩, station⟩ := still n
    refine ⟨_, run, ?_, station.trans (if_pos rfl), port, mode, latest, fun k other => ?_,
      aligned.trans (by rw [asked]; rfl), flight.trans (by rw [asked]; rfl), ?_, fun i mem => ?_, parks, gone,
      fun there up => ?_, congrArg Ground.settings ground, congrArg Ground.delay ground, quiet,
      sameBuilding_answered (sameBuilding_of_ground ground) ..⟩
    · exact congrArg (ByPort.set · p _) (congrArg Ground.ports ground)
    · obtain ⟨⟨mode, port, latest⟩, station⟩ := still k
      exact ⟨station.trans (if_neg other), mode, port, latest⟩
    · have queue : u.engine.queue = mergeItem (.channel n) s.engine.queue := by rw [asked]; rfl
      obtain mem | mem := mem_mergeItem (.channel n) s.engine.queue
      · exact .inl (Engine.mem_askCounts _ _ (queue ▸ mem))
      · exact .inr (Engine.mem_askCounts _ _ (queue ▸ mem))
    · refine Engine.mem_askCounts _ _ ?_
      rw [asked]
      exact mem_mergeItem_of_mem mem
    · rw [stays there up]
      have gate := State.restationed_gate (s := s) (n := n) (st := st)
      exact ⟨(congrArg Gate.state gate).trans rfl, rfl, rfl, fun k other => State.restationed_changed.others k other⟩
  · rw [exec_moveSource ready, serveMoveSource, naming_pair_outside outside]
    rfl
  · rintro n rfl free beyond
    rw [exec_moveSource ready, serveMoveSource_pair, free, if_neg Bool.false_ne_true, numberedOrNone_eq_none beyond]
    rfl

end Sys2Proof.Machine
end

section
/-! PROOFS. A debounced contact change applies its action (R92, R93, R197 to R199). -/

namespace Sys2Proof.Machine

open Sys2Proof.Safety

section
variable {s t u : State} {k : EventKind} {kinds : EventMask}

/-- A kind in all three sets stays there while nothing but other kinds move. -/
theorem postedToAll_of_quiet (quiet : Quiet kinds s t) (posted : PostedToAll k s) (apart : k.mask &&& ~~~kinds = k.mask) :
    PostedToAll k t := fun p => by
  have same : (t.events.get p).sticky &&& ~~~kinds = (s.events.get p).sticky &&& ~~~kinds := quiet.sticky p
  have before : (s.events.get p).sticky &&& k.mask = k.mask := posted p
  calc (t.events.get p).sticky &&& k.mask
      = (t.events.get p).sticky &&& ~~~kinds &&& k.mask := by rw [BitVec.and_assoc, BitVec.and_comm (~~~kinds), apart]
    _ = (s.events.get p).sticky &&& ~~~kinds &&& k.mask := by rw [same]
    _ = k.mask := by rw [BitVec.and_assoc, BitVec.and_comm (~~~kinds), apart, before]

theorem postedToAll_post (s : State) (k : EventKind) : PostedToAll k (s.post k) :=
  postedToAll_of_postMask (s := s) (posted := k.mask) rfl (BitVec.and_self ..)

end

/-! ### An effective mode re-evaluated -/

section
variable {s : State} {n : Channel}

theorem State.reMode_kept (same : s.modeFrom n (s.gates.get n).portMode = (s.gates.get n).mode) : s.reMode n = s := by
  have kept : s.mix.setMode s.settings n (s.modeFrom n (s.gates.get n).portMode) = s.mix := if_pos same
  rw [State.reMode, State.onMix, kept]
  exact State.postMask_zero _

theorem State.reMode_new (new : s.modeFrom n (s.gates.get n).portMode ≠ (s.gates.get n).mode) :
    s.reMode n = s.withMix ((s.moded n (s.gates.get n).portMode (s.modeFrom n (s.gates.get n).portMode)).reactMode s.settings n
      (s.modeFrom n (s.gates.get n).portMode)) := by
  have stored : (s.mix.onGate n fun g => { g with mode := s.modeFrom n (s.gates.get n).portMode }) =
      s.moded n (s.gates.get n).portMode (s.modeFrom n (s.gates.get n).portMode) := rfl
  have react : s.mix.setMode s.settings n (s.modeFrom n (s.gates.get n).portMode) =
      (s.moded n (s.gates.get n).portMode (s.modeFrom n (s.gates.get n).portMode)).reactMode s.settings n
        (s.modeFrom n (s.gates.get n).portMode) := by
    rw [Mix.setMode, if_neg (by exact new), stored]
  rw [State.reMode, State.onMix, react]

/-- What the re-evaluation of a mode that has become another leaves (R92, R93). -/
theorem State.reMode_taken {s u t : State} (law : GroupLaw s) (gates : u.gates = s.gates) (groups : u.groups = s.groups)
    (react : ∀ x mode, Mix.reactMode u.settings n mode x = Mix.reactMode s.settings n mode x)
    (new : u.modeFrom n (s.gates.get n).portMode ≠ (s.gates.get n).mode) (after : t.gates = (u.reMode n).gates)
    (sets : t.groups = (u.reMode n).groups) (engine : t.engine = s.engine.askCounts s.groups t.groups) :
    ModeTaken s t n (u.modeFrom n (s.gates.get n).portMode) ∧ (t.gates.get n).portMode = (s.gates.get n).portMode := by
  have moded : u.moded n (u.gates.get n).portMode (u.modeFrom n (u.gates.get n).portMode) =
      s.moded n (s.gates.get n).portMode (u.modeFrom n (s.gates.get n).portMode) := by
    rw [State.moded, gates, groups]
    rfl
  have gate := State.moded_gate (s := s) (n := n) (port := (s.gates.get n).portMode)
    (mode := u.modeFrom n (s.gates.get n).portMode)
  have eq := State.reMode_new (s := u) (n := n) (by rw [gates]; exact new)
  rw [moded, react, gates] at eq
  rw [eq] at after sets
  generalize u.modeFrom n (s.gates.get n).portMode = mode at *
  have frame := (Mix.Frame.refl EventMask.kinds (s.moded n (s.gates.get n).portMode mode)).reactMode Mix.postsGates_all
    s.settings n mode
  refine ⟨modeTaken law (State.moded_changed mode) (by rw [gate]; rfl) (by rw [gate]; rfl) (by rw [gate]; rfl) new after sets
    engine, ?_⟩
  rw [after]
  exact (frame.portMode n).trans (by rw [gate]; rfl)

end

/-! ### A contact's debounced level taken -/

/-- The contact `k` after its debounced change, and CONTACT_CHANGE posted (R197). -/
def State.heard (s : State) (k : ContactIn) : State :=
  (s.onContact k fun c => { c with debounced := c.raw, debounce := none }).post .contactChange

section
variable {s : State} {k : ContactIn}

theorem exec_contactChange (awake : s.held = false) (due : (s.contacts.get k).debounce = some 0)
    (changed : (s.contacts.get k).raw ≠ (s.contacts.get k).debounced) :
    exec (.contactChange k) s = .next (((s.heard k).applyContact k).settle s) := by
  change execContactChange k s = _
  rw [execContactChange, occur_of_awake awake, if_pos ⟨due, changed⟩]
  rfl

theorem State.heard_contactActive : (s.heard k).contactActive k = true ↔
    (s.contacts.get k).raw ≠ (s.settings.contactIn.get k).activeOpen := by
  have contact : (s.heard k).contacts.get k = { s.contacts.get k with debounced := (s.contacts.get k).raw, debounce := none } :=
    Table.get_modify_self ..
  rw [State.contactActive, contact, bne_iff_ne]
  rfl

theorem State.anyActive_of_active {a : ContactAction} (active : s.contactActive k = true)
    (action : (s.settings.contactIn.get k).action = a) : s.anyActive a = true := by
  rw [State.anyActive, List.any_eq_true]
  exact ⟨k, List.mem_finRange k, by simp [active, action]⟩

theorem State.settle_heard (law : TargetLaw s) : (s.heard k).settle s = s.heard k :=
  State.settle_of_groups law rfl rfl rfl rfl rfl

theorem State.noHolder_iff : s.noHolder = true ↔ ∀ g, (s.groups.get g).holder = none := by
  simp [State.noHolder]

end

section
variable {s : State} {k : ContactIn}

theorem State.applyContact_idle (action : (s.settings.contactIn.get k).action = .none) : s.applyContact k = s := by
  rw [State.applyContact, action]
  rfl

theorem State.applyContact_arrange {a : Arrangement} (action : (s.settings.contactIn.get k).action = .arrange a) :
    s.applyContact k = if s.contactActive k ∧ s.noHolder ∧ a ≠ s.settings.active then s.switchTo a else s := by
  rw [State.applyContact, action]

theorem State.applyContact_move {n : Channel} {st : Option Station}
    (action : (s.settings.contactIn.get k).action = .move n st) :
    s.applyContact k = if s.contactActive k then s.moveTo n st else s := by
  rw [State.applyContact, action]

theorem State.applyContact_mute {j : Zone} (action : (s.settings.contactIn.get k).action = .zoneMuteWhile j) :
    s.applyContact k = s.reMute j := by
  rw [State.applyContact, action]
  rfl

theorem State.applyContact_force {n : Channel} (action : (s.settings.contactIn.get k).action = .forceOpenWhile n ∨
    (s.settings.contactIn.get k).action = .forceClosedWhile n) : s.applyContact k = s.reMode n := by
  obtain action | action := action <;> rw [State.applyContact, action] <;> rfl

end

/-- Settles O42, action by action. -/
theorem contactsAct : Obligations.ContactsAct := by
  unfold Obligations.ContactsAct
  intro s k awake due changed targets heard active action
  have run : exec (.contactChange k) s = .next ((heard.applyContact k).settle s) := exec_contactChange awake due changed
  have activeIff : heard.contactActive k = true ↔ active := State.heard_contactActive (s := s) (k := k)
  have still : heard.settle s = heard := State.settle_heard targets
  have told : PostedToAll .contactChange heard := postedToAll_post _ _
  refine ⟨fun act => ?_, fun a act idle => ?_, fun a act on free other => ?_, fun n st act => ⟨fun off => ?_, fun on => ?_⟩,
    fun j act => ?_, fun n act law => ?_⟩
  · rw [run, State.applyContact_idle (by exact act), still]
  · have idle : ¬(heard.contactActive k ∧ heard.noHolder ∧ a ≠ heard.settings.active) := by
      rintro ⟨on, free, other⟩
      obtain off | ⟨g, holder⟩ | same := idle
      · exact off (activeIff.mp on)
      · exact holder (State.noHolder_iff.mp free g)
      · exact other same
    rw [run, State.applyContact_arrange (by exact act), if_neg idle, still]
  · rw [State.applyContact_arrange (by exact act),
      if_pos ⟨activeIff.mpr on, State.noHolder_iff.mpr (by exact free), other⟩] at run
    have quiet : Quiet (gateKinds ||| EventKind.arrangementChanged.mask) heard (heard.switchTo a) :=
      (Quiet.refl _ _).switchTo (by decide) (by decide) a
    have engine : (heard.switchTo a).engine = s.engine.askAll := State.switchTo_engine ..
    have ground := heard.switchTo_ground a
    have posted : PostedToAll .arrangementChanged (heard.switchTo a) := by
      rw [State.switchTo_eq]
      exact postedToAll_post _ _
    have changes : PostedToAll .contactChange (heard.switchTo a) := postedToAll_of_quiet quiet told (by decide)
    generalize heard.switchTo a = u at *
    refine ⟨_, run, congrArg Ground.settings ground, posted, changes, ?_,
      congrArg Ground.ports ground⟩
    refine (Engine.askCounts_of_all _ _ ?_).trans engine
    rw [engine]
    exact List.mem_singleton_self _
  · rw [run, State.applyContact_move (by exact act), if_neg (fun on => off (activeIff.mp on)), still]
  · rw [State.applyContact_move (by exact act), if_pos (activeIff.mpr on)] at run
    have stations (m : Channel) := (State.moveTo_still (s := heard) (n := n) (k := m) (st := st)).2
    have asked : (heard.moveTo n st).engine = s.engine.askChannel n := State.moveTo_engine ..
    have ground : (heard.moveTo n st).ground = heard.ground := State.moveTo_ground ..
    generalize heard.moveTo n st = u at *
    obtain ⟨-, aligned, -⟩ := Engine.askCounts_frame s.groups u.groups u.engine
    refine ⟨_, run, (stations n).trans (if_pos rfl), fun m other => (stations m).trans (if_neg other),
      congrArg Ground.contacts ground, aligned.trans (by rw [asked]; rfl), ?_, congrArg Ground.settings ground,
      congrArg Ground.ports ground⟩
    have queue : u.engine.queue = mergeItem (.channel n) s.engine.queue := by rw [asked]; rfl
    obtain mem | mem := mem_mergeItem (.channel n) s.engine.queue
    · exact .inl (Engine.mem_askCounts _ _ (queue ▸ mem))
    · exact .inr (Engine.mem_askCounts _ _ (queue ▸ mem))
  · rw [State.applyContact_mute (by exact act)] at run
    have ground : ((heard.reMute j).settle s).ground = { heard.ground with
        zones := s.zones.modify j fun z => { z with contactMute := heard.anyActive (.zoneMuteWhile j) } } := rfl
    have mix : ((heard.reMute j).settle s).mix = s.mix := rfl
    refine ⟨_, run, congrArg Ground.contacts ground, congrArg Ground.zones ground, fun on => ?_, targetLaw_settle _ _,
      congrArg Mix.gates mix, congrArg Mix.groups mix, Engine.askCounts_of_same _ fun _ => rfl, rfl,
      congrArg Ground.settings ground, congrArg Ground.delay ground, congrArg Ground.ports ground⟩
    have zone : ((heard.reMute j).settle s).zones.get j =
        { heard.zones.get j with contactMute := heard.anyActive (.zoneMuteWhile j) } := Table.get_modify_self ..
    rw [zone]
    exact State.anyActive_of_active (activeIff.mpr on) act
  · intro mode
    rw [State.applyContact_force (by exact act)] at run
    have force (a : ContactAction) (on : active) (is : action = a) : heard.anyActive a = true :=
      State.anyActive_of_active (activeIff.mpr on) is
    refine ⟨fun on is => ?_, fun on is => ?_, fun off free free' => ?_, fun same => ?_, fun new => ?_⟩
    · change (heard.contactForce n).getD _ = _
      rw [State.contactForce, if_pos (force _ on is)]
      rfl
    · change (heard.contactForce n).getD _ = _
      rw [State.contactForce, if_pos (force _ on is)]
      split <;> rfl
    · change (heard.contactForce n).getD _ = _
      rw [State.contactForce, free, free']
      rfl
    · rw [run, State.reMode_kept (by exact same), still]
    · have quiet : Quiet gateKinds heard (heard.reMode n) := (Quiet.refl _ _).reMode Mix.postsGates_gateKinds n
      have ground : ((heard.reMode n).settle s).ground = heard.ground := rfl
      obtain ⟨taken, port⟩ := State.reMode_taken (s := s) (u := heard) (t := (heard.reMode n).settle s) law rfl rfl
        (fun _ _ => rfl) new rfl rfl rfl
      have within : PostedWithin (EventKind.contactChange.mask ||| gateKinds) s heard :=
        postedWithin_of_postMask (s := s) (posted := EventKind.contactChange.mask) rfl (by decide)
      have quiet' : Quiet (EventKind.contactChange.mask ||| gateKinds) heard (heard.reMode n) :=
        (Quiet.refl _ _).reMode (by decide) n
      have changes : PostedToAll .contactChange (heard.reMode n) := postedToAll_of_quiet quiet told (by decide)
      refine ⟨_, run, taken, port, changes, fun p => Eq.trans (quiet'.sticky p) (within p), targetLaw_settle _ _, congrArg Ground.contacts ground, congrArg Ground.settings ground, congrArg Ground.ports ground,
        congrArg Ground.zones ground, congrArg Ground.delay ground, ?_⟩
      exact (Engine.askCounts_frame ..).2.1

end Sys2Proof.Machine
end

section
/-! PROOFS. CONTACT_IN writes (R92, R93, R146, R196, R198). -/

namespace Sys2Proof.Machine

open Sys2Proof.Safety

/-! ### The entry of a binding -/

theorem ContactAction.bytes_length (a : ContactAction) : a.bytes.length = 3 := by cases a <;> rfl

/-- A contact action is read back from its three bytes. -/
theorem contactActionOf_bytes (a : ContactAction) (rest : List Byte) :
    contactActionOf (natAt (a.bytes ++ rest) 0) (natAt (a.bytes ++ rest) 1) (natAt (a.bytes ++ rest) 2) = some a := by
  have channel (n : Channel) : numbered 16 (byteOf (n.val + 1)).toNat = some n := numbered_numberByte n (by decide)
  have zone (j : Zone) : numbered 24 (byteOf (j.val + 1)).toNat = some j := numbered_numberByte j (by decide)
  have arrangement (k : Arrangement) : numbered 4 (byteOf (k.val + 1)).toNat = some k := numbered_numberByte k (by decide)
  cases a with
  | none => rfl
  | forceOpenWhile n => exact congrArg (Option.map ContactAction.forceOpenWhile) (channel n)
  | forceClosedWhile n => exact congrArg (Option.map ContactAction.forceClosedWhile) (channel n)
  | zoneMuteWhile j => exact congrArg (Option.map ContactAction.zoneMuteWhile) (zone j)
  | arrange k => exact congrArg (Option.map ContactAction.arrange) (arrangement k)
  | move n st =>
    change (match numbered 16 (byteOf (n.val + 1)).toNat, numberedOrNone 32 (numberOf st).toNat with
      | some n, some st => some (ContactAction.move n st)
      | _, _ => none) = _
    rw [channel, numberedOrNone_numberOf]

theorem contactActionOf_eq_none {c tgt st : Nat} (h : 5 < c ∨ (1 ≤ c ∧ c ≤ 5 ∧ tgt = 0) ∨ (c = 4 ∧ 32 < st) ∨
    (c = 3 ∧ 24 < tgt) ∨ (c = 5 ∧ 4 < tgt) ∨ ((c = 1 ∨ c = 2 ∨ c = 4) ∧ 16 < tgt)) : contactActionOf c tgt st = none := by
  unfold contactActionOf
  split
  case h_1 => omega
  case h_2 | h_3 => rw [numbered_eq_none.mpr (by omega)]; rfl
  case h_4 | h_6 => rw [numbered_eq_none.mpr (by omega)]; rfl
  case h_5 =>
    by_cases channel : tgt = 0 ∨ 16 < tgt
    · rw [numbered_eq_none.mpr channel]
    · rw [numberedOrNone_eq_none (by omega)]
      cases numbered 16 tgt <;> rfl
  case h_7 => rfl

theorem contactInOf_bytes (a : ContactAction) (pol : Bool) (hi lo : Byte) :
    contactInOf (a.bytes ++ [flagOf pol, hi, lo]) =
      some ⟨a, pol, max 10 (min 500 (hi.toNat * 256 + lo.toNat))⟩ := by
  have later (i : Nat) (rest : List Byte) : natAt (a.bytes ++ rest) (3 + i) = natAt rest i := by
    have length := a.bytes_length
    rw [natAt, natAt, byteAt, byteAt, List.getD_append_right _ _ _ _ (by omega), length]
    congr 2
    omega
  unfold contactInOf
  rw [contactActionOf_bytes, wordAt, later 0, later 1, later 2]
  have pol' : yesNo (natAt [flagOf pol, hi, lo] 0) = some pol := yesNo_flagOf pol
  rw [pol']
  rfl

theorem contactInOf_eq_none {a tgt st pol hi lo : Byte}
    (h : 5 < a.toNat ∨ 1 < pol.toNat ∨ (1 ≤ a.toNat ∧ a.toNat ≤ 5 ∧ tgt.toNat = 0) ∨ (a.toNat = 4 ∧ 32 < st.toNat) ∨
       (a.toNat = 3 ∧ 24 < tgt.toNat) ∨ (a.toNat = 5 ∧ 4 < tgt.toNat) ∨
       ((a.toNat = 1 ∨ a.toNat = 2 ∨ a.toNat = 4) ∧ 16 < tgt.toNat)) :
    contactInOf [a, tgt, st, pol, hi, lo] = none := by
  unfold contactInOf
  simp only [natAt_cons_zero, natAt_cons_succ]
  by_cases flag : 1 < pol.toNat
  · rw [yesNo_eq_none flag]
    cases contactActionOf a.toNat tgt.toNat st.toNat <;> rfl
  · rw [contactActionOf_eq_none (by omega)]

/-! ### The while-effects of a binding re-evaluated -/

/-- The action forces the mode of Mn while its input is active (R198). -/
def ContactAction.Forces (a : ContactAction) (n : Channel) : Prop := a = .forceOpenWhile n ∨ a = .forceClosedWhile n

section
variable {s u : State} {a : ContactAction} {n : Channel} {j : Zone}

theorem State.reAct_forces (h : a.Forces n) (s : State) : s.reAct a = s.reMode n := by
  obtain rfl | rfl := h <;> rfl

/-- An action that forces no mode moves no gate and no set. -/
theorem State.reAct_mix (h : ∀ n, ¬a.Forces n) (s : State) : (s.reAct a).mix = s.mix ∧ (s.reAct a).events = s.events := by
  cases a with
  | forceOpenWhile n => exact absurd (.inl rfl) (h n)
  | forceClosedWhile n => exact absurd (.inr rfl) (h n)
  | none | zoneMuteWhile | move | arrange => exact ⟨rfl, rfl⟩

/-- A re-evaluated while-effect bears on gates, sets and zones alone (R198). -/
theorem State.reAct_ground_zones (a : ContactAction) (s : State) :
    (s.reAct a).ground = { s.ground with zones := (s.reAct a).zones } := by
  cases a <;> rfl

theorem State.reAct_contactMute (a : ContactAction) (s : State) (j : Zone) : (s.reAct a).zones.get j =
    if a = .zoneMuteWhile j then { s.zones.get j with contactMute := s.anyActive (.zoneMuteWhile j) } else s.zones.get j := by
  cases a with
  | zoneMuteWhile i =>
    by_cases same : i = j
    · subst same
      rw [if_pos rfl]
      exact Table.get_modify_self ..
    · rw [if_neg (by simpa using same)]
      exact Table.get_modify_other _ _ same
  | _ =>
    rw [if_neg nofun]
    rfl

/-- What forces modes rests on the contacts and their bindings (R92, R198). -/
theorem State.modeFrom_of_contacts (contacts : u.contacts = s.contacts) (settings : u.settings = s.settings) (n : Channel)
    (port : GateMode) : u.modeFrom n port = s.modeFrom n port :=
  have active := State.anyActive_congr (t := u) (s := s) (fun _ => by rw [contacts]) (by rw [settings])
  State.modeFrom_congr (active _) (active _) port

theorem State.reAct_contacts (a : ContactAction) (s : State) : (s.reAct a).contacts = s.contacts :=
  congrArg Ground.contacts (State.reAct_ground_zones a s)

theorem State.reAct_settings (a : ContactAction) (s : State) : (s.reAct a).settings = s.settings :=
  congrArg Ground.settings (State.reAct_ground_zones a s)

/-- A re-evaluated mode is the one of R92. -/
theorem State.reMode_gate (s : State) (n k : Channel) :
    ((s.reMode n).gates.get k).portMode = (s.gates.get k).portMode ∧ ((s.reMode n).gates.get k).mode =
      if k = n then s.modeFrom n (s.gates.get n).portMode else (s.gates.get k).mode := by
  by_cases same : s.modeFrom n (s.gates.get n).portMode = (s.gates.get n).mode
  · rw [State.reMode_kept same, same]
    refine ⟨rfl, ?_⟩
    split
    case isTrue at_n => rw [at_n]
    case isFalse => rfl
  · rw [State.reMode_new same]
    generalize s.modeFrom n (s.gates.get n).portMode = mode
    have frame := (Mix.Frame.refl EventMask.kinds (s.moded n (s.gates.get n).portMode mode)).reactMode Mix.postsGates_all
      s.settings n mode
    have changed := State.moded_changed (s := s) (n := n) (port := (s.gates.get n).portMode) mode
    refine ⟨(frame.portMode k).trans ?_, (frame.mode k).trans ?_⟩
    · by_cases at_n : k = n
      · rw [at_n, State.moded_gate]
        rfl
      · exact congrArg Gate.portMode (changed.others k at_n)
    · by_cases at_n : k = n
      · rw [if_pos at_n, at_n, State.moded_gate]
        rfl
      · rw [if_neg at_n]
        exact congrArg Gate.mode (changed.others k at_n)

theorem State.reAct_gate (a : ContactAction) (s : State) (k : Channel) :
    ((s.reAct a).gates.get k).portMode = (s.gates.get k).portMode ∧
      (a.Forces k → ((s.reAct a).gates.get k).mode = s.modeFrom k (s.gates.get k).portMode) ∧
      (¬a.Forces k → ((s.reAct a).gates.get k).mode = (s.gates.get k).mode) := by
  by_cases forces : ∃ n, a.Forces n
  · obtain ⟨n, forces⟩ := forces
    obtain ⟨port, mode⟩ := s.reMode_gate n k
    rw [State.reAct_forces forces, mode]
    refine ⟨port, fun here => ?_, fun elsewhere => if_neg fun same => elsewhere (by rw [same]; exact forces)⟩
    have same : k = n := by
      obtain rfl | rfl := forces <;> obtain h | h := here <;> cases h <;> rfl
    rw [if_pos same, same]
  · have still := congrArg Mix.gates (State.reAct_mix (fun n h => forces ⟨n, h⟩) s).1
    have still : (s.reAct a).gates = s.gates := still
    rw [still]
    exact ⟨rfl, fun here => absurd ⟨k, here⟩ forces, fun _ => rfl⟩

/-- A while-effect that is as it should be is left (R92, R146). -/
theorem State.reAct_kept (modes : ∀ n, a.Forces n → s.modeFrom n (s.gates.get n).portMode = (s.gates.get n).mode)
    (mutes : ∀ j, a = .zoneMuteWhile j → s.anyActive (.zoneMuteWhile j) = (s.zones.get j).contactMute) : s.reAct a = s := by
  cases a with
  | forceOpenWhile n => exact State.reMode_kept (modes n (.inl rfl))
  | forceClosedWhile n => exact State.reMode_kept (modes n (.inr rfl))
  | zoneMuteWhile j =>
    have still : s.zones.modify j (fun z => { z with contactMute := s.anyActive (.zoneMuteWhile j) }) = s.zones := by
      rw [Table.modify, mutes j rfl, Table.set_get_self]
    exact congrArg (fun zones => { s with zones := zones }) still
  | none | move | arrange => rfl

theorem State.reMode_mix (mix : u.mix = s.mix) (contacts : u.contacts = s.contacts) (settings : u.settings = s.settings)
    (n : Channel) : (u.reMode n).mix = (s.reMode n).mix := by
  have gates : u.gates = s.gates := congrArg Mix.gates mix
  have eq : u.mix.setMode u.settings n (u.modeFrom n (u.gates.get n).portMode) =
      s.mix.setMode s.settings n (s.modeFrom n (s.gates.get n).portMode) := by
    rw [mix, settings, gates, State.modeFrom_of_contacts contacts settings]
  exact congrArg (fun m : Mix => (⟨m.gates, m.groups, 0⟩ : Mix)) eq

/-- Two while-effects of which one or both force the mode of Mn and neither another's come to one re-evaluation of it. -/
theorem State.reAct_reAct {b : ContactAction} (binds : a.Forces n ∨ b.Forces n)
    (alone : ∀ m, a.Forces m ∨ b.Forces m → m = n) (s : State) : ((s.reAct a).reAct b).mix = (s.reMode n).mix := by
  by_cases first : a.Forces n
  · rw [State.reAct_forces first]
    by_cases second : b.Forces n
    · obtain ⟨port, mode⟩ := s.reMode_gate n n
      rw [State.reAct_forces second, State.reMode_kept]
      rw [port, mode, if_pos rfl]
      exact State.modeFrom_of_contacts rfl rfl n _
    · exact (State.reAct_mix (fun m h => second (alone m (.inr h) ▸ h)) _).1
  · have second := binds.resolve_left first
    rw [State.reAct_forces second]
    exact State.reMode_mix (State.reAct_mix (fun m h => first (alone m (.inl h) ▸ h)) _).1 (State.reAct_contacts a s)
      (State.reAct_settings a s) n

end

/-! ### The write -/

section
variable {s : State} {p : Port} {k : ContactIn} {a : ContactAction}

theorem exec_writeEntryContactIn {index : BitVec 16} {e : List Byte} (h : Ready s p 0x02 (writeBody 7 index e)) :
    exec (.writeEntryContactIn p index e) s = .next ((serveWriteContactIn index e s).sentTo p 0x02) := occur_request h

/-- The new binding stored, before its while-effects are taken up. -/
def State.bound (s : State) (k : ContactIn) (b : ContactBinding) : State :=
  { s with settings := { s.settings with contactIn := s.settings.contactIn.set k b } }

theorem exec_writeEntryContactIn_bound {pol : Bool} {hi lo : Byte}
    (h : Ready s p 0x02 (writeBody 7 (indexWord k) (a.bytes ++ [flagOf pol, hi, lo]))) :
    exec (.writeEntryContactIn p (indexWord k) (a.bytes ++ [flagOf pol, hi, lo])) s = .next (answering
      ((((s.bound k ⟨a, pol, max 10 (min 500 (hi.toNat * 256 + lo.toNat))⟩).reAct (s.settings.contactIn.get k).action).reAct
        a).settle s) p 0x02
      (if hi.toNat * 256 + lo.toNat < 10 ∨ 500 < hi.toNat * 256 + lo.toNat then .okClamped else .ok) []) := by
  have length : (a.bytes ++ [flagOf pol, hi, lo]).length = 6 := by
    rw [List.length_append, a.bytes_length]
    rfl
  have time : wordAt (a.bytes ++ [flagOf pol, hi, lo]) 4 = hi.toNat * 256 + lo.toNat := by
    cases a <;> rfl
  rw [exec_writeEntryContactIn h, serveWriteContactIn, writeEntry_indexWord k (by decide) length, contactInOf_bytes, time]
  simp only [acceptClamped_sentTo, bne_iff_ne, clampNat_ne (show 10 ≤ 500 by decide)]
  rfl

/-- A new binding with the action of the old one, and as active, forces and mutes as it did. -/
theorem State.bound_anyActive {b : ContactBinding} (action : b.action = (s.settings.contactIn.get k).action)
    (active : (s.bound k b).contactActive k = s.contactActive k) (x : ContactAction) :
    (s.bound k b).anyActive x = s.anyActive x := by
  have same (i : ContactIn) : (s.bound k b).contactActive i = s.contactActive i ∧
      ((s.bound k b).settings.contactIn.get i).action = (s.settings.contactIn.get i).action := by
    by_cases at_k : k = i
    · subst at_k
      exact ⟨active, (congrArg ContactBinding.action (Table.get_set_self ..)).trans action⟩
    · have binding : (s.bound k b).settings.contactIn.get i = s.settings.contactIn.get i := Table.get_set_other _ _ at_k
      refine ⟨?_, by rw [binding]⟩
      rw [State.contactActive, State.contactActive, binding]
      rfl
  simp only [State.anyActive, same]

end

/-- Settles O16: what the binding ends and takes up is one re-evaluation each; then the refusals. -/
theorem contactBindingWrites : Obligations.ContactBindingWrites := by
  unfold Obligations.ContactBindingWrites
  refine ⟨fun s p k a pol hi lo => ?_, fun s p k a tgt st pol hi lo ready outside => ?_⟩
  case refine_2 =>
    rw [exec_writeEntryContactIn ready, serveWriteContactIn, writeEntry_indexWord k (by decide) (by rfl),
      contactInOf_eq_none outside]
    rfl
  intro e v status old w run binds mutes mode ready targets
  have served : run = .next (answering (((w.reAct old).reAct a).settle s) p 0x02 status []) :=
    exec_writeEntryContactIn_bound ready
  have stored : w.settle s = w := State.settle_of_targetLaw (targetLaw_of_live targets rfl fun n j => rfl) fun _ => rfl
  have kept (modes : ∀ n, binds n → mode n = (s.gates.get n).mode)
      (muted : ∀ j, mutes j → w.anyActive (.zoneMuteWhile j) = (s.zones.get j).contactMute) :
      run = .next (answering w p 0x02 status []) := by
    have first : w.reAct old = w := State.reAct_kept (fun n h => modes n (h.elim .inl fun h => .inr (.inl h)))
      fun j h => muted j (.inl h)
    have second : w.reAct a = w := State.reAct_kept (fun n h => modes n (h.elim (.inr ∘ .inr ∘ .inl) (.inr ∘ .inr ∘ .inr)))
      fun j h => muted j (.inr h)
    rw [served, first, second, stored]
  refine ⟨kept, fun same active ⟨modes, muted⟩ => ?_, fun law => ?_⟩
  · have actives := State.bound_anyActive (s := s) (k := k) (b := ⟨a, pol, max 10 (min 500 v)⟩) same active
    refine kept (fun n _ => ?_) fun j _ => ?_
    · rw [modes n]
      exact State.modeFrom_congr (actives _) (actives _) _
    · rw [muted j]
      exact actives _
  · have forced (n : Channel) : binds n ↔ old.Forces n ∨ a.Forces n := by
      rw [ContactAction.Forces, ContactAction.Forces, or_assoc]
    have quiet : Quiet gateKinds s ((w.reAct old).reAct a) :=
      (Quiet.reAct Mix.postsGates_gateKinds
        (Quiet.reAct Mix.postsGates_gateKinds (show Quiet gateKinds s w from .same rfl) old) a)
    have ground : ((w.reAct old).reAct a).ground = { w.ground with zones := ((w.reAct old).reAct a).zones } := by
      rw [State.reAct_ground_zones, State.reAct_ground_zones]
    have engine : ((w.reAct old).reAct a).engine = s.engine := by
      rw [State.reAct_engine, State.reAct_engine]
    have contacts := State.reAct_contacts old w
    have settings := State.reAct_settings old w
    have gates (n : Channel) : (((w.reAct old).reAct a).gates.get n).portMode = (s.gates.get n).portMode ∧
        (binds n → (((w.reAct old).reAct a).gates.get n).mode = mode n) ∧
        (¬binds n → (((w.reAct old).reAct a).gates.get n).mode = (s.gates.get n).mode) := by
      obtain ⟨port, new, kept⟩ := w.reAct_gate old n
      obtain ⟨port', new', kept'⟩ := (w.reAct old).reAct_gate a n
      refine ⟨port'.trans port, fun binds => ?_, fun free => ?_⟩
      · by_cases last : a.Forces n
        · rw [new' last, port]
          exact State.modeFrom_of_contacts contacts settings _ _
        · rw [kept' last]
          exact new (((forced n).mp binds).resolve_right last)
      · rw [forced, not_or] at free
        exact (kept' free.2).trans (kept free.1)
    have zones (j : Zone) : (mutes j → ((w.reAct old).reAct a).zones.get j =
          { s.zones.get j with contactMute := w.anyActive (.zoneMuteWhile j) }) ∧
        (¬mutes j → ((w.reAct old).reAct a).zones.get j = s.zones.get j) := by
      have actives : (w.reAct old).anyActive (.zoneMuteWhile j) = w.anyActive (.zoneMuteWhile j) :=
        State.anyActive_congr (fun _ => by rw [contacts]) (by rw [settings]) _
      rw [State.reAct_contactMute, State.reAct_contactMute, actives]
      refine ⟨fun muted => ?_, fun free => ?_⟩
      · by_cases last : a = .zoneMuteWhile j
        · rw [if_pos last]
          split <;> rfl
        · rw [if_neg last, if_pos (muted.resolve_right last)]
      · rw [if_neg fun h => free (.inr h), if_neg fun h => free (.inl h)]
    have taken (n : Channel) (bound : binds n) (alone : ∀ m, binds m → m = n) (new : mode n ≠ (s.gates.get n).mode) :
        ModeTaken s (answering (((w.reAct old).reAct a).settle s) p 0x02 status []) n (mode n) := by
      have mix := State.reAct_reAct ((forced n).mp bound) (fun m h => alone m ((forced m).mpr h)) w
      exact (State.reMode_taken (u := w) (t := answering (((w.reAct old).reAct a).settle s) p 0x02 status []) law rfl rfl (fun _ _ => rfl) new (congrArg Mix.gates mix) (congrArg Mix.groups mix)
        (congrArg (fun e : Engine => e.askCounts s.groups _) engine)).1
    have still (free : ∀ n, ¬binds n) : ((w.reAct old).reAct a).mix = s.mix ∧ ((w.reAct old).reAct a).events = s.events := by
      obtain ⟨mix, events⟩ := State.reAct_mix (a := old) (fun n h => free n ((forced n).mpr (.inl h))) w
      obtain ⟨mix', events'⟩ := State.reAct_mix (a := a) (fun n h => free n ((forced n).mpr (.inr h))) (w.reAct old)
      exact ⟨mix'.trans mix, events'.trans events⟩
    generalize (w.reAct old).reAct a = u at *
    obtain ⟨flight, aligned, -⟩ := Engine.askCounts_frame s.groups u.groups u.engine
    refine ⟨_, served, congrArg (ByPort.set · p _) (congrArg Ground.ports ground), congrArg Ground.settings ground,
      targetLaw_settle _ _, gates, taken, zones, fun free => ?_, quiet.sticky, aligned.trans (by rw [engine]),
      flight.trans (by rw [engine]), congrArg Ground.contacts ground, congrArg Ground.delay ground,
      congrArg Ground.frozen ground, congrArg Ground.sockets ground, congrArg Ground.override ground,
      congrArg Ground.clock ground, congrArg Ground.standby ground⟩
    obtain ⟨mix, events⟩ := still free
    have groups : u.groups = s.groups := congrArg Mix.groups mix
    refine ⟨congrArg Mix.gates mix, groups, ?_, events⟩
    change u.engine.askCounts s.groups u.groups = _
    rw [groups, engine]
    exact Engine.askCounts_of_same _ fun _ => rfl

end Sys2Proof.Machine
end

section
/-! PROOFS. The delivery of CHANNEL and ALL items, and the channels that leave PARKED at it (R50, R51, R53 to R55, R87). -/

namespace Sys2Proof.Machine

open Sys2Proof.Safety

/-! ### A delivery, whole -/

section
variable {s : State} {chosen : Channel → Bool} {result : Channel → Zone → Result}

/-- A delay of a delivered result was clamped (R54). -/
def deliveryClamps (chosen : Channel → Bool) (result : Channel → Zone → Result) : Bool :=
  (List.finRange 16).any fun n => chosen n && (List.finRange 24).any fun j =>
    (result n j).clampedLow || (result n j).clampedHigh

theorem deliveryClamps_iff : deliveryClamps chosen result = true ↔
    ∃ n j, chosen n = true ∧ ((result n j).clampedLow = true ∨ (result n j).clampedHigh = true) := by
  simp only [deliveryClamps, List.any_eq_true, List.mem_finRange, true_and, Bool.and_eq_true, Bool.or_eq_true,
    exists_and_left]

/-- What a delivery posts, before anything leaves PARKED (R54). -/
def State.told (s : State) (clamped : Bool) : State := if clamped then s.post .clamped else s

/-- Full results delivered: the crosspoints, the ALIGNED flags, and one CLAMPED (R53 to R55). -/
theorem State.deliverFull_eq (s : State) (chosen : Channel → Bool) (result : Channel → Zone → Result) :
    s.deliverFull chosen result = { s with
      crosspoints := s.crosspoints.map fun n row =>
        if chosen n then row.map fun j x => x.deliver (s.live n j) (s.settings.fadeLength j) (result n j) else row
      engine := { s.engine with aligned := s.engine.aligned.map fun n b => chosen n || b }
      events := (s.told (deliveryClamps chosen result)).events } := by
  rw [State.deliverFull, State.told, deliveryClamps]
  split <;> rfl

theorem State.deliverFull_live (n : Channel) (j : Zone) : (s.deliverFull chosen result).live n j = s.live n j := by
  rw [State.deliverFull_eq]
  rfl

theorem State.deliverFull_get (n : Channel) (j : Zone) : ((s.deliverFull chosen result).crosspoints.get n).get j =
    if chosen n then ((s.crosspoints.get n).get j).deliver (s.live n j) (s.settings.fadeLength j) (result n j)
    else (s.crosspoints.get n).get j := by
  rw [State.deliverFull_eq, Table.get_map]
  split
  · exact Table.get_map ..
  · rfl

/-- A delivery leaves every target the effective one (R53, R63). -/
theorem targetLaw_deliverFull (law : TargetLaw s) : TargetLaw (s.deliverFull chosen result) := fun n j => by
  rw [State.targetOf, State.deliverFull_live, State.deliverFull_get]
  split
  · obtain ⟨active, phase, eq⟩ := ((s.crosspoints.get n).get j).deliver_fields (s.live n j) (s.settings.fadeLength j) (result n j)
    rw [eq]
    rfl
  · exact law n j

theorem State.deliverFull_eligible (n : Channel) : (s.deliverFull chosen result).eligible n = s.eligible n := by
  rw [State.deliverFull_eq]
  rfl

end

/-! ### A channel that leaves PARKED -/

section
variable {s : State} {n : Channel}

/-- A channel whose gate agrees with its eligibility is left (R85). -/
theorem State.reEvaluate_still (rests : s.eligible n = true → s.engine.aligned.get n = true → (s.gates.get n).state ≠ .parked)
    (down : s.eligible n = false → (s.gates.get n).state = .parked) : s.reEvaluate n = s := by
  unfold State.reEvaluate
  split
  case isTrue able => exact if_neg fun ⟨parked, aligned⟩ => rests able aligned parked
  case isFalse unable => exact if_pos (down (Bool.eq_false_iff.mpr unable))

theorem State.reEvaluate_woken (able : s.eligible n = true) (parked : (s.gates.get n).state = .parked)
    (aligned : s.engine.aligned.get n = true) : s.reEvaluate n = s.withMix (s.mix.leaveParked s.settings n) := by
  rw [State.reEvaluate, if_pos able, if_pos ⟨parked, aligned⟩]
  rfl

/-- A channel that does not force its gate leaves PARKED for CLOSED, and no set moves (R87). -/
theorem Mix.leaveParked_free (free : (s.gates.get n).mode ≠ .forceOpen) : s.mix.leaveParked s.settings n =
    ⟨s.gates.set n ((s.gates.get n).put .closed), s.groups, 0⟩ := if_neg free

/-- A channel that forces its gate leaves PARKED with a forced ask (R87, R114). -/
theorem Mix.leaveParked_forced (forced : (s.gates.get n).mode = .forceOpen) : s.mix.leaveParked s.settings n =
    (s.mix.setState n .closed).askForced s.settings n := if_pos forced

end

/-- What the GROUP asks of R111 make of the queue rests on the queue. -/
theorem Engine.askCounts_queue (before after : Table 6 GroupState) {e f : Engine} (same : e.queue = f.queue) :
    (e.askCounts before after).queue = (f.askCounts before after).queue := by
  unfold Engine.askCounts
  induction List.finRange 6 generalizing e f with
  | nil => exact same
  | cons g gs ih =>
    simp only [List.foldl_cons]
    split
    · exact ih same
    · exact ih (congrArg (mergeItem (.group g)) same)

/-- No crosspoint of a channel outside the sets is live (R62). -/
theorem State.live_of_silent {s : State} {n : Channel} (law : GroupLaw s) (silent : sounding (s.gates.get n).state = false)
    (j : Zone) : s.live n j = false := by
  rw [State.live]
  cases s.settings.zoneGroup j with
  | none => rfl
  | some g =>
    have out : (s.groups.get g).holds n = false := by
      rw [Bool.eq_false_iff]
      intro holds
      obtain ⟨y, member, rfl⟩ := (GroupState.holds_iff _ _).mp holds
      have sounds := (groupLaw_gating law).law.sounds g y member
      rw [show s.mix.gates.get y.channel = s.gates.get y.channel from rfl, silent] at sounds
      cases sounds
    simp only [out, Bool.false_and]

/-- What the end of an event makes of a crosspoint to which a result has been delivered (R53, R63). -/
theorem Crosspoint.retarget_deliver (u : State) (n : Channel) (j : Zone) (live : Bool) (len : Nat) (r : Result) (x : Crosspoint) :
    u.targetOf n j (x.deliver live len r) = if u.live n j then r.level else none := by
  obtain ⟨active, phase, eq⟩ := x.deliver_fields live len r
  rw [State.targetOf, eq]
  rfl

/-! ### A CHANNEL item -/

section
variable {s : State} {n : Channel} {r : Zone → Result}

theorem deliveryClamps_channel : deliveryClamps (fun k => k == n) (fun _ j => r j) = true ↔
    ∃ j, (r j).clampedLow = true ∨ (r j).clampedHigh = true := by
  rw [deliveryClamps_iff]
  exact ⟨fun ⟨_, j, _, h⟩ => ⟨j, h⟩, fun ⟨j, h⟩ => ⟨n, j, beq_self_eq_true n, h⟩⟩

/-- A CHANNEL item's delivery (R50). -/
theorem State.deliverChannel_eq (s : State) (n : Channel) (r : Zone → Result) :
    s.deliverFull (fun k => k == n) (fun _ j => r j) = { s with
      crosspoints := s.crosspoints.set n (.ofFn fun j =>
        ((s.crosspoints.get n).get j).deliver (s.live n j) (s.settings.fadeLength j) (r j))
      engine := { s.engine with aligned := s.engine.aligned.set n true }
      events := (s.told (deliveryClamps (fun k => k == n) fun _ j => r j)).events } := by
  have crosspoints : (s.crosspoints.map fun k row =>
      if (k == n) = true then row.map fun j x => x.deliver (s.live k j) (s.settings.fadeLength j) (r j) else row) =
      s.crosspoints.set n (.ofFn fun j =>
        ((s.crosspoints.get n).get j).deliver (s.live n j) (s.settings.fadeLength j) (r j)) := Table.ext_get fun k => by
    rw [Table.get_map]
    by_cases same : n = k
    · subst same
      rw [Table.get_set_self, if_pos (beq_self_eq_true n)]
      exact Table.ext_get fun j => by rw [Table.get_map, Table.get_ofFn]
    · rw [Table.get_set_other _ _ same, if_neg (by simpa using Ne.symm same)]
  have aligned : (s.engine.aligned.map fun k b => k == n || b) = s.engine.aligned.set n true := Table.ext_get fun k => by
    rw [Table.get_map]
    by_cases same : n = k
    · subst same
      rw [Table.get_set_self, beq_self_eq_true, Bool.true_or]
    · rw [Table.get_set_other _ _ same, beq_false_of_ne (Ne.symm same), Bool.false_or]
  rw [State.deliverFull_eq, crosspoints, aligned]

theorem State.deliverChannel_aligned :
    (s.deliverFull (fun k => k == n) fun _ j => r j).engine.aligned.get n = true := by
  rw [State.deliverChannel_eq]
  exact Table.get_set_self ..

/-- A CHANNEL item's delivery and the channel that leaves PARKED at it, where it does not force its gate (R50, R87). -/
theorem State.deliverChannel_settled (law : GroupLaw s) (targets : TargetLaw s)
    (quiet : (s.gates.get n).mode ≠ .forceOpen ∨ (s.gates.get n).state ≠ .parked ∨ s.eligible n = false) :
    ((s.deliverFull (fun k => k == n) fun _ j => r j).reEvaluate n).settle s =
      { s.deliverFull (fun k => k == n) fun _ j => r j with
        gates := if (s.gates.get n).state = .parked ∧ s.eligible n = true then
          s.gates.set n ((s.gates.get n).put .closed) else s.gates } := by
  obtain ⟨gates, groups, settings, -, standby⟩ := s.deliverFull_still (fun k => k == n) (fun _ j => r j)
  have targets' : TargetLaw (s.deliverFull (fun k => k == n) fun _ j => r j) := targetLaw_deliverFull targets
  have able : (s.deliverFull (fun k => k == n) fun _ j => r j).eligible n = s.eligible n := State.deliverFull_eligible n
  have aligned : (s.deliverFull (fun k => k == n) fun _ j => r j).engine.aligned.get n = true := State.deliverChannel_aligned
  have sets := (groupLaw_gating law).law
  generalize s.deliverFull (fun k => k == n) (fun _ j => r j) = d at *
  by_cases wakes : (s.gates.get n).state = .parked ∧ s.eligible n = true
  · obtain ⟨parked, eligible⟩ := wakes
    have free : (s.gates.get n).mode ≠ .forceOpen := by
      obtain free | up | barred := quiet
      · exact free
      · exact absurd parked up
      · rw [barred] at eligible
        cases eligible
    rw [if_pos ⟨parked, eligible⟩, State.reEvaluate_woken (able.trans eligible) (by rw [gates]; exact parked) aligned,
      Mix.leaveParked_free (by rw [gates]; exact free), gates]
    have eq : d.withMix ⟨s.gates.set n ((s.gates.get n).put .closed), d.groups, 0⟩ =
        { d with gates := s.gates.set n ((s.gates.get n).put .closed) } := State.postMask_zero _
    rw [eq]
    exact State.settle_of_targetLaw (targetLaw_of_live targets' rfl fun _ _ => rfl) fun g => by rw [groups]
  · rw [if_neg wakes, State.reEvaluate_still, State.settle_of_targetLaw targets' fun g => by rw [groups]]
    · rw [← gates]
    · intro eligible _
      rw [gates]
      exact fun parked => wakes ⟨parked, able.symm.trans eligible⟩
    · intro barred
      rw [gates]
      by_contra up
      rw [able] at barred
      have := (sets.gate n).ok up
      rw [barred] at this
      cases this

end

/-- Settles O31: the delivery, then the channel that leaves PARKED, with no ask or with a forced one. -/
theorem channelItemDelivers : Obligations.ChannelItemDelivers := by
  unfold Obligations.ChannelItemDelivers
  intro s n inputs zones t awake due fresh free law targets result told
  have run := exec_channelItemComplete awake due
  rw [if_neg (by rintro (h | h); exacts [fresh h, free h])] at run
  have posted : s.told (deliveryClamps (fun k => k == n) fun _ j => result j) = told := by
    rw [State.told]
    exact if_congr deliveryClamps_channel rfl rfl
  refine ⟨fun quiet => ?_, fun forced parked eligible => ?_⟩
  · rw [run, State.deliverChannel_settled law targets quiet, State.deliverChannel_eq, posted]
    rfl
  · have ground : (s.deliverFull (fun k => k == n) fun _ j => result j).ground = s.ground := by
      rw [State.deliverChannel_eq]
      rfl
    have events : (s.deliverFull (fun k => k == n) fun _ j => result j).events = told.events := by
      rw [State.deliverChannel_eq, posted]
    have engine : (s.deliverFull (fun k => k == n) fun _ j => result j).engine =
        { s.engine with aligned := s.engine.aligned.set n true } := by
      rw [State.deliverChannel_eq]
    have get (k : Channel) (j : Zone) : ((s.deliverFull (fun k => k == n) fun _ j => result j).crosspoints.get k).get j =
        if (k == n) = true then ((s.crosspoints.get k).get j).deliver (s.live k j) (s.settings.fadeLength j) (result j)
        else (s.crosspoints.get k).get j := State.deliverFull_get k j
    obtain ⟨gates, groups, settings, -, -⟩ := s.deliverFull_still (fun k => k == n) (fun _ j => result j)
    have able : (s.deliverFull (fun k => k == n) fun _ j => result j).eligible n = s.eligible n := State.deliverFull_eligible n
    have aligned : (s.deliverFull (fun k => k == n) fun _ j => result j).engine.aligned.get n = true :=
      State.deliverChannel_aligned
    generalize s.deliverFull (fun k => k == n) (fun _ j => result j) = d at *
    have silent : sounding (s.gates.get n).state = false := by rw [parked]; rfl
    have woken := State.reEvaluate_woken (able.trans eligible) (by rw [gates]; exact parked) aligned
    rw [Mix.leaveParked_forced (by rw [gates]; exact forced), settings] at woken
    have quiet : Quiet gateKinds d (d.reEvaluate n) := (Quiet.refl _ _).reEvaluate Mix.postsGates_gateKinds n
    have only := OnlyMix.reEvaluate d n
    have asks : ∀ g, s.settings.channelGroup n = some g → ForcedAsk s ((d.reEvaluate n).settle s) g n := fun g own => by
      have changed : Mix.GateChanged s.mix (d.mix.setState n .closed) n := by
        refine ⟨groups, fun k other => ?_, ?_⟩
        · rw [Mix.setState_get_other _ _ (Ne.symm other)]
          exact congrArg (·.get k) gates
        · rw [Mix.setState_get_self]
          exact congrArg (fun gates : Table 16 Gate => (gates.get n).latest) gates
      have sets := (groupLaw_gating law).law
      have fresh (h : Group) : n ∉ (s.mix.groups.get h).waiting :=
        sets.not_mem_waiting (by rw [show s.mix.gates.get n = s.gates.get n from rfl, parked]; decide) h
      have asked := sets.asked (g := g) (maxOpen := (s.settings.groupRecord g).maxOpen) changed silent fresh
      rw [Mix.askForced_of_group _ own] at woken
      refine asked.forcedAsk changed (fun y member => sets.channel_ne_of_silent silent member) ?_ ?_
        (congrArg State.gates woken) (congrArg State.groups woken) ?_
      · rw [Mix.setState_get_self]
      · rw [Mix.setState_get_self]
      · refine Engine.askCounts_queue _ _ ?_
        rw [only.engine, engine]
    have mode : ((d.reEvaluate n).gates.get n).mode = .forceOpen := by
      rw [woken]
      refine (((Mix.Frame.refl EventMask.kinds _).setState n .closed).askForced Mix.postsGates_all s.settings n).mode n |>.trans ?_
      rw [show d.mix.gates.get n = d.gates.get n from rfl, gates]
      exact forced
    clear woken
    generalize d.reEvaluate n = u at *
    have built : (u.settle s).ground = s.ground := only.ground.trans ground
    obtain ⟨-, flags, -⟩ := Engine.askCounts_frame s.groups u.groups u.engine
    refine ⟨_, run, asks, mode, fun j => ?_, fun k j other => ?_, targetLaw_settle _ _, ?_, fun p => ?_, fun clamped => ?_,
      congrArg Ground.settings built, congrArg Ground.delay built, sameBuilding_of_ground built⟩
    · rw [State.settle_crosspoints, Table.get_map, Table.get_map, only.crosspoints, only.settings, settings, get,
        if_pos (beq_self_eq_true n), State.live_of_silent law silent, Crosspoint.retarget_deliver]
      rfl
    · rw [State.settle_crosspoints, Table.get_map, Table.get_map, only.crosspoints, only.settings, settings, get,
        if_neg (by simpa using other)]
      rfl
    · refine flags.trans ?_
      rw [only.engine, engine]
    · rw [← events]
      exact quiet.sticky p
    · have before : PostedToAll .clamped d := by
        intro p
        rw [events, show told = s.post .clamped from if_pos clamped]
        exact postedToAll_post s .clamped p
      have after : PostedToAll .clamped u := postedToAll_of_quiet quiet before (by decide)
      exact after

end Sys2Proof.Machine
end

section
/-! PROOFS. The delivery of an ALL item (R51, R53 to R55, R87). -/

namespace Sys2Proof.Machine

open Sys2Proof.Safety

/-! ### AUTO members are not added -/

namespace Mix

/-- What leads from `m` to `m'` adds no AUTO member to any set. -/
def FewerAuto (m m' : Mix) : Prop :=
  ∀ g, ∀ y ∈ (m'.groups.get g).members, y.kind = .auto → y ∈ (m.groups.get g).members

namespace FewerAuto

variable {m u v : Mix} {c : Settings}

theorem refl (m : Mix) : FewerAuto m m := fun _ _ member _ => member

theorem trans (h : FewerAuto m u) (k : FewerAuto u v) : FewerAuto m v :=
  fun g y member auto => h g y (k g y member auto) auto

theorem ite {x : Prop} [Decidable x] (h : FewerAuto m u) (k : FewerAuto m v) : FewerAuto m (if x then u else v) := by
  split
  · exact h
  · exact k

theorem members (h : FewerAuto m u) (same : ∀ g, (v.groups.get g).members = (u.groups.get g).members) : FewerAuto m v :=
  fun g y member => h g y (same g ▸ member)

theorem setState (h : FewerAuto m u) (n : Channel) (st : GateState) : FewerAuto m (u.setState n st) := h

theorem unwait (h : FewerAuto m u) (n : Channel) : FewerAuto m (u.unwait n) :=
  h.members fun g => by rw [unwait_groups_get]

theorem enqueueWaiting (h : FewerAuto m u) (g : Group) (n : Channel) : FewerAuto m (u.enqueueWaiting g n) :=
  h.members fun k => by
    rw [Mix.enqueueWaiting, onGroup_groups]
    exact Table.get_modify_congr _ GroupState.members (fun x => by split <;> rfl) k

theorem join (h : FewerAuto m u) (g : Group) (n : Channel) : FewerAuto m (u.join g n .forced) := fun k y member auto => by
  by_cases same : g = k
  · subst same
    rw [join_groups_get_self, List.mem_append, List.mem_singleton] at member
    obtain old | rfl := member
    · exact h g y old auto
    · cases auto
  · rw [join_groups_get_other _ _ _ same] at member
    exact h k y member auto

theorem evict (h : FewerAuto m u) (n : Channel) (st : GateState) : FewerAuto m (u.evict n st) := by
  cases found : memberGroup u.groups n with
  | none =>
    rw [Mix.evict, found]
    exact h.setState n st
  | some g =>
    refine fun k y member auto => ?_
    by_cases same : g = k
    · subst same
      rw [evict_groups_get_self found] at member
      exact h g y (List.mem_of_mem_filter member) auto
    · rw [evict_groups_get_other found _ same] at member
      exact h k y member auto

theorem enterForced (h : FewerAuto m u) (maxOpen : Nat) (g : Group) (n : Channel) :
    FewerAuto m (u.enterForced maxOpen g n) := by
  unfold Mix.enterForced
  split
  · exact (h.evict _ _).join g n
  · split
    · exact h.join g n
    · split
      · exact (h.evict _ _).join g n
      · exact h

theorem askForced (h : FewerAuto m u) (c : Settings) (n : Channel) : FewerAuto m (u.askForced c n) := by
  unfold Mix.askForced
  split
  · exact h
  · exact .ite (h.enterForced _ _ n) (h.enqueueWaiting _ n)

theorem offerList (h : FewerAuto m u) (maxOpen : Nat) (g : Group) (ns : List Channel) :
    FewerAuto m (offerList maxOpen g ns u) := by
  induction ns generalizing u with
  | nil => exact h
  | cons n ns ih => exact .ite (ih (h.enterForced _ _ n)) h

theorem leave (h : FewerAuto m u) (c : Settings) (n : Channel) (st : GateState) : FewerAuto m (u.leave c n st) := by
  unfold Mix.leave
  split
  · exact (h.unwait n).setState n st
  · exact ((h.unwait n).evict n st).offerList _ _ _

theorem leaveParked (h : FewerAuto m u) (c : Settings) (n : Channel) : FewerAuto m (u.leaveParked c n) :=
  .ite ((h.setState n _).askForced c n) (h.setState n _)

end FewerAuto

end Mix

/-! ### A list of channels re-evaluated -/

section
variable {s : State}

theorem State.reEvaluate_fewerAuto (s : State) (n : Channel) : Mix.FewerAuto s.mix (s.reEvaluate n).mix := by
  unfold State.reEvaluate
  split
  · split
    · exact (Mix.FewerAuto.refl s.mix).leaveParked s.settings n
    · exact .refl _
  · split
    · exact .refl _
    · exact (Mix.FewerAuto.refl s.mix).leave s.settings n _

theorem State.reEvaluateAll_fewerAuto (ns : List Channel) (s : State) : Mix.FewerAuto s.mix (s.reEvaluateAll ns).mix := by
  unfold State.reEvaluateAll
  induction ns generalizing s with
  | nil => exact .refl _
  | cons n ns ih => exact (s.reEvaluate_fewerAuto n).trans (ih _)

theorem State.reEvaluate_gate (s : State) (n k : Channel) : ((s.reEvaluate n).gates.get k).still = (s.gates.get k).still := by
  unfold State.reEvaluate
  split
  · split
    · exact ((Mix.Frame.refl EventMask.kinds s.mix).leaveParked Mix.postsGates_all s.settings n).gate k
    · rfl
  · split
    · rfl
    · exact ((Mix.Frame.refl EventMask.kinds s.mix).leave Mix.postsGates_all s.settings n _).gate k

theorem State.reEvaluateAll_gate (ns : List Channel) (s : State) (k : Channel) :
    ((s.reEvaluateAll ns).gates.get k).still = (s.gates.get k).still := by
  unfold State.reEvaluateAll
  induction ns generalizing s with
  | nil => rfl
  | cons n ns ih => exact (ih _).trans (s.reEvaluate_gate n k)

/-- Channels whose gates all agree with their eligibility are left. -/
theorem State.reEvaluateAll_still (rests : ∀ n, s.eligible n = true → (s.gates.get n).state ≠ .parked)
    (down : ∀ n, s.eligible n = false → (s.gates.get n).state = .parked) (ns : List Channel) : s.reEvaluateAll ns = s := by
  unfold State.reEvaluateAll
  induction ns with
  | nil => rfl
  | cons n ns ih => rw [List.foldl_cons, State.reEvaluate_still (fun able _ => rests n able) (down n), ih]

end

/-! ### The channels after a delivery to all -/

section
variable {s d : State}

theorem closed_of_silent {st : GateState} (silent : sounding st = false) (up : st ≠ .parked) : st = .closed := by
  cases st with
  | closed => rfl
  | parked => exact absurd rfl up
  | opened | holding | lastOn => cases silent

/-- What every channel's re-evaluation leaves where no set and no gate had moved (R85, R87): what the sets keep, and for each
channel that is up, that it is eligible and that it was up or is ALIGNED. -/
theorem State.reEvaluateAll_gating (law : GroupLaw s) (stands : d.mix = s.mix)
    (group : d.settings.channelGroup = s.settings.channelGroup)
    (maxOpen : ∀ g, (d.settings.groupRecord g).maxOpen = (s.settings.groupRecord g).maxOpen)
    (eligible : ∀ n, (s.gates.get n).state ≠ .parked → d.eligible n = true) :
    (d.reEvaluateAll (List.finRange 16)).Gating
      (fun n => d.eligible n = true ∧ (d.engine.aligned.get n = true ∨ (s.gates.get n).state ≠ .parked)) (fun _ => True)
      (fun _ => False) ∧ (d.reEvaluateAll (List.finRange 16)).Fit := by
  have sets : d.mix.Law d.settings.channelGroup
      (fun n => d.eligible n = true ∧ (d.engine.aligned.get n = true ∨ (s.gates.get n).state ≠ .parked)) fun _ => True := by
    rw [stands, group]
    have old := (groupLaw_gating law).law
    exact { old with gate := fun n => { old.gate n with ok := fun up => ⟨eligible n up, .inr up⟩ } }
  have gating : d.Gating _ _ fun _ => True := ⟨sets, fun _ _ _ _ => trivial⟩
  have fit : d.Fit := fun g => by
    rw [stands, maxOpen]
    exact groupLaw_fit law g
  obtain ⟨next, fits⟩ := gating.reEvaluateAll fit (fun n able aligned => ⟨able, .inl aligned⟩) (List.finRange 16)
  exact ⟨next.mono (fun n able => able.1) (fun _ d => d) fun n late => late.2 (List.mem_finRange n), fits⟩

/-- A channel that was PARKED is up only where it is eligible and ALIGNED, and then CLOSED, or, where it forces its gate, a
member or waiting (R85, R87). -/
theorem State.reEvaluateAll_up (law : GroupLaw s) (stands : d.mix = s.mix)
    (group : d.settings.channelGroup = s.settings.channelGroup)
    (maxOpen : ∀ g, (d.settings.groupRecord g).maxOpen = (s.settings.groupRecord g).maxOpen)
    (eligible : ∀ n, (s.gates.get n).state ≠ .parked → d.eligible n = true) {n : Channel}
    (parked : (s.gates.get n).state = .parked) (up : ((d.reEvaluateAll (List.finRange 16)).gates.get n).state ≠ .parked) :
    d.eligible n = true ∧ d.engine.aligned.get n = true ∧
      ((s.gates.get n).mode ≠ .forceOpen → ((d.reEvaluateAll (List.finRange 16)).gates.get n).state = .closed) ∧
      ((s.gates.get n).mode = .forceOpen → ∃ g, d.settings.channelGroup n = some g ∧
        ((((d.reEvaluateAll (List.finRange 16)).groups.get g).holds n = true) ∨
          n ∈ ((d.reEvaluateAll (List.finRange 16)).groups.get g).waiting)) := by
  obtain ⟨⟨next, -⟩, -⟩ := State.reEvaluateAll_gating law stands group maxOpen eligible
  have fewer := State.reEvaluateAll_fewerAuto (List.finRange 16) d
  have mode := congrArg Gate.mode (State.reEvaluateAll_gate (List.finRange 16) d n)
  have settings := (OnlyMix.reEvaluateAll (List.finRange 16) d).settings
  rw [settings] at next
  generalize d.reEvaluateAll (List.finRange 16) = u at *
  have gates : d.gates = s.gates := congrArg Mix.gates stands
  have groups : d.groups = s.groups := congrArg Mix.groups stands
  have mode : (u.gates.get n).mode = (s.gates.get n).mode := by
    rw [← gates]
    exact mode
  obtain ⟨able, aligned⟩ := (next.gate n).ok up
  refine ⟨able, aligned.resolve_right fun h => h parked, fun free => closed_of_silent ?_ up, fun forced => ?_⟩
  · rw [Bool.eq_false_iff]
    intro sounds
    obtain ⟨g, y, member, rfl⟩ := next.held n sounds
    have auto : y.kind = .auto := by
      cases kind : y.kind with
      | auto => rfl
      | forced => exact absurd (mode.symm.trans ((next.kind g y member).mp kind)) free
    have old := fewer g y member auto
    have was := (groupLaw_gating law).law.sounds g y (by rw [← stands]; exact old)
    rw [show s.mix.gates.get y.channel = s.gates.get y.channel from rfl, parked] at was
    cases was
  · obtain ⟨⟨g, own, -⟩, -⟩ := (State.eligible_iff d n).mp able
    refine ⟨g, own, ?_⟩
    cases sounds : sounding (u.gates.get n).state with
    | true =>
      obtain ⟨h, y, member, rfl⟩ := next.held n sounds
      have same : h = g := Option.some.inj ((next.own h y member).symm.trans own)
      subst same
      exact .inl ((GroupState.holds_iff _ _).mpr ⟨y, member, rfl⟩)
    | false => exact .inr (next.complete n g trivial (closed_of_silent sounds up) (mode.trans forced) own)

end

/-- Settles O32: the delivery leaves every target the effective one, and the channels that leave PARKED are re-evaluated one
after the other. -/
theorem allItemDelivers : Obligations.AllItemDelivers := by
  unfold Obligations.AllItemDelivers
  intro s inputs zones t awake due free law targets chosen result told
  have run := exec_allItemComplete awake due
  rw [if_neg free] at run
  have named (n : Channel) : (!s.engine.queue.contains (.channel n)) = true ↔ chosen n := by
    rw [Bool.not_eq_true', ← Bool.not_eq_true, List.contains_iff_mem]
  have flag (n : Channel) (b : Bool) : (!s.engine.queue.contains (.channel n) || b) = (b || decide (chosen n)) := by
    rw [Bool.or_comm]
    exact congrArg (b || ·) (Bool.eq_iff_iff.mpr ((named n).trans decide_eq_true_iff.symm))
  have clamps : deliveryClamps (fun n => !s.engine.queue.contains (.channel n)) result = true ↔
      ∃ n j, chosen n ∧ ((result n j).clampedLow = true ∨ (result n j).clampedHigh = true) := by
    simp only [deliveryClamps_iff, named]
  have posted : s.told (deliveryClamps (fun n => !s.engine.queue.contains (.channel n)) result) = told := by
    rw [State.told]
    exact if_congr clamps rfl rfl
  have delivered := State.deliverFull_eq s (fun n => !s.engine.queue.contains (.channel n)) result
  rw [posted] at delivered
  have targets' : TargetLaw (s.deliverFull (fun n => !s.engine.queue.contains (.channel n)) result) :=
    targetLaw_deliverFull targets
  have able (n : Channel) : (s.deliverFull (fun n => !s.engine.queue.contains (.channel n)) result).eligible n = s.eligible n :=
    State.deliverFull_eligible n
  have get (n : Channel) (j : Zone) := State.deliverFull_get (s := s) (chosen := fun n => !s.engine.queue.contains (.channel n))
    (result := result) n j
  simp only [named] at get
  obtain ⟨gates, groups, settings, -, -⟩ := s.deliverFull_still (fun n => !s.engine.queue.contains (.channel n)) result
  have up (n : Channel) (out : (s.gates.get n).state ≠ .parked) : s.eligible n = true :=
    ((groupLaw_gating law).law.gate n).ok out
  change exec .allItemComplete s = .next (((s.deliverFull (fun n => !s.engine.queue.contains (.channel n))
    result).reEvaluateAll (List.finRange 16)).settle s).nextItem at run
  refine ⟨fun quiet => ?_, ?_⟩
  · have crosspoints : (s.crosspoints.map fun n row => if (!s.engine.queue.contains (.channel n)) = true then
          row.map fun j x => x.deliver (s.live n j) (s.settings.fadeLength j) (result n j) else row) =
        .ofFn fun n => if chosen n then .ofFn fun j =>
          ((s.crosspoints.get n).get j).deliver (s.live n j) (s.settings.fadeLength j) (result n j)
        else s.crosspoints.get n := Table.ext_get fun n => by
      rw [Table.get_map, Table.get_ofFn]
      exact if_congr (named n) (Table.ext_get fun j => by rw [Table.get_map, Table.get_ofFn]) rfl
    have aligned : (s.engine.aligned.map fun n b => !s.engine.queue.contains (.channel n) || b) =
        .ofFn fun n => s.engine.aligned.get n || decide (chosen n) := Table.ext_get fun n => by
      rw [Table.get_map, Table.get_ofFn]
      exact flag n _
    rw [run, State.reEvaluateAll_still, State.settle_of_targetLaw targets' fun g => by rw [groups], delivered, crosspoints,
      aligned]
    · intro n eligible parked
      rw [gates] at parked
      obtain out | barred := quiet n
      · exact out parked
      · rw [able, barred] at eligible
        cases eligible
    · intro n barred
      rw [able] at barred
      rw [gates]
      by_contra out
      rw [up n out] at barred
      cases barred
  · have aligned (n : Channel) : (s.deliverFull (fun n => !s.engine.queue.contains (.channel n)) result).engine.aligned.get n =
        (s.engine.aligned.get n || decide (chosen n)) := by
      rw [delivered]
      exact (Table.get_map ..).trans (flag n _)
    have inUse : (s.deliverFull (fun n => !s.engine.queue.contains (.channel n)) result).engine.inUse = s.engine.inUse := by
      rw [delivered]
    have ground : (s.deliverFull (fun n => !s.engine.queue.contains (.channel n)) result).ground = s.ground := by
      rw [delivered]
      rfl
    have events : (s.deliverFull (fun n => !s.engine.queue.contains (.channel n)) result).events = told.events := by
      rw [delivered]
    clear delivered posted
    generalize s.deliverFull (fun n => !s.engine.queue.contains (.channel n)) result = d at *
    have stands : d.mix = s.mix := by rw [State.mix, State.mix, gates, groups]
    have group : d.settings.channelGroup = s.settings.channelGroup := by rw [settings]
    have maxOpen (g : Group) : (d.settings.groupRecord g).maxOpen = (s.settings.groupRecord g).maxOpen := by rw [settings]
    have eligible (n : Channel) (out : (s.gates.get n).state ≠ .parked) : d.eligible n = true := (able n).trans (up n out)
    obtain ⟨gating, -⟩ := State.reEvaluateAll_gating law stands group maxOpen eligible
    have raised (n : Channel) (parked : (s.gates.get n).state = .parked) :=
      State.reEvaluateAll_up law stands group maxOpen eligible (n := n) parked
    have still (n : Channel) := State.reEvaluateAll_gate (List.finRange 16) d n
    have quiet : Quiet gateKinds d (d.reEvaluateAll (List.finRange 16)) :=
      (Quiet.refl _ _).reEvaluateAll Mix.postsGates_gateKinds (List.finRange 16)
    have only := OnlyMix.reEvaluateAll (List.finRange 16) d
    have ableAfter := State.reEvaluateAll_eligible d (List.finRange 16)
    generalize d.reEvaluateAll (List.finRange 16) = u at *
    have built : (u.settle s).ground = s.ground := only.ground.trans ground
    obtain ⟨-, flags', -, used, -⟩ := Engine.askCounts_frame s.groups u.groups u.engine
    have flags (n : Channel) : (u.settle s).engine.aligned.get n = (s.engine.aligned.get n || decide (chosen n)) := by
      rw [← aligned n, ← only.engine]
      exact congrArg (·.get n) flags'
    have after (n : Channel) (j : Zone) : ((u.settle s).crosspoints.get n).get j =
        ((d.crosspoints.get n).get j).retarget (s.settings.fadeLength j) (u.targetOf n j ((d.crosspoints.get n).get j)) := by
      rw [State.settle_crosspoints, Table.get_map, Table.get_map, only.crosspoints, only.settings, settings]
    refine ⟨_, run, fun n j inside => ?_, fun n j outside => ?_, targetLaw_settle _ _, flags, fun n able' aligned' parked => ?_,
      fun n parked barred => ?_, fun n parked out => ?_, fun n => ?_, fun p => ?_, fun clamped => ?_, ?_,
      congrArg Ground.settings built, congrArg Ground.delay built, sameBuilding_of_ground built⟩
    · rw [after, get, if_pos inside, Crosspoint.retarget_deliver]
      rfl
    · rw [after, get, if_neg outside]
      rfl
    · refine gating.awake n ?_ ((congrArg (·.get n) flags').symm.trans aligned') parked
      rw [ableAfter, able]
      exact able'
    · by_contra out
      obtain ⟨eligible', aligned', -⟩ := raised n parked out
      rw [able] at eligible'
      rw [aligned, ← flags] at aligned'
      obtain barred | barred := barred
      · rw [barred] at eligible'
        cases eligible'
      · rw [barred] at aligned'
        cases aligned'
    · obtain ⟨-, -, free, forced⟩ := raised n parked out
      rw [group] at forced
      exact ⟨free, forced⟩
    · rw [show (s.gates.get n) = d.gates.get n from by rw [gates]]
      have mode := congrArg Gate.mode (still n)
      have station := congrArg Gate.station (still n)
      exact ⟨mode, station⟩
    · rw [← events]
      exact quiet.sticky p
    · have before : PostedToAll .clamped d := by
        intro p
        rw [events, show told = s.post .clamped from if_pos clamped]
        exact postedToAll_post s .clamped p
      have after : PostedToAll .clamped u := postedToAll_of_quiet quiet before (by decide)
      exact after
    · rw [← inUse, ← only.engine]
      exact used

end Sys2Proof.Machine
end

section
/-! PROOFS. The socket power unit's events and requests (R129 to R138). -/

namespace Sys2Proof.Machine

open Sys2Proof.Safety

/-! ### A socket and its channel -/

section
variable {s d t : State} {n : Channel}

/-- Where a channel is not eligible, its re-evaluation leaves it PARKED and in no set; GATE_CLOSED is posted exactly for a
member (R85, R95, R96). -/
theorem State.reEvaluate_unable (law : GroupLaw s) (stands : d.mix = s.mix) (settings : d.settings = s.settings)
    (unable : d.eligible n = false) :
    ((d.reEvaluate n).gates.get n).state = .parked ∧ ((d.reEvaluate n).gates.get n).holdCounter = 0 ∧
      memberGroup (d.reEvaluate n).groups n = none ∧
      (∀ g, memberGroup s.groups n = some g → PostedToAll .gateClosed (d.reEvaluate n)) ∧
      (memberGroup s.groups n = none → (d.reEvaluate n).events = d.events) := by
  have sets := (groupLaw_gating law).law
  have gates : d.gates = s.gates := congrArg Mix.gates stands
  have groups : d.groups = s.groups := congrArg Mix.groups stands
  have barred : ¬d.eligible n = true := by rw [unable]; exact Bool.false_ne_true
  by_cases parked : (s.gates.get n).state = .parked
  · have out := sets.memberGroup_eq_none_iff.mpr (by rw [show s.mix.gates.get n = s.gates.get n from rfl, parked]; rfl)
    have none : memberGroup s.groups n = none := out
    rw [State.reEvaluate_still (fun able => absurd able barred) fun _ => by rw [gates]; exact parked, gates, groups]
    refine ⟨parked, (sets.gate n).rests (by rw [show s.mix.gates.get n = s.gates.get n from rfl, parked]; decide), none,
      fun g found => ?_, fun _ => rfl⟩
    rw [none] at found
    cases found
  · have left : d.reEvaluate n = d.withMix (s.mix.leave s.settings n .parked) := by
      rw [State.reEvaluate, if_neg barred, gates, if_neg parked, settings, ← stands]
      rfl
    rw [left]
    cases found : memberGroup s.mix.groups n with
    | none =>
      have out := (memberGroup_eq_none _ _).mp found
      have alone : d.withMix (s.mix.leave s.settings n .parked) = { d with
          gates := ((s.mix.unwait n).setState n .parked).gates, groups := (s.mix.unwait n).groups } := by
        rw [Mix.leave_of_none _ found]
        exact State.postMask_zero _
      rw [alone]
      refine ⟨?_, ?_, (memberGroup_eq_none _ _).mpr fun g y member => out g y ?_, fun g inside => ?_, fun _ => rfl⟩
      · rw [Mix.setState_get_self]
      · rw [Mix.setState_get_self]
      · rw [Mix.unwait_groups_get] at member
        exact member
      · rw [show memberGroup s.groups n = none from found] at inside
        cases inside
    | some g =>
      obtain ⟨gate, gone, ⟨kinds, posted, closed, -⟩, -⟩ :=
        sets.leave_outcome (groupLaw_fit law) (Mix.GateChanged.refl _ _) found .parked
      refine ⟨congrArg Gate.state gate, congrArg Gate.holdCounter gate, gone, fun _ _ => ?_, fun none => ?_⟩
      · refine postedToAll_of_postMask (s := d) (posted := (s.mix.leave s.settings n .parked).posted) rfl ?_
        rw [posted, show s.mix.posted = 0 from rfl]
        exact (congrArg (· &&& _) BitVec.zero_or).trans closed
      · rw [show memberGroup s.groups n = some g from found] at none
        cases none

/-- What a socket event leaves: `d` is the state once the socket has its new record and the event's own kinds are posted. -/
structure SocketSettled (s d t : State) (n : Channel) : Prop where
  law : GroupLaw t
  sockets : t.sockets = d.sockets
  eligible : t.eligible n = d.eligible n
  aligned : t.engine.aligned = s.engine.aligned
  quiet : Quiet gateKinds d t
  frame : SocketFrame s t
  ports : t.ports = s.ports
  unable : d.eligible n = false → (t.gates.get n).state = .parked ∧ (t.gates.get n).holdCounter = 0 ∧
    memberGroup t.groups n = none ∧ (∀ g, memberGroup s.groups n = some g → PostedToAll .gateClosed t) ∧
    (memberGroup s.groups n = none → t.events = d.events)
  still : d.eligible n = false → (s.gates.get n).state = .parked → t.gates = s.gates ∧ t.groups = s.groups

/-- The state with a socket's new record and the events of the moment. -/
def State.resocket (n : Channel) (x : Socket) (events : ByPort PortEvents) (s : State) : State :=
  { s with sockets := s.sockets.set n x, events := events }

theorem State.resocket_ready {x : Socket} {events : ByPort PortEvents} (able : (s.resocket n x events).eligible n = true) :
    x.phase.ready = true := by
  obtain ⟨-, -, -, ready, -⟩ := (State.eligible_iff _ _).mp able
  rwa [State.resocket, Table.get_set_self] at ready

/-- Every socket event (R63, R111, R134). -/
theorem State.resocket_settled (law : GroupLaw s) (x : Socket) (events : ByPort PortEvents) :
    SocketSettled s (s.resocket n x events) ((s.resocket n x events).socketEvent n s) n := by
  have after : GroupLaw ((s.resocket n x events).socketEvent n s) :=
    groupLaw_atSocket law rfl rfl rfl rfl rfl fun k apart => Table.get_set_other _ _ apart
  have parks := State.reEvaluate_unable (n := n) (d := s.resocket n x events) law rfl rfl
  have still (unable : (s.resocket n x events).eligible n = false) (parked : (s.gates.get n).state = .parked) :
      (s.resocket n x events).reEvaluate n = s.resocket n x events :=
    State.reEvaluate_still (fun able => by rw [unable] at able; cases able) fun _ => parked
  have able := (s.resocket n x events).reEvaluate_eligible n n
  have quiet : Quiet gateKinds (s.resocket n x events) ((s.resocket n x events).reEvaluate n) :=
    (Quiet.refl _ _).reEvaluate Mix.postsGates_gateKinds n
  have only := OnlyMix.reEvaluate (s.resocket n x events) n
  have ground : (s.resocket n x events).ground = { s.ground with sockets := s.sockets.set n x } := rfl
  have engine : (s.resocket n x events).engine = s.engine := rfl
  have gates : (s.resocket n x events).gates = s.gates := rfl
  have groups : (s.resocket n x events).groups = s.groups := rfl
  unfold State.socketEvent at after ⊢
  generalize s.resocket n x events = d at *
  generalize d.reEvaluate n = u at *
  have built : (u.settle s).ground = { s.ground with sockets := s.sockets.set n x } := only.ground.trans ground
  obtain ⟨-, flags, -⟩ := Engine.askCounts_frame s.groups u.groups u.engine
  exact {
    law := after
    sockets := (congrArg Ground.sockets built).trans (congrArg Ground.sockets ground).symm
    eligible := able
    aligned := flags.trans (by rw [only.engine, engine])
    quiet := quiet.settle s
    frame := ⟨congrArg Ground.held built, congrArg Ground.settings built, congrArg Ground.frozen built,
      congrArg Ground.delay built, congrArg Ground.zones built, congrArg Ground.override built, congrArg Ground.clock built,
      congrArg Ground.standby built, congrArg Ground.contacts built, congrArg Ground.announcement built,
      congrArg Ground.feeds built, congrArg Ground.pending built⟩
    ports := congrArg Ground.ports built
    unable := parks
    still := fun unable parked => by
      have same := still unable parked
      subst same
      exact ⟨gates, groups⟩ }

/-- A channel whose socket is not ready is PARKED (R85, R134). -/
theorem parked_of_unready (law : GroupLaw s) (unready : (s.sockets.get n).phase.ready = false) :
    (s.gates.get n).state = .parked := by
  by_contra up
  obtain ⟨-, -, -, ready, -⟩ := (State.eligible_iff _ _).mp (((groupLaw_gating law).law.gate n).ok up)
  rw [unready] at ready
  cases ready

/-- No eligible ALIGNED channel is PARKED (R87). -/
theorem up_of_eligible (law : GroupLaw s) (able : s.eligible n = true) (aligned : s.engine.aligned.get n = true) :
    (s.gates.get n).state ≠ .parked := fun parked => (groupLaw_gating law).awake n able aligned parked

theorem State.onSocket_eq (s : State) (n : Channel) (f : Socket → Socket) :
    s.onSocket n f = s.resocket n (f (s.sockets.get n)) s.events := rfl

end

end Sys2Proof.Machine
end

section
/-! PROOFS. SET_SOCKET_POWER and RESENSE_SOCKET (R136 to R138). -/

namespace Sys2Proof.Machine

open Sys2Proof.Safety

section
variable {s : State} {p : Port} {n : Channel} {v w : Byte}

theorem exec_setSocketPowerOn (ready : Ready s p 0x0B [v, w]) (wanted : w.toNat ≠ 0) :
    exec (.setSocketPowerOn p [v, w]) s = .next ((serveSocketPowerOn [v, w] s).sentTo p 0x0B) := by
  refine Eq.trans ?_ (occur_request ready)
  change execSetSocketPowerOn p [v, w] s = _
  rw [execSetSocketPowerOn, occur_of_awake ready.1, occur_of_awake ready.1, if_neg fun ⟨_, off⟩ => wanted off]

theorem exec_setSocketPowerOff (ready : Ready s p 0x0B [v, w]) (off : w.toNat = 0) :
    exec (.setSocketPowerOff p [v, w]) s = .next ((serveSocketPowerOff [v, w] s).sentTo p 0x0B) := by
  refine Eq.trans ?_ (occur_request ready)
  change execSetSocketPowerOff p [v, w] s = _
  rw [execSetSocketPowerOff, occur_of_awake ready.1, occur_of_awake ready.1, if_neg fun ⟨_, on⟩ => on off]

/-- What a request for on answers once its socket and its value are read (R136). -/
theorem serveSocketPowerOn_pair (n : Channel) (w : Byte) (s : State) : serveSocketPowerOn [numberByte n, w] s =
    if w.toNat ≠ 1 then refuse s .badValue
    else match (s.sockets.get n).phase.sensedClass with
      | none => refuse s .notPresent
      | some .condenser =>
        if s.standby then refuse s .inStandby
        else accept ((s.onSocket n Socket.powerOnRequest).socketEvent n s)
      | some _ => refuse (s.post .powerRefused) .powerRefused := by
  rw [serveSocketPowerOn, naming_pair n w (by decide)]
  rfl

theorem serveResense_outside (outside : v.toNat = 0 ∨ 16 < v.toNat) : serveResense [v] s = refuse s .badIndex :=
  naming_of_index (body := [v]) rfl (numbered_eq_none.mpr outside)

/-- What a resense answers once its socket is read (R138). -/
theorem serveResense_single (n : Channel) (s : State) : serveResense [numberByte n] s =
    if (s.sockets.get n).phase = .empty then refuse s .notPresent
    else if s.standby then refuse s .inStandby
    else accept ((s.onSocket n fun x =>
      { x with phase := .sensing Config.sensingTime, wish := false, suppressed := false }).socketEvent n s) :=
  naming_of_some (body := [numberByte n]) rfl (numbered_numberByte n (by decide))

/-- A request for on moves no readiness, and so no gate (R134, R136). -/
theorem State.powerOnRequest_still (law : GroupLaw s) (targets : TargetLaw s)
    (sensed : (s.sockets.get n).phase.sensedClass = some .condenser) :
    (s.onSocket n Socket.powerOnRequest).socketEvent n s = s.onSocket n Socket.powerOnRequest := by
  have ready : (Socket.powerOnRequest (s.sockets.get n)).phase.ready = (s.sockets.get n).phase.ready := by
    unfold Socket.powerOnRequest
    cases phase : (s.sockets.get n).phase with
    | empty | sensing | ramping | powered | fault => rfl
    | present c =>
      rw [phase] at sensed
      cases sensed
      rfl
  have after := groupLaw_onSocket law n ready
  have still : (s.onSocket n Socket.powerOnRequest).reEvaluate n = s.onSocket n Socket.powerOnRequest := by
    refine State.reEvaluate_still (up_of_eligible after) fun unable => ?_
    by_contra up
    have able := ((groupLaw_gating after).law.gate n).ok up
    rw [unable] at able
    cases able
  rw [State.socketEvent, still]
  exact State.settle_of_groups targets rfl rfl rfl rfl rfl

end

/-- What a resense makes of a socket (R138). -/
def Socket.sensedAnew (x : Socket) : Socket :=
  { x with phase := .sensing Config.sensingTime, wish := false, suppressed := false }

namespace SocketSettled

variable {s d t : State} {n : Channel}

theorem answered (h : SocketSettled s d t n) (p : Port) (kind : Byte) (st : Status) :
    Answered s (answering t p kind st []) p kind st := congrArg (ByPort.set · p _) h.ports

theorem within (h : SocketSettled s d t n) (events : d.events = s.events) : PostedWithin gateKinds s t := fun p => by
  rw [← events]
  exact h.quiet.sticky p

theorem frame_answering (h : SocketSettled s d t n) (p : Port) (kind : Byte) (st : Status) (body : List Byte) :
    SocketFrame s (answering t p kind st body) :=
  ⟨h.frame.held, h.frame.settings, h.frame.frozen, h.frame.delay, h.frame.zones, h.frame.override, h.frame.clock,
    h.frame.standby, h.frame.contacts, h.frame.announcement, h.frame.feeds, h.frame.pending⟩

end SocketSettled

/-- Settles O25: the refusals by the socket's state, then what each request makes of the socket and its channel. -/
theorem socketRequests : Obligations.SocketRequests := by
  unfold Obligations.SocketRequests
  refine ⟨fun s p n ready => ?_, fun s p n v above ready => ?_, fun s p v outside => ⟨fun w ready => ⟨fun on => ?_, fun off => ?_⟩,
    fun ready => ?_⟩, fun s p n => ⟨fun ready law => ?_, fun ready => ⟨fun empty => ?_, fun present => ⟨fun standby => ?_,
    fun awake law => ?_⟩⟩⟩⟩
  · have run := exec_setSocketPowerOn ready (by decide)
    rw [serveSocketPowerOn_pair, if_neg (by decide)] at run
    refine ⟨fun bare => ?_, fun c present other => ?_, fun sensed => ?_⟩
    · have none : (s.sockets.get n).phase.sensedClass = none := by
        obtain empty | ⟨k, sensing⟩ := bare
        · rw [empty]
          rfl
        · rw [sensing]
          rfl
      rw [none] at run
      exact run
    · rw [present] at run
      cases c with
      | condenser => exact absurd rfl other
      | dynamic | lineReceiver | unknown => exact run
    · have class_ : (s.sockets.get n).phase.sensedClass = some .condenser := by
        obtain present | ⟨k, ramping⟩ | powered | fault := sensed
        · rw [present]; rfl
        · rw [ramping]; rfl
        · rw [powered]; rfl
        · rw [fault]; rfl
      rw [class_] at run
      refine ⟨fun standby => ?_, fun up law targets => ?_⟩
      · rw [run]
        simp only [standby, if_true, refuse_sentTo]
      · rw [State.powerOnRequest_still law targets class_] at run
        have served : (if s.standby = true then refuse s .inStandby else accept (s.onSocket n Socket.powerOnRequest)) =
            accept (s.onSocket n Socket.powerOnRequest) := if_neg (by rw [up]; exact Bool.false_ne_true)
        exact run.trans (congrArg (fun r : Reply => (.next (r.sentTo p 0x0B) : Host.Outcome State Fault Refusal)) served)
  · rw [exec_setSocketPowerOn ready (by omega), serveSocketPowerOn_pair, if_pos (by omega), refuse_sentTo]
  · rw [exec_setSocketPowerOn ready on, serveSocketPowerOn, naming_pair_outside outside, refuse_sentTo]
  · rw [exec_setSocketPowerOff ready off, serveSocketPowerOff, naming_pair_outside outside, refuse_sentTo]
  · rw [exec_resenseSocket ready, serveResense_outside outside, refuse_sentTo]
  · have run := exec_setSocketPowerOff ready rfl
    rw [serveSocketPowerOff, naming_pair n 0 (by decide), State.onSocket_eq, accept_sentTo] at run
    have left := State.resocket_settled (n := n) law (Socket.powerOffRequest (s.sockets.get n)) s.events
    have unready (powered : (s.sockets.get n).phase = .powered) :
        (s.resocket n (Socket.powerOffRequest (s.sockets.get n)) s.events).eligible n = false := by
      rw [Bool.eq_false_iff]
      intro able
      have ready := State.resocket_ready able
      rw [Socket.powerOffRequest, powered] at ready
      cases ready
    have sockets : (s.resocket n (Socket.powerOffRequest (s.sockets.get n)) s.events).sockets =
      s.sockets.set n (Socket.powerOffRequest (s.sockets.get n)) := rfl
    have events : (s.resocket n (Socket.powerOffRequest (s.sockets.get n)) s.events).events = s.events := rfl
    generalize s.resocket n (Socket.powerOffRequest (s.sockets.get n)) s.events = d at *
    generalize d.socketEvent n s = t at *
    refine ⟨_, run, left.answered .., left.sockets.trans sockets, fun powered => ?_, left.aligned, left.within events,
      left.frame_answering ..⟩
    obtain ⟨parked, counter, gone, -⟩ := left.unable (unready powered)
    exact ⟨parked, counter, gone⟩
  · rw [exec_resenseSocket ready, serveResense_single, if_pos empty,
      refuse_sentTo]
  · rw [exec_resenseSocket ready, serveResense_single, if_neg present,
      if_pos standby, refuse_sentTo]
  · have run := exec_resenseSocket ready
    rw [serveResense_single, if_neg present,
      if_neg (by rw [awake]; exact Bool.false_ne_true), State.onSocket_eq, accept_sentTo] at run
    have left := State.resocket_settled (n := n) law (Socket.sensedAnew (s.sockets.get n)) s.events
    have unready : (s.resocket n (Socket.sensedAnew (s.sockets.get n)) s.events).eligible n = false := by
      rw [Bool.eq_false_iff]
      intro able
      cases State.resocket_ready able
    have sockets : (s.resocket n (Socket.sensedAnew (s.sockets.get n)) s.events).sockets =
      s.sockets.set n (Socket.sensedAnew (s.sockets.get n)) := rfl
    have events : (s.resocket n (Socket.sensedAnew (s.sockets.get n)) s.events).events = s.events := rfl
    change exec (.resenseSocket p [numberByte n]) s = .next (answering ((s.resocket n (Socket.sensedAnew (s.sockets.get n))
      s.events).socketEvent n s) p 0x0C .ok []) at run
    generalize s.resocket n (Socket.sensedAnew (s.sockets.get n)) s.events = d at *
    generalize d.socketEvent n s = t at *
    obtain ⟨parked, counter, gone, -⟩ := left.unable unready
    exact ⟨_, run, left.answered .., left.sockets.trans sockets, parked, counter, gone, left.aligned, left.within events,
      left.frame_answering ..⟩

end Sys2Proof.Machine
end

section
/-! PROOFS. The socket events (R129 to R135). -/

namespace Sys2Proof.Machine

open Sys2Proof.Safety

namespace EventMask.AgreeOutside

variable {a b kinds more : EventMask}

theorem or_right (h : AgreeOutside kinds a b) (more : EventMask) : AgreeOutside (kinds ||| more) a b := by
  unfold AgreeOutside at *
  rw [BitVec.not_or, ← BitVec.and_assoc, ← BitVec.and_assoc, h]

theorem or_left (h : AgreeOutside more a b) (kinds : EventMask) : AgreeOutside (kinds ||| more) a b := by
  rw [BitVec.or_comm]
  exact h.or_right kinds

end EventMask.AgreeOutside

/-! ### The class that a sensing latches -/

theorem latchedClass_unsteady {r : SenseReading}
    (unsteady : ¬(commonModes r).Pairwise (fun a b => WithinATenth a b)) : latchedClass r = .unknown := by
  rw [← pathUnsteady_eq_false_iff, Bool.not_eq_false] at unsteady
  rw [latchedClass, if_pos unsteady]

theorem latchedClass_steady {r : SenseReading} (steady : (commonModes r).Pairwise (fun a b => WithinATenth a b)) :
    latchedClass r = (if ∃ o, r.last.commonMode = some o ∧ o ≤ 100000 then .condenser
      else if ∃ o, r.last.legs = some o ∧ o ≤ 1000 then .dynamic
      else if r.last.legs = none ∨ ∃ o, r.last.legs = some o ∧ 5000 ≤ o then .lineReceiver else .unknown) := by
  have path : ((r.last.commonMode.any fun ohms => decide (ohms ≤ 100000)) = true) ↔
      ∃ o, r.last.commonMode = some o ∧ o ≤ 100000 := by
    rw [Option.any_eq_true]
    simp only [decide_eq_true_eq]
  rw [latchedClass, if_neg (by rw [(pathUnsteady_eq_false_iff _).mpr steady]; exact Bool.false_ne_true)]
  refine if_congr path rfl ?_
  cases r.last.legs with
  | none => simp
  | some o => simp

/-! ### Current and voltage -/

section
variable {s : State} {n : Channel}

theorem State.phantom_awake (awake : s.held = false) : s.phantom n = (s.sockets.get n).phase.phantomOn := by
  rw [State.phantom, awake, Bool.not_false, Bool.true_and]

theorem State.phantomVolts_awake (awake : s.held = false) : s.phantomVolts n = (s.sockets.get n).phase.volts :=
  if_neg (by rw [awake]; exact Bool.false_ne_true)

end

/-! ### The events -/

section
variable {s d t : State} {n : Channel}

/-- A socket that calls for power and nothing else ramps (R131). -/
theorem Socket.powerUp_present (autoPower : Bool) (x : Socket) (c : SocketClass) :
    Socket.powerUp autoPower { x with phase := .present c } = { x with
      phase := if c = .condenser ∧ (x.wish = true ∨ (autoPower = true ∧ x.suppressed = false)) then .ramping 9600
        else .present c } := by
  have calls : (Socket.callsForPower { x with phase := .present c } autoPower = true) ↔
      c = .condenser ∧ (x.wish = true ∨ (autoPower = true ∧ x.suppressed = false)) := by
    simp [Socket.callsForPower, SocketPhase.sensedClass]
  rw [Socket.powerUp]
  dsimp only
  by_cases asks : c = .condenser ∧ (x.wish = true ∨ (autoPower = true ∧ x.suppressed = false))
  · rw [if_pos (calls.mpr asks), if_pos asks]
    rfl
  · rw [if_neg fun h => asks (calls.mp h), if_neg asks]

/-- The socket after its sensing (R130, R131). -/
def State.latched (s : State) (n : Channel) (c : SocketClass) : Socket :=
  { s.sockets.get n with
    phase := if s.standby = false ∧ c = .condenser ∧ ((s.sockets.get n).wish = true ∨
        ((s.settings.channels.get n).autoPower = true ∧ (s.sockets.get n).suppressed = false)) then
      .ramping 9600 else .present c }

theorem exec_insertion (awake : s.held = false) (due : (s.sockets.get n).debounce = some 0)
    (raw : (s.sockets.get n).raw = true) (absent : (s.sockets.get n).presence = false)
    (empty : (s.sockets.get n).phase = .empty) : exec (.insertion n) s = .next { s with
      sockets := s.sockets.set n { s.sockets.get n with
        presence := true, debounce := none, suppressed := false, phase := .sensing 4800 } } := by
  change execInsertion n s = _
  rw [execInsertion, occur_of_awake awake, if_pos ⟨due, raw, by rw [absent]; exact Bool.false_ne_true⟩, State.onSocket_eq,
    if_pos empty]
  rfl

/-- A record written over the state that an event gave the socket just before. -/
theorem State.resocket_setPhase (ph : SocketPhase) (k : EventKind) (x : Socket) (events : ByPort PortEvents) :
    ((s.setPhase n ph).post k).resocket n x events = s.resocket n x events := by
  have record : (s.setPhase n ph).sockets.set n x = s.sockets.set n x := Table.set_set ..
  calc ((s.setPhase n ph).post k).resocket n x events
      = { s with sockets := (s.setPhase n ph).sockets.set n x, events := events } := rfl
    _ = s.resocket n x events := by rw [record]; rfl

theorem exec_sensingEnd (awake : s.held = false) (due : (s.sockets.get n).phase = .sensing 0) (r : SenseReading) :
    exec (.sensingEnd n r) s =
      .next ((s.resocket n (s.latched n (latchedClass r)) (s.post .socketChange).events).socketEvent n s) := by
  change execSensingEnd n r s = _
  rw [execSensingEnd, occur_of_awake awake, if_pos due]
  dsimp only
  rw [State.latched]
  split
  case isTrue standby =>
    rw [if_neg fun up => by rw [standby] at up; cases up.1]
    rfl
  case isFalse awake =>
    have present : ((s.setPhase n (.present (latchedClass r))).sockets.get n) =
      { s.sockets.get n with phase := .present (latchedClass r) } := Table.get_modify_self ..
    have up : s.standby = false := Bool.eq_false_iff.mpr awake
    have calls : (s.standby = false ∧ latchedClass r = .condenser ∧ ((s.sockets.get n).wish = true ∨
        ((s.settings.channels.get n).autoPower = true ∧ (s.sockets.get n).suppressed = false))) =
        (latchedClass r = .condenser ∧ ((s.sockets.get n).wish = true ∨
          ((s.settings.channels.get n).autoPower = true ∧ (s.sockets.get n).suppressed = false))) :=
      propext (and_iff_right up)
    rw [State.onSocket_eq, State.resocket_setPhase]
    change Host.Outcome.next ((s.resocket n
      (Socket.powerUp _ ((s.setPhase n (.present (latchedClass r))).sockets.get n)) _).socketEvent n s) = _
    rw [present, Socket.powerUp_present]
    simp only [calls]
    rfl

theorem exec_phantomRampEnd (awake : s.held = false) (due : (s.sockets.get n).phase = .ramping 0) :
    exec (.phantomRampEnd n) s = .next ((s.resocket n { s.sockets.get n with phase := .powered }
      (s.post .powerReady).events).socketEvent n s) := by
  change execPhantomRampEnd n s = _
  rw [execPhantomRampEnd, occur_of_awake awake, if_pos due]
  rfl

theorem exec_overcurrent (awake : s.held = false) (x : PhantomCurrent)
    (above : (s.sockets.get x.socket).phase.overcurrent x = true) :
    exec (.overcurrent x) s = .next ((s.resocket x.socket { s.sockets.get x.socket with phase := .fault }
      (s.post .powerFault).events).socketEvent x.socket s) := by
  change execOvercurrent x s = _
  rw [execOvercurrent, occur_of_awake awake, if_pos above]
  rfl

/-- What a removal posts before the channel is parked (R135). -/
def State.unplugged (s : State) (n : Channel) : State :=
  if (memberGroup s.groups n).isSome then (s.post .socketChange).post .liveRemoval else s.post .socketChange

theorem exec_removal (awake : s.held = false) (due : (s.sockets.get n).debounce = some 0)
    (raw : (s.sockets.get n).raw = false) (present : (s.sockets.get n).presence = true) :
    exec (.removal n) s = .next ((s.resocket n ⟨.empty, false, false, false, (s.sockets.get n).raw, none⟩
      (s.unplugged n).events).socketEvent n s) := by
  change execRemoval n s = _
  rw [execRemoval, occur_of_awake awake, if_pos ⟨due, by rw [raw]; exact Bool.false_ne_true, present⟩]
  dsimp only
  rw [State.unplugged]
  split <;> rfl

/-- Kinds posted at a socket event stand, and nothing is posted beyond them and the gates' own. -/
theorem SocketSettled.posted (h : SocketSettled s d t n) {kinds : EventMask}
    (sticky : ∀ p, (d.events.get p).sticky = (s.events.get p).sticky ||| kinds) :
    (∀ k : EventKind, kinds &&& k.mask = k.mask → k.mask &&& ~~~gateKinds = k.mask → PostedToAll k t) ∧
      PostedWithin (kinds ||| gateKinds) s t := by
  refine ⟨fun k inside apart => postedToAll_of_quiet h.quiet (fun p => ?_) apart, fun p => ?_⟩
  · rw [sticky, ← postMask_sticky]
    exact postedToAll_of_postMask (s := s) (posted := kinds) rfl inside p
  · have first : EventMask.AgreeOutside kinds (s.events.get p).sticky (d.events.get p).sticky := by
      rw [sticky]
      exact (EventMask.AgreeOutside.refl kinds _).or (BitVec.and_not_self ..)
    exact (first.or_right gateKinds).trans ((h.quiet.sticky p).or_left kinds)

theorem memberGroup_isSome_iff (groups : Table 6 GroupState) (n : Channel) :
    (memberGroup groups n).isSome = true ↔ ∃ g, (groups.get g).holds n = true := by
  rw [← not_iff_not, Bool.not_eq_true, Option.isSome_eq_false_iff, Option.isNone_iff_eq_none, memberGroup_eq_none]
  constructor
  · rintro out ⟨g, holds⟩
    obtain ⟨y, member, same⟩ := (GroupState.holds_iff _ _).mp holds
    exact out g y member same
  · exact fun out g y member same => out ⟨g, (GroupState.holds_iff _ _).mpr ⟨y, member, same⟩⟩

theorem State.unplugged_member (inside : (memberGroup s.groups n).isSome = true) (p : Port) :
    ((s.unplugged n).events.get p).sticky =
      (s.events.get p).sticky ||| (EventKind.socketChange.mask ||| EventKind.liveRemoval.mask) := by
  rw [State.unplugged, if_pos inside, State.post, postMask_sticky, State.post, postMask_sticky, BitVec.or_assoc]

theorem State.unplugged_alone (outside : (memberGroup s.groups n).isSome = false) : s.unplugged n = s.post .socketChange :=
  if_neg (by rw [outside]; exact Bool.false_ne_true)

end

/-- Settles O39: the currents and voltages by the socket's state, then each event. -/
theorem socketEvents : Obligations.SocketEvents := by
  unfold Obligations.SocketEvents
  refine ⟨fun s n awake => ?_, fun s n awake => ⟨fun due raw absent empty => exec_insertion awake due raw absent empty, fun r =>
    ⟨latchedClass_unsteady, latchedClass_steady, fun due law => ?_⟩⟩, fun s n awake law => ⟨fun due => ?_,
    fun current lasted => ⟨fun above => ?_, fun below => ?_⟩, fun due raw present => ?_⟩⟩
  · rw [State.phantom_awake awake, State.phantomVolts_awake awake, State.sensingMicroamps]
    generalize (s.sockets.get n).phase = ph
    dsimp only
    refine ⟨?_, fun other => ?_, ?_, ?_, fun off other => ?_⟩
    · rintro k rfl
      exact if_neg (by rw [awake]; exact Bool.false_ne_true)
    · cases ph with
      | sensing k => exact absurd rfl (other k)
      | empty | present | ramping | powered | fault => rfl
    · rintro k rfl
      exact ⟨rfl, SocketPhase.volts_ramping⟩
    · rintro rfl
      exact ⟨rfl, rfl⟩
    · cases ph with
      | powered => exact absurd rfl off
      | ramping k => exact absurd rfl (other k)
      | empty | sensing | present | fault => exact ⟨rfl, rfl⟩
  · have run := exec_sensingEnd awake due r
    have left := State.resocket_settled (n := n) law (s.latched n (latchedClass r)) (s.post .socketChange).events
    have sockets : (s.resocket n (s.latched n (latchedClass r)) (s.post .socketChange).events).sockets =
      s.sockets.set n (s.latched n (latchedClass r)) := rfl
    have posted := left.posted (kinds := EventKind.socketChange.mask) (postMask_sticky s _)
    have parked := parked_of_unready law (n := n) (by rw [due]; rfl)
    generalize s.resocket n (s.latched n (latchedClass r)) (s.post .socketChange).events = d at *
    generalize d.socketEvent n s = t at *
    exact ⟨t, run, left.sockets.trans sockets, fun _ able aligned => up_of_eligible left.law able (by rw [left.aligned]; exact aligned),
      fun unable => left.still (left.eligible.symm.trans unable) parked, left.aligned, posted.1 _ rfl rfl, posted.2, left.frame⟩
  · have run := exec_phantomRampEnd awake due
    have left := State.resocket_settled (n := n) law { s.sockets.get n with phase := .powered } (s.post .powerReady).events
    have sockets : (s.resocket n { s.sockets.get n with phase := .powered } (s.post .powerReady).events).sockets =
      s.sockets.set n { s.sockets.get n with phase := .powered } := rfl
    have posted := left.posted (kinds := EventKind.powerReady.mask) (postMask_sticky s _)
    have parked := parked_of_unready law (n := n) (by rw [due]; rfl)
    generalize s.resocket n { s.sockets.get n with phase := .powered } (s.post .powerReady).events = d at *
    generalize d.socketEvent n s = t at *
    exact ⟨t, run, left.sockets.trans sockets, fun able aligned => up_of_eligible left.law able (by rw [left.aligned]; exact aligned),
      fun unable => left.still (left.eligible.symm.trans unable) parked, left.aligned, posted.1 _ rfl rfl, posted.2, left.frame⟩
  · have run := exec_overcurrent awake ⟨n, current, lasted⟩ ((SocketPhase.overcurrent_iff _ _).mpr above)
    have left := State.resocket_settled (n := n) law { s.sockets.get n with phase := .fault } (s.post .powerFault).events
    have sockets : (s.resocket n { s.sockets.get n with phase := .fault } (s.post .powerFault).events).sockets =
      s.sockets.set n { s.sockets.get n with phase := .fault } := rfl
    have posted := left.posted (kinds := EventKind.powerFault.mask) (postMask_sticky s _)
    have unready : (s.resocket n { s.sockets.get n with phase := .fault } (s.post .powerFault).events).eligible n = false := by
      rw [Bool.eq_false_iff]
      intro able
      cases State.resocket_ready able
    change exec (.overcurrent ⟨n, current, lasted⟩) s = .next ((s.resocket n { s.sockets.get n with phase := .fault }
      (s.post .powerFault).events).socketEvent n s) at run
    generalize s.resocket n { s.sockets.get n with phase := .fault } (s.post .powerFault).events = d at *
    generalize d.socketEvent n s = t at *
    obtain ⟨parked, counter, gone, -⟩ := left.unable unready
    exact ⟨t, run, left.sockets.trans sockets, parked, counter, gone, left.aligned, posted.1 _ rfl rfl, posted.2, left.frame⟩
  · change execOvercurrent ⟨n, current, lasted⟩ s = _
    rw [execOvercurrent, occur_of_awake awake, if_neg fun above => below ((SocketPhase.overcurrent_iff _ _).mp above)]
  · have run := exec_removal awake due raw present
    have left := State.resocket_settled (n := n) law ⟨.empty, false, false, false, (s.sockets.get n).raw, none⟩
      (s.unplugged n).events
    have unready : (s.resocket n ⟨.empty, false, false, false, (s.sockets.get n).raw, none⟩ (s.unplugged n).events).eligible n =
        false := by
      rw [Bool.eq_false_iff]
      intro able
      cases State.resocket_ready able
    have sockets : (s.resocket n ⟨.empty, false, false, false, (s.sockets.get n).raw, none⟩ (s.unplugged n).events).sockets =
      s.sockets.set n ⟨.empty, false, false, false, (s.sockets.get n).raw, none⟩ := rfl
    have events : (s.resocket n ⟨.empty, false, false, false, (s.sockets.get n).raw, none⟩ (s.unplugged n).events).events =
      (s.unplugged n).events := rfl
    generalize s.resocket n ⟨.empty, false, false, false, (s.sockets.get n).raw, none⟩ (s.unplugged n).events = d at *
    generalize d.socketEvent n s = t at *
    obtain ⟨parked, counter, gone, closed, alone⟩ := left.unable unready
    cases inside : (memberGroup s.groups n).isSome with
    | true =>
      have posted := left.posted (kinds := EventKind.socketChange.mask ||| EventKind.liveRemoval.mask)
        (by rw [events]; exact State.unplugged_member inside)
      obtain ⟨g, found⟩ := Option.isSome_iff_exists.mp inside
      obtain ⟨h, within⟩ := (memberGroup_isSome_iff _ _).mp inside
      exact ⟨t, run, left.sockets.trans sockets, parked, counter, gone, left.aligned, posted.1 _ rfl rfl,
        fun _ => ⟨posted.1 _ rfl rfl, closed g found⟩,
        fun out => absurd within (out h ▸ Bool.false_ne_true), posted.2, left.frame⟩
    | false =>
      have out : ¬∃ g, (s.groups.get g).holds n = true := fun holds => by
        rw [(memberGroup_isSome_iff _ _).mpr holds] at inside
        cases inside
      have only : d.events = (s.post .socketChange).events := by rw [events, State.unplugged_alone inside]
      have posted := left.posted (kinds := EventKind.socketChange.mask) (by rw [only]; exact postMask_sticky s _)
      refine ⟨t, run, left.sockets.trans sockets, parked, counter, gone, left.aligned, posted.1 _ rfl rfl,
        fun holds => absurd holds out, fun _ => ?_, fun p => ?_, left.frame⟩
      · rw [alone (Option.isNone_iff_eq_none.mp (Option.isSome_eq_false_iff.mp inside)), only]
      · rw [BitVec.or_assoc, BitVec.or_comm EventKind.liveRemoval.mask, ← BitVec.or_assoc]
        exact EventMask.AgreeOutside.or_right (posted.2 p) _

end Sys2Proof.Machine
end

section
/-! PROOFS. Entry to standby and the wake (R165, R167). -/

namespace Sys2Proof.Machine

open Sys2Proof.Safety

/-! ### Channels parked together -/

/-- Gates and groups between which nothing is posted but GATE_CLOSED, and that wherever a set has moved. -/
structure OnlyCloses (s t : State) : Prop where
  gate : ∀ k, (t.gates.get k).still = (s.gates.get k).still
  within : PostedWithin EventKind.gateClosed.mask s t
  keeps : PostedToAll .gateClosed s → PostedToAll .gateClosed t
  closes : (∀ g, (t.groups.get g).members = (s.groups.get g).members) ∨ PostedToAll .gateClosed t

namespace OnlyCloses

variable {s t u : State}

theorem refl (s : State) : OnlyCloses s s := ⟨fun _ => rfl, fun _ => rfl, id, .inl fun _ => rfl⟩

theorem trans (h : OnlyCloses s t) (k : OnlyCloses t u) : OnlyCloses s u where
  gate n := (k.gate n).trans (h.gate n)
  within p := (k.within p).trans (h.within p)
  keeps posted := k.keeps (h.keeps posted)
  closes := by
    obtain same | posted := h.closes
    · obtain still | posted := k.closes
      · exact .inl fun g => (still g).trans (same g)
      · exact .inr posted
    · exact .inr (k.keeps posted)

theorem leaveQuietly (s : State) (n : Channel) : OnlyCloses s (s.onMix (Mix.leaveQuietly n .parked)) := by
  have gate (k : Channel) := ((Mix.Frame.refl EventMask.kinds s.mix).leaveQuietly Mix.postsGates_all n .parked).gate k
  have members (g : Group) : ((s.mix.unwait n).groups.get g).members = (s.groups.get g).members := by
    rw [Mix.unwait_groups_get]
    rfl
  cases found : memberGroup (s.mix.unwait n).groups n with
  | none =>
    have alone : s.mix.leaveQuietly n .parked = (s.mix.unwait n).setState n .parked := Mix.evict_of_none found _
    have events : (s.onMix (Mix.leaveQuietly n .parked)).events = s.events := by
      rw [State.onMix_events, alone]
      exact congrArg State.events (State.postMask_zero s)
    refine ⟨gate, fun p => by rw [events], fun posted p => by rw [events]; exact posted p, .inl fun g => ?_⟩
    rw [State.onMix_groups, alone]
    exact members g
  | some g =>
    have posted : (s.mix.leaveQuietly n .parked).posted = EventKind.gateClosed.mask := by
      rw [Mix.leaveQuietly, Mix.evict, found]
      exact BitVec.zero_or
    have events : (s.onMix (Mix.leaveQuietly n .parked)).events = (s.postMask EventKind.gateClosed.mask).events := by
      rw [State.onMix_events, posted]
      rfl
    have all : PostedToAll .gateClosed (s.onMix (Mix.leaveQuietly n .parked)) :=
      postedToAll_of_postMask events (BitVec.and_self ..)
    exact ⟨gate, postedWithin_of_postMask events (BitVec.and_not_self ..), fun _ => all, .inr all⟩

theorem parkIneligible (ns : List Channel) (s : State) : OnlyCloses s (s.parkIneligible ns) := by
  unfold State.parkIneligible
  induction ns generalizing s with
  | nil => exact .refl s
  | cons n ns ih =>
    rw [List.foldl_cons]
    refine .trans ?_ (ih _)
    split
    · exact .refl s
    · exact .leaveQuietly s n

end OnlyCloses

/-! ### What the engine is asked -/

theorem Engine.asks_of_moved {before after : Table 6 GroupState} {g : Group}
    (moved : (before.get g).openCount ≠ (after.get g).openCount) (e : Engine) :
    Item.group g ∈ (e.askCounts before after).queue ∨ Item.all ∈ (e.askCounts before after).queue := by
  unfold Engine.askCounts
  have asked (gs : List Group) (e : Engine) (held : Item.group g ∈ e.queue ∨ Item.all ∈ e.queue ∨ g ∈ gs) :
      Item.group g ∈ (gs.foldl (fun e g => if (before.get g).openCount = (after.get g).openCount then e else e.askGroup g)
        e).queue ∨ Item.all ∈ (gs.foldl (fun e g =>
          if (before.get g).openCount = (after.get g).openCount then e else e.askGroup g) e).queue := by
    induction gs generalizing e with
    | nil =>
      obtain h | h | h := held
      · exact .inl h
      · exact .inr h
      · cases h
    | cons h gs ih =>
      rw [List.foldl_cons]
      refine ih _ ?_
      by_cases same : g = h
      · subst same
        rw [if_neg moved]
        obtain mem | mem := mem_mergeItem (.group g) e.queue
        · exact .inl mem
        · exact .inr (.inl mem)
      · obtain mem | mem | mem := held
        · refine .inl ?_
          split
          · exact mem
          · exact mem_mergeItem_of_mem mem
        · refine .inr (.inl ?_)
          split
          · exact mem
          · exact mem_mergeItem_of_mem mem
        · exact .inr (.inr ((List.mem_cons.mp mem).resolve_left same))
  exact asked _ e (.inr (.inr (List.mem_finRange g)))

/-! ### One crosspoint at the entry -/

/-- What an entry to standby makes of a crosspoint that was on its target (R64, R74). -/
theorem Crosspoint.retargetClock_off {x : Crosspoint} (law : PhaseLaw x.target x.phase) :
    match x.phase with
    | .silent => (x.retargetClock none).phase = .silent
    | .steady l => (x.retargetClock none).phase = .ramping l 240 240
    | .ramping l len rem => (x.retargetClock none).phase =
        if x.target = none then .ramping l len (min 240 rem) else .ramping l 240 240
    | .crossfading l d ol q len rem => (x.retargetClock none).phase = .crossfading l d ol q len (min 240 rem) := by
  cases phase : x.phase with
  | silent =>
    rw [phase] at law
    have off : none = x.target := Eq.symm law
    rw [Crosspoint.retargetClock, Crosspoint.retarget_of_same _ off, phase]
    rfl
  | steady l =>
    rw [phase] at law
    have on : none ≠ x.target := by rw [show x.target = some l from law]; nofun
    rw [Crosspoint.retargetClock, Crosspoint.retarget, if_neg on, phase]
    rfl
  | ramping l len rem =>
    dsimp only
    by_cases off : x.target = none
    · rw [if_pos off, Crosspoint.retargetClock, Crosspoint.retarget_of_same _ off.symm, phase]
      rfl
    · rw [if_neg off, Crosspoint.retargetClock, Crosspoint.retarget, if_neg (Ne.symm off), phase]
      rfl
  | crossfading l d ol q len rem => exact Crosspoint.retargetClock_crossfading phase

/-! ### Standby -/

section
variable {s : State} {p : Port}

theorem serveStandby_awake (awake : s.standby = false) : serveStandby [] s = accept s.enterStandby :=
  if_neg (by rw [awake]; exact Bool.false_ne_true)

/-- The entry to standby before its channels are parked (R165). -/
def State.dimmed (s : State) : State :=
  { s with
    standby := true
    zones := s.zones.map fun _ z => { z with standby := true }
    groups := s.groups.map fun _ x => { x with waiting := [] }
    gates := s.gates.map fun _ g => { g with latest := 240, detector := .fresh }
    sockets := s.sockets.map fun _ x => x.powerDown }

theorem State.enterStandby_eq (s : State) : s.enterStandby =
    (s.dimmed.parkIneligible (List.finRange 16)).settleClock s fun j => !(s.zones.get j).standby := rfl

/-- A socket that calls for power and nothing else ramps at a wake (R140). -/
theorem Socket.powerUp_phase (autoPower : Bool) (x : Socket) : (x.powerUp autoPower).phase =
    if x.phase = .present .condenser ∧ (x.wish = true ∨ (autoPower = true ∧ x.suppressed = false)) then .ramping 9600
    else x.phase := by
  obtain ⟨ph, wish, suppressed, presence, raw, debounce⟩ := x
  cases ph with
  | present c =>
    refine (congrArg Socket.phase (Socket.powerUp_present autoPower ⟨.empty, wish, suppressed, presence, raw, debounce⟩ c)).trans ?_
    refine if_congr ?_ rfl rfl
    rw [SocketPhase.present.injEq]
  | empty | sensing | ramping | powered | fault => exact (if_neg fun h => by cases h.1).symm

theorem serveWake_asleep (asleep : s.standby = true) : serveWake [] s = accept s.leaveStandby := if_pos asleep

/-- The wake before its channels leave PARKED (R167). -/
def State.brightened (s : State) : State :=
  ({ s with
    standby := false
    delay := .silent
    zones := s.zones.map fun _ z => { z with standby := false }
    gates := s.gates.map fun _ g => { g with latest := 240, detector := .fresh }
    sockets := s.sockets.map fun n x => x.powerUp (s.settings.channels.get n).autoPower } : State).retargetClock
      fun j => (s.zones.get j).standby

theorem State.leaveStandby_eq (s : State) : s.leaveStandby = (s.brightened.reEvaluateAll (List.finRange 16)).settle s := rfl

/-- Gates that agree in what neither the arbiter nor the eligibility moves, in their state and in their count, are equal. -/
theorem Gate.eq_of_still {a b : Gate} (still : a.still = b.still) (state : a.state = .parked) (counter : a.holdCounter = 0) :
    a = { b with state := .parked, holdCounter := 0 } := by
  rw [show ({ b with state := .parked, holdCounter := 0 } : Gate) = b.still from rfl, ← still, Gate.still, ← state, ← counter]

end

/-- Settles O28: what each of the two passes through the channels leaves, and the causes and sockets around it. -/
theorem standbyAndWake : Obligations.StandbyAndWake := by
  unfold Obligations.StandbyAndWake
  refine ⟨fun s p ready => ⟨fun asleep => ?_, fun awake law array standby => ?_⟩, fun s p ready => ⟨fun awake => ?_,
    fun asleep law standby => ?_⟩⟩
  · rw [exec_standby ready]
    exact congrArg (fun r : Reply => (.next (r.sentTo p 0x13) : Host.Outcome State Fault Refusal)) (if_pos asleep)
  · have run := exec_standby ready
    rw [serveStandby_awake awake, accept_sentTo] at run
    have after := groupLaw_enterStandby law
    have targets := ((exec_keepsArray run).keeps array).2.1
    have ground := State.enterStandby_ground s
    have quiet : Quiet gateKinds s s.enterStandby := .enterStandby Mix.postsGates_gateKinds
    obtain ⟨parked, empty⟩ := groupLaw_asleep after (by rw [← State.ground_standby, ground])
    have rests (n : Channel) := (groupLaw_gating after).law.gate n
    have only := OnlyCloses.parkIneligible (List.finRange 16) s.dimmed
    have mix := OnlyMix.parkIneligible (List.finRange 16) s.dimmed
    have marked (j : Zone) : (!(s.zones.get j).standby) = true := by rw [standby.1 j, awake]; rfl
    have dimmedGate (n : Channel) : s.dimmed.gates.get n = { s.gates.get n with latest := 240, detector := .fresh } :=
      Table.get_map ..
    have members (g : Group) : (s.dimmed.groups.get g).members = (s.groups.get g).members := by
      rw [State.dimmed, Table.get_map]
    have crosspoints : s.dimmed.crosspoints = s.crosspoints := rfl
    have events : s.dimmed.events = s.events := rfl
    have engine : s.dimmed.engine = s.engine := rfl
    have off : s.dimmed.standby = true := rfl
    rw [State.enterStandby_eq] at *
    generalize s.dimmed = d at *
    generalize d.parkIneligible (List.finRange 16) = u at *
    obtain ⟨flight, flags, -⟩ := Engine.askCounts_frame s.groups u.groups u.engine
    have dead (n : Channel) (j : Zone) (x : Crosspoint) : u.targetOf n j x = none :=
      if_neg fun live => by
        obtain ⟨g, -, -, -, -, -, -, -, -, up⟩ := State.live_iff.mp live
        rw [mix.standby, off] at up
        cases up
    have phase (n : Channel) (j : Zone) : ((u.settleClock s fun j => !(s.zones.get j).standby).crosspoints.get n).get j =
        ((s.crosspoints.get n).get j).retargetClock none := by
      rw [State.settleClock_get]
      simp only [dead, marked, if_true, mix.crosspoints, crosspoints]
    have gates : (u.settleClock s fun j => !(s.zones.get j).standby).gates = u.gates := rfl
    have groups : (u.settleClock s fun j => !(s.zones.get j).standby).groups = u.groups := rfl
    have posts : (u.settleClock s fun j => !(s.zones.get j).standby).events = u.events := rfl
    have asks : (u.settleClock s fun j => !(s.zones.get j).standby).engine = u.engine.askCounts s.groups u.groups := rfl
    generalize (u.settleClock s fun j => !(s.zones.get j).standby) = t at *
    refine ⟨_, run, congrArg (ByPort.set · p _) (congrArg Ground.ports ground), congrArg Ground.standby ground, fun j => ?_,
      fun n => ?_, fun g => ?_, fun n => ?_, targets, fun n j => ?_, fun g some => ⟨?_, ?_⟩, fun q => ?_, ?_, ?_,
      congrArg Ground.settings ground, congrArg Ground.frozen ground, congrArg Ground.delay ground,
      congrArg Ground.override ground, congrArg Ground.clock ground, congrArg Ground.contacts ground⟩
    · exact (congrArg (fun x : Ground => x.zones.get j) ground).trans (Table.get_map ..)
    · have state := parked n
      have counter := (rests n).rests (by rw [show t.mix.gates.get n = t.gates.get n from rfl, state]; decide)
      have still := only.gate n
      rw [← gates] at still
      exact (Gate.eq_of_still still state counter).trans (by rw [dimmedGate]; rfl)
    · have holder := quiet.holder g
      obtain ⟨none, idle⟩ := empty g
      change t.groups.get g = _
      rw [← holder, ← none, ← idle]
    · refine (congrArg (fun x : Ground => x.sockets.get n) ground).trans ((Table.get_map ..).trans ?_)
      generalize s.sockets.get n = x
      obtain ⟨ph, _, _, _, _, _⟩ := x
      cases ph <;> rfl
    · have off := Crosspoint.retargetClock_off (array.1 n j).2.2
      rw [← phase n j] at off
      exact off
    · obtain same | posted := only.closes
      · refine absurd ?_ some
        rw [← members, ← same, ← groups]
        exact (empty g).1
      · exact fun q => (congrArg (fun e : ByPort PortEvents => (e.get q).sticky &&& _) posts).trans (posted q)
    · have counts : (s.groups.get g).openCount ≠ (u.groups.get g).openCount := by
        rw [← groups, GroupState.openCount, GroupState.openCount, (empty g).1]
        exact fun same => some (List.length_eq_zero_iff.mp same)
      have asked := Engine.asks_of_moved counts u.engine
      rw [← asks] at asked
      exact asked
    · have within := only.within q
      rw [← posts, events] at within
      exact within
    · refine (congrArg Engine.aligned asks).trans (flags.trans ?_)
      rw [mix.engine, engine]
    · refine (congrArg Engine.flight asks).trans (flight.trans ?_)
      rw [mix.engine, engine]
  · rw [exec_wake ready]
    exact congrArg (fun r : Reply => (.next (r.sentTo p 0x14) : Host.Outcome State Fault Refusal))
      (if_neg (by rw [awake]; exact Bool.false_ne_true))
  · have run := exec_wake ready
    rw [serveWake_asleep asleep, accept_sentTo] at run
    have ground := State.leaveStandby_ground s
    have quiet : Quiet gateKinds s s.leaveStandby := .leaveStandby Mix.postsGates_gateKinds
    obtain ⟨parked, empty⟩ := groupLaw_asleep law asleep
    have lit (n : Channel) : s.brightened.gates.get n = { s.gates.get n with latest := 240, detector := .fresh } :=
      Table.get_map ..
    have resting : GroupLaw { s with gates := s.brightened.gates } := by
      refine groupLaw_of_parked (fun n => ?_) empty fun n able => ?_
      · have state := parked n
        have counter := ((groupLaw_gating law).law.gate n).rests
          (by rw [show s.mix.gates.get n = s.gates.get n from rfl, state]; decide)
        dsimp only
        rw [lit]
        exact ⟨state, counter⟩
      · obtain ⟨-, -, -, -, up⟩ := (State.eligible_iff _ _).mp able
        rw [show s.standby = false from up] at asleep
        cases asleep
    have down (n : Channel) : (s.brightened.gates.get n).state = .parked := by
      rw [lit]
      exact parked n
    have eligible (n : Channel) (up : (s.brightened.gates.get n).state ≠ .parked) : s.brightened.eligible n = true :=
      absurd (down n) up
    have stands : s.brightened.mix = State.mix { s with gates := s.brightened.gates } := rfl
    obtain ⟨gating, -⟩ := State.reEvaluateAll_gating (s := { s with gates := s.brightened.gates }) resting stands rfl (fun _ => rfl)
      eligible
    have raised (n : Channel) := State.reEvaluateAll_up (s := { s with gates := s.brightened.gates }) resting stands rfl
      (fun _ => rfl) eligible (n := n) (down n)
    have still (n : Channel) := State.reEvaluateAll_gate (List.finRange 16) s.brightened n
    have mix := OnlyMix.reEvaluateAll (List.finRange 16) s.brightened
    have able := State.reEvaluateAll_eligible s.brightened (List.finRange 16)
    have engine : s.brightened.engine = s.engine := rfl
    rw [State.leaveStandby_eq] at *
    generalize s.brightened = d at *
    generalize d.reEvaluateAll (List.finRange 16) = u at *
    obtain ⟨flight, flags, -⟩ := Engine.askCounts_frame s.groups u.groups u.engine
    have gates : (u.settle s).gates = u.gates := rfl
    have asks : (u.settle s).engine = u.engine.askCounts s.groups u.groups := rfl
    have able' (n : Channel) : (u.settle s).eligible n = d.eligible n := able n
    have aligned : u.engine.aligned = s.engine.aligned := by rw [mix.engine, engine]
    have flagged : d.engine.aligned = s.engine.aligned := by rw [engine]
    generalize u.settle s = t at *
    refine ⟨_, run, congrArg (ByPort.set · p _) (congrArg Ground.ports ground), congrArg Ground.standby ground, fun j => ?_,
      congrArg Ground.delay ground, fun n => ?_, fun n => ?_, fun n => ⟨fun parked both => ?_, fun not => ?_⟩,
      fun n up free => ?_, ?_, ?_, fun q => quiet.sticky q, congrArg Ground.settings ground, congrArg Ground.frozen ground,
      congrArg Ground.override ground, congrArg Ground.clock ground, congrArg Ground.contacts ground⟩
    · exact (congrArg (fun x : Ground => x.zones.get j) ground).trans (Table.get_map ..)
    · refine (congrArg (fun x : Ground => (x.sockets.get n).phase) ground).trans ?_
      exact (congrArg Socket.phase (Table.get_map ..)).trans (Socket.powerUp_phase _ _)
    · have same := still n
      rw [lit, ← gates] at same
      have latest := congrArg Gate.latest same
      have detector := congrArg Gate.detector same
      have station := congrArg Gate.station same
      have mode := congrArg Gate.mode same
      exact ⟨latest, detector, station, mode⟩
    · obtain ⟨eligible', aligned'⟩ := both
      have rests : (u.gates.get n).state = .parked := gates ▸ parked
      exact gating.awake n ((able n).trans ((able' n).symm.trans eligible')) (by rw [aligned]; exact aligned') rests
    · by_contra up
      have out : (u.gates.get n).state ≠ .parked := gates ▸ up
      obtain ⟨eligible', aligned', -⟩ := raised n out
      exact not ⟨(able' n).trans eligible', flagged ▸ aligned'⟩
    · have out : (u.gates.get n).state ≠ .parked := gates ▸ up
      obtain ⟨-, -, closed, -⟩ := raised n out
      have mode := congrArg Gate.mode (lit n)
      have shut : (u.gates.get n).state = .closed := closed fun forced => free (mode.symm.trans forced)
      rw [← gates] at shut
      exact shut
    · exact (congrArg Engine.aligned asks).trans (flags.trans aligned)
    · refine (congrArg Engine.flight asks).trans (flight.trans ?_)
      rw [mix.engine, engine]

end Sys2Proof.Machine
end

section
/-! PROOFS. MEMBERSHIP writes: what they answer, and what a zone's does (R107, R108). -/

namespace Sys2Proof.Machine

open Sys2Proof.Safety

variable {s : State} {p : Port}

/-- Nothing is held elsewhere for the port that alone holds groups (R124). -/
theorem heldElsewhere_of_own (own : ∀ g, (s.groups.get g).holder ≠ none → (s.groups.get g).holder = some p) (x : Option Group) :
    heldElsewhere s.groups p x = false := by
  cases x with
  | none => rfl
  | some g =>
    cases held : (s.groups.get g).holder with
    | none => simp only [heldElsewhere, held]
    | some q =>
      have same := own g (by rw [held]; exact Option.some_ne_none q)
      rw [held, Option.some.injEq] at same
      rw [heldElsewhere_some held, same, bne_self_eq_false]

theorem numberedOrNone_of_number {n : Nat} (i : Fin n) : numberedOrNone n (i.val + 1) = some (some i) := by
  have number : numbered n (i.val + 1) = some i := by
    rw [numbered, dif_pos ⟨Nat.le_add_left 1 _, i.isLt⟩]
    rfl
  rw [numberedOrNone, if_neg (Nat.succ_ne_zero _), number]
  rfl

theorem numberedOrNone_numberOf_group (x : Option Group) : numberedOrNone 6 (numberOf x).toNat = some x := by
  cases x with
  | none => rfl
  | some g =>
    have number : (numberOf (some g)).toNat = g.val + 1 :=
      Nat.mod_eq_of_lt (show g.val + 1 < 2 ^ 8 by have := g.isLt; omega)
    rw [number, numberedOrNone_of_number]

section
variable {index : BitVec 16} {i : Nat} {k : Arrangement} {x : Zone ⊕ Channel} {v : Byte}

theorem exec_writeEntryMembership {e : List Byte} (h : Ready s p 0x02 (writeBody 5 index e)) :
    exec (.writeEntryMembership p index e) s = .next ((serveWriteMembership p index e s).sentTo p 0x02) := occur_request h

/-- The entry that an index of the MEMBERSHIP table names (R103). -/
structure NamesMembership (index : BitVec 16) (k : Arrangement) (x : Zone ⊕ Channel) : Prop where
  named : ∃ h : index.toNat < 160, membershipAt ⟨index.toNat, h⟩ = (k, x)

theorem namesMembership_zone (k : Arrangement) (j : Zone) : NamesMembership (BitVec.ofNat 16 (k.val * 40 + j.val)) k (.inl j) := by
  have within : k.val * 40 + j.val < 160 := by have := k.isLt; have := j.isLt; omega
  have number : (BitVec.ofNat 16 (k.val * 40 + j.val)).toNat = k.val * 40 + j.val := Nat.mod_eq_of_lt (by omega)
  refine ⟨by rw [number]; exact within, ?_⟩
  simp only [number]
  exact membershipAt_zone k j within

theorem namesMembership_channel (k : Arrangement) (n : Channel) :
    NamesMembership (BitVec.ofNat 16 (k.val * 40 + 24 + n.val)) k (.inr n) := by
  have within : k.val * 40 + 24 + n.val < 160 := by have := k.isLt; have := n.isLt; omega
  have number : (BitVec.ofNat 16 (k.val * 40 + 24 + n.val)).toNat = k.val * 40 + 24 + n.val := Nat.mod_eq_of_lt (by omega)
  refine ⟨by rw [number]; exact within, ?_⟩
  simp only [number]
  exact membershipAt_channel k n within

/-- What a MEMBERSHIP write answers once its entry is found (R107). -/
theorem serveWriteMembership_named (names : NamesMembership index k x) (v : Byte) : serveWriteMembership p index [v] s =
    if k = s.settings.active ∧ (heldElsewhere s.groups p (s.settings.membership k x) ∨
        heldElsewhere s.groups p (numberedOrNone 6 v.toNat).join) then refuse s .heldElsewhere
    else match numberedOrNone 6 v.toNat with
      | none => refuse s .badValue
      | some g => accept (s.storeMembership k x g) := by
  obtain ⟨within, entry⟩ := names.named
  rw [serveWriteMembership, writeEntry_of_some (entry := [v]) (size := 1) (i := ⟨index.toNat, within⟩) rfl
    (by rw [indexed, dif_pos within]), entry]
  rfl

/-- A write is refused where another port holds the old group or the new (R107, R124). -/
theorem serveWriteMembership_held (names : NamesMembership index k x) (active : k = s.settings.active)
    (held : ∃ g q, q ≠ p ∧ (s.groups.get g).holder = some q ∧ (s.settings.membership k x = some g ∨ v.toNat = g.val + 1)) :
    serveWriteMembership p index [v] s = refuse s .heldElsewhere := by
  obtain ⟨g, q, other, holder, named⟩ := held
  have elsewhere : heldElsewhere s.groups p (some g) = true := by
    rw [heldElsewhere_some holder, bne_iff_ne]
    exact other
  refine (serveWriteMembership_named names v).trans (if_pos ⟨active, ?_⟩)
  obtain old | new := named
  · exact .inl (old ▸ elsewhere)
  · refine .inr ?_
    rw [new, numberedOrNone_of_number]
    exact elsewhere

theorem serveWriteMembership_value (names : NamesMembership index k x)
    (free : k ≠ s.settings.active ∨ heldElsewhere s.groups p (s.settings.membership k x) = false) (beyond : 6 < v.toNat) :
    serveWriteMembership p index [v] s = refuse s .badValue := by
  have none : numberedOrNone 6 v.toNat = none := by
    rw [numberedOrNone, if_neg (by omega), numbered_eq_none.mpr (.inr beyond)]
    rfl
  rw [serveWriteMembership_named names, none, if_neg]
  rintro ⟨active, held | held⟩
  · obtain other | free := free
    · exact other active
    · rw [free] at held
      cases held
  · cases held

theorem serveWriteMembership_free (names : NamesMembership index k x)
    (own : ∀ g, (s.groups.get g).holder ≠ none → (s.groups.get g).holder = some p) (y : Option Group) :
    serveWriteMembership p index [numberOf y] s = accept (s.storeMembership k x y) := by
  rw [serveWriteMembership_named names, numberedOrNone_numberOf_group, heldElsewhere_of_own own, heldElsewhere_of_own own,
    if_neg (by rintro ⟨-, h | h⟩ <;> cases h)]

end

theorem State.storeMembership_stored {k : Arrangement} {x : Zone ⊕ Channel} {y : Option Group}
    (quiet : k ≠ s.settings.active ∨ y = s.settings.membership k x) :
    s.storeMembership k x y = s.onSettings (Settings.setMembership k x y) := if_pos quiet

/-! ### A zone's change of group -/

/-- A zone's group moves the live test of its own crosspoints alone (R62, R108). -/
theorem State.live_regrouped (j : Zone) (y : Option Group) (n : Channel) {i : Zone} (other : i ≠ j) :
    (s.onSettings (Settings.setMembership s.settings.active (.inl j) y)).live n i = s.live n i := by
  have group : (s.onSettings (Settings.setMembership s.settings.active (.inl j) y)).settings.zoneGroup i =
      s.settings.zoneGroup i := by
    change (((s.settings.zoneGroups.modify s.settings.active fun t => t.set j y).get s.settings.active).get i) = _
    rw [Table.get_modify_self, Table.get_set_other _ _ (Ne.symm other)]
    rfl
  unfold State.live
  rw [group]
  rfl

theorem storeMembership_zone (law : TargetLaw s) (j : Zone) (y : Option Group) :
    ∃ x, s.storeMembership s.settings.active (.inl j) y =
        { s with settings := Settings.setMembership s.settings.active (.inl j) y s.settings, crosspoints := x } ∧
      TargetLaw (s.storeMembership s.settings.active (.inl j) y) ∧ ∀ n i, i ≠ j → (x.get n).get i = (s.crosspoints.get n).get i := by
  set stored := s.onSettings (Settings.setMembership s.settings.active (.inl j) y)
  have fixed (n : Channel) {i : Zone} (other : i ≠ j) : stored.targetOf n i ((s.crosspoints.get n).get i) =
      ((s.crosspoints.get n).get i).target := by
    rw [law n i, State.targetOf, State.live_regrouped j y n other]
    rfl
  by_cases same : y = s.settings.membership s.settings.active (.inl j)
  · refine ⟨s.crosspoints, State.storeMembership_stored (.inr same), ?_, fun _ _ _ => rfl⟩
    rw [State.storeMembership_stored (.inr same)]
    refine targetLaw_of_live law rfl fun n i => ?_
    by_cases at_ : i = j
    · subst at_
      have group : stored.settings.zoneGroup i = s.settings.zoneGroup i := by
        change (((s.settings.zoneGroups.modify s.settings.active fun t => t.set i y).get s.settings.active).get i) = _
        rw [Table.get_modify_self, Table.get_set_self, same]
        rfl
      unfold State.live
      rw [group]
      rfl
    · exact State.live_regrouped j y n at_
  · have moved : s.storeMembership s.settings.active (.inl j) y = stored.settle s :=
      if_neg fun quiet => quiet.elim (fun other => other rfl) same
    have asks : stored.askCounts s = stored := by
      rw [State.askCounts, Engine.askCounts_of_same (a := s.groups) (b := stored.groups) stored.engine fun g => rfl]
    rw [moved]
    refine ⟨stored.retarget.crosspoints, ?_, targetLaw_settle _ _, fun n i other => ?_⟩
    · rw [State.settle, asks]
      rfl
    · rw [State.retarget_crosspoints, Table.get_map, Table.get_map]
      exact Crosspoint.retarget_of_same _ (fixed n other)

end Sys2Proof.Machine
end

section
/-! PROOFS. A channel's change of group in the active arrangement (R109). -/

namespace Sys2Proof.Machine

open Sys2Proof.Safety

namespace Mix

section
variable {grp : Channel → Option Group} {ok due : Channel → Prop} {m m' : Mix} {n : Channel} {g : Group} {c : Settings}
  {maxOpen : Nat}

/-! ### Leaving the old group -/

theorem leaveOldGroup_of_none (out : memberGroup m.groups n = none) : m.leaveOldGroup c n = m.unwait n :=
  if_neg (by rw [out]; exact Bool.false_ne_true)

theorem leaveOldGroup_of_some (inside : memberGroup m.groups n = some g) : m.leaveOldGroup c n = m.leave c n .closed :=
  if_pos (by rw [inside]; rfl)

/-- What a channel's exit from its old group leaves (R109, steps 1 and 2): the groups it was not of, its own gate, and that
it is in no set and on no list. -/
theorem Law.leftOldGroup (law : m.Law grp ok due) (fits : AllFit c m) (n : Channel) :
    (∀ g, grp n ≠ some g → (m.leaveOldGroup c n).groups.get g = m.groups.get g) ∧
      memberGroup (m.leaveOldGroup c n).groups n = none ∧ (∀ g, n ∉ ((m.leaveOldGroup c n).groups.get g).waiting) ∧
      ((m.gates.get n).state = .parked → ((m.leaveOldGroup c n).gates.get n).state = .parked) ∧
      ((m.gates.get n).state ≠ .parked → ((m.leaveOldGroup c n).gates.get n).state = .closed) := by
  cases found : memberGroup m.groups n with
  | none =>
    have silent : sounding (m.gates.get n).state = false := law.memberGroup_eq_none_iff.mp found
    rw [leaveOldGroup_of_none found]
    refine ⟨fun g other => ?_, ?_, unlisted_unwait m n, fun parked => parked, fun up => closed_of_silent silent up⟩
    · have absent : n ∉ (m.groups.get g).waiting := fun listed => other (law.waits g n listed).2.2
      rw [unwait_groups_get, filter_waiting_of_not_mem absent]
    · refine (memberGroup_eq_none _ _).mpr fun g y member => (memberGroup_eq_none _ _).mp found g y ?_
      rw [unwait_groups_get] at member
      exact member
  | some g =>
    obtain ⟨y, member, rfl⟩ := holds_of_memberGroup found
    have own := law.own g y member
    have sounds := law.sounds g y member
    obtain ⟨gate, gone, -⟩ := law.leave_outcome fits (GateChanged.refl m y.channel) found .closed
    rw [leaveOldGroup_of_some found]
    have unlisted (h : Group) : y.channel ∉ (m.groups.get h).waiting := law.not_mem_waiting (fun closed => by
      rw [closed] at sounds
      cases sounds) h
    have elsewhere : ∃ members waiting, (m.leave c y.channel .closed).groups =
        m.groups.set g ⟨(m.groups.get g).holder, members, waiting⟩ ∧ (y.channel ∉ waiting) := by
      cases list : (m.groups.get g).waiting with
      | nil =>
        rw [law.leave_alone (GateChanged.refl m _) found list]
        exact ⟨_, _, rfl, by rw [list]; exact List.not_mem_nil⟩
      | cons w rest =>
        obtain ⟨-, eq⟩ := law.leave_next (GateChanged.refl m _) (fits g) found list .closed
        rw [eq]
        refine ⟨_, _, rfl, fun listed => unlisted g ?_⟩
        rw [list]
        exact List.mem_cons_of_mem w listed
    obtain ⟨members, waiting, groups, fresh⟩ := elsewhere
    refine ⟨fun h other => ?_, gone, fun h => ?_, fun parked => ?_, fun _ => by rw [gate]; rfl⟩
    · rw [groups, Table.get_set_other]
      rintro rfl
      exact other own
    · rw [groups]
      by_cases same : g = h
      · subst same
        rw [Table.get_set_self]
        exact fresh
      · rw [Table.get_set_other _ _ same]
        exact unlisted h
    · rw [parked] at sounds
      cases sounds

/-! ### The forced ask, case by case -/

/-- A forced ask enters, with or without a member that makes way, or waits (R114 to R116). -/
theorem Asked.cases (asked : m.Asked maxOpen m' g n)
    (alone : ∀ y ∈ (m.groups.get g).members, (m.gates.get y.channel).state = .lastOn → (m.groups.get g).members = [y]) :
    (∃ v ∈ (m.groups.get g).members, v.channel ≠ n ∧ m' =
      ⟨(m.gates.set v.channel ((m.gates.get v.channel).put .closed)).set n ((m.gates.get n).put .opened),
        m.groups.set g { m.groups.get g with
          members := without v.channel (m.groups.get g).members ++ [m.recordOf n .forced] }, m.posted ||| gateKinds⟩) ∨
    m' = ⟨m.gates.set n ((m.gates.get n).put .opened),
      m.groups.set g { m.groups.get g with members := (m.groups.get g).members ++ [m.recordOf n .forced] },
      m.posted ||| EventKind.gateOpened.mask⟩ ∨
    m' = ⟨m.gates, m.groups.set g { m.groups.get g with waiting := (m.groups.get g).waiting ++ [n] }, m.posted⟩ := by
  by_cases last : ∃ y ∈ (m.groups.get g).members, (m.gates.get y.channel).state = .lastOn
  · obtain ⟨y, member, lastOn⟩ := last
    have only := alone y member lastOn
    obtain ⟨apart, eq⟩ := asked.beside y only lastOn
    refine .inl ⟨y, member, apart, eq.trans ?_⟩
    rw [only, show without y.channel [y] = [] by simp [without]]
    rfl
  · have quiet : ∀ y ∈ (m.groups.get g).members, (m.gates.get y.channel).state ≠ .lastOn :=
      fun y member lastOn => last ⟨y, member, lastOn⟩
    by_cases room : (m.groups.get g).members.length < maxOpen
    · exact .inr (.inl (asked.room quiet room))
    · have full := Nat.le_of_not_lt room
      cases found : quietest (m.groups.get g).members with
      | none => exact .inr (.inr (asked.waits full (kind_of_quietest_none found)))
      | some v =>
        obtain ⟨apart, eq⟩ := asked.bump quiet full v found
        exact .inl ⟨v, (quietest_some found).1, apart, eq⟩

end

end Mix

/-! ### The steps after the exit -/

section
variable {s u : State} {n : Channel} {k : EventKind}

/-- What is posted stays posted. -/
theorem postedToAll_postMask (posted : PostedToAll k s) (kinds : EventMask) : PostedToAll k (s.postMask kinds) := fun p => by
  rw [postMask_sticky]
  ext i bound
  have at_i : ((s.events.get p).sticky[i] && k.mask[i]) = k.mask[i] := by rw [← BitVec.getElem_and, posted p]
  rw [BitVec.getElem_and, BitVec.getElem_or, Bool.and_or_distrib_right, at_i, Bool.or_eq_left_iff_imp]
  exact fun both => (Bool.and_eq_true_iff.mp both).2

/-- A channel of no set and on no list, and not ALIGNED, is parked by its re-evaluation where it is not eligible, and
nothing else comes of it (R85). -/
theorem State.reEvaluate_apart (out : memberGroup u.groups n = none) (unlisted : ∀ g, n ∉ (u.groups.get g).waiting)
    (unaligned : u.engine.aligned.get n = false) : u.reEvaluate n =
      if u.eligible n = true ∨ (u.gates.get n).state = .parked then u
      else { u with gates := u.gates.set n ((u.gates.get n).put .parked) } := by
  by_cases able : u.eligible n = true
  · rw [if_pos (.inl able), State.reEvaluate, if_pos able, if_neg fun both => by rw [unaligned] at both; cases both.2]
  · by_cases parked : (u.gates.get n).state = .parked
    · rw [if_pos (.inr parked), State.reEvaluate, if_neg able, if_pos parked]
    · have left : u.mix.leave u.settings n .parked = ⟨u.gates.set n ((u.gates.get n).put .parked), u.groups, 0⟩ := by
        have same : u.mix.unwait n = u.mix := Mix.Law.unwait_eq_self unlisted
        rw [Mix.leave_of_none _ out, same]
        rfl
      rw [if_neg (by rintro (h | h); exacts [able h, parked h]), State.reEvaluate, if_neg able, if_neg parked, State.onMix,
        left]
      exact State.postMask_zero _

/-- What the last two steps of a change of group leave, from the state `u` in which Mn is in no set, on no list and not ALIGNED
(R109, steps 3 and 4). -/
structure Readmitted (u v : State) (n : Channel) : Prop where
  groups : ∀ g, u.settings.channelGroup n ≠ some g → v.groups.get g = u.groups.get g
  free : (u.gates.get n).mode ≠ .forceOpen → v.groups = u.groups
  gates : ∀ k, k ≠ n → (∀ g, u.settings.channelGroup n = some g → ∀ y ∈ (u.groups.get g).members, y.channel ≠ k) →
    v.gates.get k = u.gates.get k
  parked : (u.gates.get n).state = .parked → (v.gates.get n).state = .parked
  closed : (u.gates.get n).state = .closed → u.eligible n = true → (u.gates.get n).mode ≠ .forceOpen →
    (v.gates.get n).state = .closed
  forced : (u.gates.get n).state = .closed → u.eligible n = true → (u.gates.get n).mode = .forceOpen →
    ∀ g, u.settings.channelGroup n = some g →
      ((v.groups.get g).holds n = true ∧ PostedToAll .gateOpened v) ∨ n ∈ (v.groups.get g).waiting
  keeps : ∀ k, PostedToAll k u → PostedToAll k v
  engine : v.engine = u.engine

theorem State.readmitted_eligible (u : State) (n : Channel) :
    ((u.reEvaluate n).onMix (Mix.askIfForced u.settings n)).eligible n = u.eligible n :=
  (State.onMix_eligible n (Mix.Frame.station (kinds := EventMask.kinds)
    (.ite ((Mix.Frame.refl _ _).askForced Mix.postsGates_all _ n) (.refl _ _)) n)).trans (u.reEvaluate_eligible n n)

theorem State.readmitted_mode (u : State) (n : Channel) :
    (((u.reEvaluate n).onMix (Mix.askIfForced u.settings n)).gates.get n).mode = (u.gates.get n).mode := by
  have asked : Mix.Frame EventMask.kinds (u.reEvaluate n).mix ((u.reEvaluate n).mix.askIfForced u.settings n) :=
    .ite ((Mix.Frame.refl _ _).askForced Mix.postsGates_all _ n) (.refl _ _)
  have evaluated := congrArg Gate.mode (u.reEvaluate_gate n n)
  exact (asked.mode n).trans evaluated

theorem sameBuilding_setPort {s t : State} (same : SameBuilding s t) (p : Port) (h : Handler) :
    SameBuilding s (t.setPort p h) :=
  ⟨same.held, same.frozen, same.sockets, same.zones, same.override, same.clock, same.standby, same.contacts,
    same.announcement, same.feeds, same.pending⟩

theorem State.readmitted {ok due : Channel → Prop} (law : u.mix.Law u.settings.channelGroup ok due)
    (out : memberGroup u.groups n = none) (unlisted : ∀ g, n ∉ (u.groups.get g).waiting)
    (unaligned : u.engine.aligned.get n = false) :
    Readmitted u ((u.reEvaluate n).onMix (Mix.askIfForced u.settings n)) n := by
  have silent : sounding (u.mix.gates.get n).state = false := law.memberGroup_eq_none_iff.mp out
  have absent (v : State) (state : (v.gates.get n).state ≠ .closed ∨ (v.gates.get n).mode ≠ .forceOpen) :
      v.onMix (Mix.askIfForced u.settings n) = v := by
    have same : v.mix.askIfForced u.settings n = v.mix := if_neg fun ⟨closed, forced⟩ => by
      obtain h | h := state
      · exact h closed
      · exact h forced
    rw [State.onMix, same]
    exact State.postMask_zero _
  rw [State.reEvaluate_apart out unlisted unaligned]
  by_cases stays : u.eligible n = true ∨ (u.gates.get n).state = .parked
  · rw [if_pos stays]
    by_cases asks : (u.gates.get n).state = .closed ∧ (u.gates.get n).mode = .forceOpen
    · obtain ⟨closed, forced⟩ := asks
      have able := stays.resolve_right (by rw [closed]; decide)
      obtain ⟨⟨g, own, -⟩, -⟩ := (State.eligible_iff u n).mp able
      have asked := law.asked (g := g) (maxOpen := (u.settings.groupRecord g).maxOpen) (Mix.GateChanged.refl _ n) silent unlisted
      rw [← Mix.askForced_of_group _ own] at asked
      have step : u.mix.askIfForced u.settings n = u.mix.askForced u.settings n := if_pos ⟨closed, forced⟩
      have cases_ := asked.cases (fun y member lastOn => law.lastOn g y member lastOn)
      obtain ⟨members, waiting, near⟩ := asked.near
      rw [State.onMix, step]
      generalize u.mix.askForced u.settings n = m at *
      refine ⟨fun h other => ?_, fun free => absurd forced free, fun k apart elsewhere => ?_, fun parked => ?_,
        fun _ _ free => absurd forced free, fun _ _ _ h same => ?_, fun k posted => postedToAll_postMask posted _, rfl⟩
      · have apart : g ≠ h := fun same => other (same ▸ own)
        exact (congrArg (·.get h) near).trans (Table.get_set_other _ _ apart)
      · change m.gates.get k = _
        obtain ⟨v, member, -, eq⟩ | eq | eq := cases_
        · rw [eq, Table.get_set_other _ _ (Ne.symm apart), Table.get_set_other _ _ (elsewhere g own v member)]
          rfl
        · rw [eq, Table.get_set_other _ _ (Ne.symm apart)]
          rfl
        · rw [eq]
          rfl
      · rw [closed] at parked
        cases parked
      · rw [own, Option.some.injEq] at same
        subst same
        have entered (members : List Member) (kinds : EventMask)
            (inside : kinds &&& EventKind.gateOpened.mask = EventKind.gateOpened.mask) (gates : Table 16 Gate)
            (eq : m = ⟨gates, u.mix.groups.set g { u.mix.groups.get g with members := members ++ [u.mix.recordOf n .forced] },
              u.mix.posted ||| kinds⟩) :
            ((u.withMix m).groups.get g).holds n = true ∧ PostedToAll .gateOpened (u.withMix m) := by
          refine ⟨(GroupState.holds_iff _ _).mpr ⟨u.mix.recordOf n .forced, ?_, rfl⟩,
            postedToAll_of_postMask (s := u) (posted := kinds) ?_ inside⟩
          · change _ ∈ (m.groups.get g).members
            rw [eq, Table.get_set_self]
            exact List.mem_append_right _ (List.mem_singleton_self _)
          · have posted : m.posted = kinds := by
              rw [eq]
              exact BitVec.zero_or
            rw [State.withMix, posted]
            rfl
        obtain ⟨v, -, -, eq⟩ | eq | eq := cases_
        · exact .inl (entered _ _ rfl _ eq)
        · exact .inl (entered _ _ rfl _ eq)
        · refine .inr ?_
          change n ∈ (m.groups.get g).waiting
          rw [eq, Table.get_set_self]
          exact List.mem_append_right _ (List.mem_singleton_self n)
    · rw [absent u (not_and_or.mp asks)]
      exact ⟨fun _ _ => rfl, fun _ => rfl, fun _ _ _ => rfl, id, fun closed _ _ => closed,
        fun closed _ forced => absurd ⟨closed, forced⟩ asks, fun _ posted => posted, rfl⟩
  · have unable : ¬u.eligible n = true := fun able => stays (.inl able)
    rw [if_neg stays, absent]
    · refine ⟨fun _ _ => rfl, fun _ => rfl, fun k apart _ => Table.get_set_other _ _ (Ne.symm apart),
        fun parked => absurd (.inr parked) stays, fun _ able => absurd able unable, fun _ able => absurd able unable,
        fun _ posted => posted, rfl⟩
    · left
      rw [Table.get_set_self]
      exact nofun

end

/-! ### The whole write -/

section
variable {s : State} {n : Channel} {x : Option Group}

/-- The settings with a channel's new group in the active arrangement. -/
def Settings.regrouped (n : Channel) (x : Option Group) (c : Settings) : Settings := c.setMembership c.active (.inr n) x

theorem Settings.regrouped_self (c : Settings) (n : Channel) (x : Option Group) : (c.regrouped n x).channelGroup n = x := by
  change (((c.channelGroups.modify c.active fun t => t.set n x).get c.active).get n) = x
  rw [Table.get_modify_self, Table.get_set_self]

theorem Settings.regrouped_other (c : Settings) (x : Option Group) {n k : Channel} (other : k ≠ n) :
    (c.regrouped n x).channelGroup k = c.channelGroup k := by
  change (((c.channelGroups.modify c.active fun t => t.set n x).get c.active).get k) = _
  rw [Table.get_modify_self, Table.get_set_other _ _ (Ne.symm other)]
  rfl

/-- The state once a channel has left its old group, its GROUP item is asked and its own (R109, steps 1 and 2). -/
def State.leftGroup (n : Channel) (x : Option Group) (s : State) : State :=
  (((s.onSettings (Settings.regrouped n x)).onMix (Mix.leaveOldGroup (s.settings.regrouped n x) n)).askCounts
    (s.onSettings (Settings.regrouped n x))).askChannel n

theorem State.storeMembership_moved (moves : x ≠ s.settings.channelGroup n) :
    s.storeMembership s.settings.active (.inr n) x =
      (((s.leftGroup n x).reEvaluate n).onMix (Mix.askIfForced (s.leftGroup n x).settings n)).settle s :=
  if_neg fun quiet => quiet.elim (fun other => other rfl) moves

/-- What the exit from the old group leaves (R94, R109, R115). -/
structure LeftGroup (s u : State) (n : Channel) : Prop where
  law : u.mix.Law u.settings.channelGroup (fun k => s.eligible k = true) fun k => True ∧ k ≠ n
  out : memberGroup u.groups n = none
  unlisted : ∀ g, n ∉ (u.groups.get g).waiting
  elsewhere : ∀ g, s.settings.channelGroup n ≠ some g → u.groups.get g = s.groups.get g
  parked : (s.gates.get n).state = .parked → (u.gates.get n).state = .parked
  closed : (s.gates.get n).state ≠ .parked → (u.gates.get n).state = .closed
  mode : (u.gates.get n).mode = (s.gates.get n).mode
  waiting : ∀ g, s.settings.channelGroup n = some g → (s.groups.get g).holds n = false →
    SetIs u g (s.groups.get g).members ((s.groups.get g).waiting.filter fun w => w != n)
  member : ∀ g, (s.groups.get g).holds n = true → PostedToAll .gateClosed u ∧
    ((s.groups.get g).waiting = [] → SetIs u g (without n (s.groups.get g).members) []) ∧
    ∀ w rest, (s.groups.get g).waiting = w :: rest →
      SetIs u g (without n (s.groups.get g).members ++ [forcedRecord s w]) rest ∧ GateIn u w .opened ∧ w ≠ n ∧
        PostedToAll .gateOpened u

theorem State.leftGroup_left (law : GroupLaw s) (n : Channel) (x : Option Group) : LeftGroup s (s.leftGroup n x) n := by
  have sets := (groupLaw_gating law).law
  have fit : Mix.AllFit (s.settings.regrouped n x) s.mix := groupLaw_fit law
  have moves (k : Channel) (other : k ≠ n) := s.settings.regrouped_other x other
  obtain ⟨next, -⟩ := sets.leaveOldGroup (n := n) fit moves
  obtain ⟨elsewhere, out, unlisted, parked, closed⟩ := sets.leftOldGroup fit n
  have frame : Mix.Frame EventMask.kinds s.mix (s.mix.leaveOldGroup (s.settings.regrouped n x) n) :=
    .ite ((Mix.Frame.refl _ _).leave Mix.postsGates_all _ n _) ((Mix.Frame.refl _ _).unwait n)
  have events : (s.leftGroup n x).events = ((s.onSettings (Settings.regrouped n x)).postMask
    (s.mix.leaveOldGroup (s.settings.regrouped n x) n).posted).events := rfl
  refine {
    law := { next with }
    out, unlisted, elsewhere, parked, closed
    mode := frame.mode n
    waiting := fun g own absent => ?_
    member := fun g holds => ?_ }
  · have none : memberGroup s.mix.groups n = none := (memberGroup_eq_none _ _).mpr fun h y member same => by
      have mine := sets.own h y member
      rw [same, own, Option.some.injEq] at mine
      subst mine
      have holds : (s.groups.get g).holds n = true := (GroupState.holds_iff _ _).mpr ⟨y, member, same⟩
      rw [holds] at absent
      cases absent
    have groups : (s.leftGroup n x).groups = (s.mix.unwait n).groups :=
      congrArg Mix.groups (Mix.leaveOldGroup_of_none (c := s.settings.regrouped n x) none)
    rw [SetIs, groups, Mix.unwait_groups_get]
    exact ⟨rfl, rfl⟩
  · obtain ⟨y, member, rfl⟩ := (GroupState.holds_iff _ _).mp holds
    have found := sets.memberGroup_eq member
    have left := Mix.leaveOldGroup_of_some (c := s.settings.regrouped y.channel x) found
    obtain ⟨-, -, ⟨kinds, posted, inside, -⟩, -⟩ := sets.leave_outcome fit (Mix.GateChanged.refl _ y.channel) found .closed
    refine ⟨postedToAll_of_postMask events ?_, fun empty => ?_, fun w rest list => ?_⟩
    · rw [left, posted]
      exact (congrArg (· &&& _) BitVec.zero_or).trans inside
    · have groups : (s.leftGroup y.channel x).groups = _ := congrArg Mix.groups
        (left.trans (sets.leave_alone (Mix.GateChanged.refl _ _) found empty .closed))
      rw [SetIs, groups, Table.get_set_self]
      exact ⟨rfl, empty⟩
    · obtain ⟨apart, eq⟩ := sets.leave_next (Mix.GateChanged.refl _ _) (fit g) found list .closed
      have whole := left.trans eq
      have groups : (s.leftGroup y.channel x).groups = _ := congrArg Mix.groups whole
      have gates : (s.leftGroup y.channel x).gates = _ := congrArg Mix.gates whole
      refine ⟨?_, ?_, Ne.symm apart, postedToAll_of_postMask events ?_⟩
      · rw [SetIs, groups, Table.get_set_self]
        exact ⟨rfl, rfl⟩
      · rw [GateIn, gates, Table.get_set_self]
        exact ⟨rfl, rfl⟩
      · rw [whole]
        exact congrArg (· &&& _) BitVec.zero_or

end

/-- Settles O14: the answers, entry by entry; a zone's change of group; a channel's, in its two halves. -/
theorem membershipWrites : Obligations.MembershipWrites := by
  unfold Obligations.MembershipWrites
  refine ⟨fun s p k => ⟨fun j v => ?_, fun n v => ?_, fun j x => ?_, fun n x => ?_⟩, fun s p n x => ?_⟩
  · intro index ready
    refine ⟨fun active held => ?_, fun free beyond => ?_⟩
    · rw [exec_writeEntryMembership ready, serveWriteMembership_held (namesMembership_zone k j) active held, refuse_sentTo]
    · rw [exec_writeEntryMembership ready, serveWriteMembership_value (namesMembership_zone k j) free beyond, refuse_sentTo]
  · intro index ready
    refine ⟨fun active held => ?_, fun free beyond => ?_⟩
    · rw [exec_writeEntryMembership ready, serveWriteMembership_held (namesMembership_channel k n) active held, refuse_sentTo]
    · rw [exec_writeEntryMembership ready, serveWriteMembership_value (namesMembership_channel k n) free beyond, refuse_sentTo]
  · intro index written ready own
    have run := exec_writeEntryMembership ready
    rw [serveWriteMembership_free (namesMembership_zone k j) own, accept_sentTo] at run
    refine ⟨fun quiet => ?_, fun active targets => ?_⟩
    · rw [run, State.storeMembership_stored quiet]
      rfl
    · subst active
      obtain ⟨crosspoints, eq, law, others⟩ := storeMembership_zone targets j x
      rw [eq] at run law
      exact ⟨_, run, rfl, rfl, law, others, rfl, rfl, rfl, rfl, rfl, ⟨rfl, rfl, rfl, rfl, rfl, rfl, rfl, rfl, rfl, rfl, rfl⟩⟩
  · intro index ready own quiet
    rw [exec_writeEntryMembership ready, serveWriteMembership_free (namesMembership_channel k n) own,
      State.storeMembership_stored quiet]
    rfl
  · intro index ready law own moves
    have run := exec_writeEntryMembership ready
    rw [serveWriteMembership_free (namesMembership_channel _ n) own, accept_sentTo] at run
    have after : GroupLaw (s.storeMembership s.settings.active (.inr n) x) := groupLaw_storeMembership law ..
    have quiet : Quiet gateKinds s (s.storeMembership s.settings.active (.inr n) x) :=
      Quiet.storeMembership Mix.postsGates_gateKinds ..
    have ground : (s.storeMembership s.settings.active (.inr n) x).ground =
      { s.ground with settings := s.settings.regrouped n x } := State.storeMembership_ground ..
    rw [State.storeMembership_moved moves] at run after quiet ground
    have left := State.leftGroup_left law n x
    have group : (s.leftGroup n x).settings.channelGroup n = x := s.settings.regrouped_self n x
    have engine : (s.leftGroup n x).engine = (s.engine.askCounts s.groups (s.leftGroup n x).groups).askChannel n := rfl
    have unaligned : (s.leftGroup n x).engine.aligned.get n = false := by
      rw [engine]
      exact Table.get_set_self ..
    have back := State.readmitted left.law left.out left.unlisted unaligned
    have able := State.readmitted_eligible (s.leftGroup n x) n
    have mode := State.readmitted_mode (s.leftGroup n x) n
    generalize s.leftGroup n x = u at *
    generalize ((u.reEvaluate n).onMix (Mix.askIfForced u.settings n)) = v at *
    have groups : (v.settle s).groups = v.groups := rfl
    have gates : (v.settle s).gates = v.gates := rfl
    have able' : (v.settle s).eligible n = v.eligible n := rfl
    have events : (v.settle s).events = v.events := rfl
    have asks : (v.settle s).engine = v.engine.askCounts s.groups v.groups := rfl
    have targets := targetLaw_settle v s
    generalize v.settle s = t at *
    have posted (k : EventKind) (h : PostedToAll k u) : PostedToAll k t := fun q => by
      rw [events]
      exact back.keeps k h q
    have old {g : Group} (own : s.settings.channelGroup n = some g) : t.groups.get g = u.groups.get g := by
      rw [groups]
      refine back.groups g ?_
      rw [group, ← own]
      exact moves
    have queued {i : Item} (mem : i ∈ u.engine.queue) : i ∈ t.engine.queue := by
      rw [asks]
      exact Engine.mem_askCounts _ _ (by rw [back.engine]; exact mem)
    obtain ⟨flight, flags, -⟩ := Engine.askCounts_frame s.groups u.groups s.engine
    obtain ⟨flight', flags', -⟩ := Engine.askCounts_frame s.groups v.groups v.engine
    have sets := (groupLaw_gating after).law
    have regrouped : t.settings.channelGroup n = x := by
      rw [← State.ground_settings, ground]
      exact s.settings.regrouped_self n x
    refine ⟨t.setPort p (.responding ⟨0x02, .ok, []⟩ false), run, congrArg (ByPort.set · p _) (congrArg Ground.ports ground),
      congrArg Ground.settings ground, ?_, ?_, ?_, fun g own => ⟨?_, ?_, fun absent => ?_, fun holds => ⟨?_, fun empty => ⟨?_, ?_⟩,
        fun w rest list => ⟨?_, ?_, ?_⟩⟩⟩, quiet.holder, fun g before now => ?_, fun unable => ?_, fun parked => ?_,
      fun up eligible free => ?_, fun up eligible forced g own => ?_, fun free g own => ?_, ?_, targets, quiet.sticky,
      sameBuilding_setPort (sameBuilding_of_ground ground) .., congrArg Ground.delay ground⟩
    · exact (congrArg Engine.aligned asks).trans (flags'.trans (by rw [back.engine, engine, Engine.askChannel, flags]))
    · have mem := mem_mergeItem (.channel n) (s.engine.askCounts s.groups u.groups).queue
      have queue : u.engine.queue = mergeItem (.channel n) (s.engine.askCounts s.groups u.groups).queue := by rw [engine]; rfl
      rw [← queue] at mem
      exact mem.imp queued queued
    · exact (congrArg Engine.flight asks).trans (flight'.trans (by rw [back.engine, engine, Engine.askChannel, flight]))
    · rw [Bool.eq_false_iff]
      intro holds
      obtain ⟨y, member, rfl⟩ := (GroupState.holds_iff _ _).mp holds
      have mine : t.settings.channelGroup y.channel = some g := sets.own g y member
      rw [regrouped, ← own] at mine
      exact moves mine
    · change n ∉ (t.groups.get g).waiting
      rw [old own]
      exact left.unlisted g
    · rw [SetIs, show (answering t p 2 Status.ok []).groups = t.groups from rfl, old own]
      exact left.waiting g own absent
    · exact posted _ (left.member g holds).1
    · rw [SetIs, show (answering t p 2 Status.ok []).groups = t.groups from rfl, old own]
      exact (left.member g holds).2.1 empty
    · obtain ⟨y, member, same⟩ := (GroupState.holds_iff _ _).mp holds
      have length := (groupLaw_gating law).law.length_without member
      have fewer : (s.groups.get g).openCount ≠ (u.groups.get g).openCount := by
        rw [GroupState.openCount, GroupState.openCount, ((left.member g holds).2.1 empty).1, ← same]
        change (without y.channel (s.groups.get g).members).length + 1 = (s.groups.get g).members.length at length
        omega
      have asked (i : Item) (mem : i ∈ (s.engine.askCounts s.groups u.groups).queue) : i ∈ t.engine.queue :=
        queued (by rw [engine]; exact mem_mergeItem_of_mem mem)
      exact (Engine.asks_of_moved fewer s.engine).imp (asked _) (asked _)
    · rw [SetIs, show (answering t p 2 Status.ok []).groups = t.groups from rfl, old own]
      exact ((left.member g holds).2.2 w rest list).1
    · obtain ⟨⟨members, -⟩, opened, apart, -⟩ := (left.member g holds).2.2 w rest list
      have still : v.gates.get w = u.gates.get w := back.gates w apart fun h now y member same => by
        have mine : u.settings.channelGroup w = some g := left.law.own g (forcedRecord s w) (by
          change _ ∈ (u.groups.get g).members
          rw [members]
          exact List.mem_append_right _ (List.mem_singleton_self _))
        have its : u.settings.channelGroup y.channel = some h := left.law.own h y member
        rw [same, mine, Option.some.injEq] at its
        subst its
        exact moves ((group.symm.trans now).trans own.symm)
      change (t.gates.get w).state = _ ∧ (t.gates.get w).holdCounter = _
      rw [gates, still]
      exact opened
    · exact posted _ ((left.member g holds).2.2 w rest list).2.2.2
    · change t.groups.get g = _
      rw [groups, back.groups g (by rw [group]; exact now)]
      exact left.elsewhere g before
    · by_contra up
      have ok := (sets.gate n).ok up
      rw [show t.eligible n = false from unable] at ok
      cases ok
    · change (t.gates.get n).state = _
      rw [gates]
      exact back.parked (left.parked parked)
    · change (t.gates.get n).state = _
      rw [gates]
      exact back.closed (left.closed up) (able.symm.trans (able'.symm.trans eligible)) (by rw [left.mode]; exact free)
    · have entered := back.forced (left.closed up) (able.symm.trans (able'.symm.trans eligible)) (left.mode.trans forced) g (group.trans own)
      rw [← groups] at entered
      refine entered.imp_left fun ⟨holds, opened⟩ => ⟨holds, fun q => ?_⟩
      change (t.events.get q).sticky &&& _ = _
      rw [events]
      exact opened q
    · change t.groups.get g = _
      rw [groups, back.free (by rw [left.mode]; exact free)]
      exact left.elsewhere g fun was => moves (own.trans was.symm)
    · change (t.gates.get n).mode = _
      rw [gates, mode, left.mode]

end Sys2Proof.Machine
end

section
/-! SUPPORT. The sets resized: entry offered to a list into the room of a set of FORCED members, and AUTO members taken out
until a set fits (R106, R115, R121). -/

namespace Sys2Proof.Machine

open Sys2Proof.Safety

namespace Mix

section
variable {m m' u : Mix} {g : Group} {maxOpen : Nat}

/-! ### Entry offered -/

/-- The first channels of a list have entered the set of `g` as FORCED, and the rest waits. -/
structure Offered (m m' : Mix) (g : Group) (entering rest : List Channel) : Prop where
  groups : m'.groups = m.groups.set g
    ⟨(m.groups.get g).holder, (m.groups.get g).members ++ entering.map fun n => m.recordOf n .forced, rest⟩
  opened : ∀ n ∈ entering, m'.gates.get n = (m.gates.get n).put .opened
  others : ∀ n, n ∉ entering → m'.gates.get n = m.gates.get n
  posted : m'.posted = if entering = [] then m.posted else m.posted ||| EventKind.gateOpened.mask

theorem Offered.refl (m : Mix) (g : Group) : Offered m m g [] (m.groups.get g).waiting where
  groups := by
    rw [List.map_nil, List.append_nil]
    exact (Table.set_get_self _ _).symm
  opened := nofun
  others _ _ := rfl
  posted := rfl

/-- What an offer makes of a list and a set of FORCED members, none in LAST_ON (R115). -/
theorem offerList_room (forced : ∀ y ∈ (m.groups.get g).members, y.kind = .forced)
    (noLastOn : ∀ y ∈ (m.groups.get g).members, (m.gates.get y.channel).state ≠ .lastOn)
    (nodup : (m.groups.get g).waiting.Nodup) (elsewhere : ∀ w ∈ (m.groups.get g).waiting, ∀ h, h ≠ g → w ∉ (m.groups.get h).waiting) :
    Offered m (offerList maxOpen g (m.groups.get g).waiting m) g
      ((m.groups.get g).waiting.take (maxOpen - (m.groups.get g).members.length))
      ((m.groups.get g).waiting.drop (maxOpen - (m.groups.get g).members.length)) := by
  generalize list : (m.groups.get g).waiting = ws at nodup elsewhere
  induction ws generalizing m with
  | nil =>
    have stays := Offered.refl m g
    rw [list] at stays
    rw [List.take_nil, List.drop_nil]
    exact stays
  | cons w ws ih =>
    by_cases room : (m.groups.get g).members.length < maxOpen
    · have granted : m.grantable maxOpen g = true := by simp [grantable, GroupState.openCount, room]
      have entered : m.enterForced maxOpen g w = m.join g w .forced := by
        rw [Mix.enterForced, lastOnMember_none.mpr noLastOn]
        exact if_pos room
      have joined := join_eq (fun h other => elsewhere w List.mem_cons_self h other) .forced (m := m)
      obtain ⟨fresh, once⟩ := List.nodup_cons.mp nodup
      have filtered : (m.groups.get g).waiting.filter (fun k => k != w) = ws := by
        rw [list, List.filter_cons_of_neg (by simp)]
        exact Law.filter_waiting_of_not_mem fresh
      rw [filtered] at joined
      rw [offerList, if_pos granted, entered]
      have set_ : (m.join g w .forced).groups.get g =
          ⟨(m.groups.get g).holder, (m.groups.get g).members ++ [m.recordOf w .forced], ws⟩ := by
        rw [joined, Table.get_set_self]
      have next := ih (m := m.join g w .forced) ?_ ?_ (by rw [set_]) once ?_
      · have size : maxOpen - (m.groups.get g).members.length =
            (maxOpen - ((m.join g w .forced).groups.get g).members.length) + 1 := by
          rw [set_, List.length_append, List.length_singleton]
          omega
        rw [size, List.take_succ_cons, List.drop_succ_cons]
        generalize maxOpen - ((m.join g w .forced).groups.get g).members.length = room at next
        obtain ⟨groups, opened, others, posted⟩ := next
        have latest (n : Channel) : (m.join g w .forced).recordOf n .forced = m.recordOf n .forced := by
          rw [Mix.recordOf, Mix.recordOf, joined]
          by_cases same : w = n
          · subst same
            rw [Table.get_set_self]
            rfl
          · rw [Table.get_set_other _ _ same]
        have apart (n : Channel) (inside : n ∈ ws) : w ≠ n := fun same => fresh (same ▸ inside)
        refine ⟨?_, fun n inside => ?_, fun n outside => ?_, ?_⟩
        · rw [groups, set_]
          simp only [latest]
          rw [joined, Table.set_set, List.append_assoc]
          rfl
        · by_cases again : n ∈ ws.take room
          · rw [opened n again, joined, Table.get_set_other _ _ (apart n (List.mem_of_mem_take again))]
          · have same := (List.mem_cons.mp inside).resolve_right again
            subst same
            rw [others n again, joined, Table.get_set_self]
        · obtain ⟨other, out⟩ := not_or.mp fun h => outside (List.mem_cons.mpr h)
          rw [others n out, joined, Table.get_set_other _ _ (Ne.symm other)]
        · rw [posted, if_neg (List.cons_ne_nil _ _), joined]
          split
          · rfl
          · rw [BitVec.or_assoc, BitVec.or_self]
      · rw [set_]
        simp only [List.mem_append, List.mem_singleton]
        rintro y (old | rfl)
        · exact forced y old
        · rfl
      · rw [set_, joined]
        simp only [List.mem_append, List.mem_singleton]
        rintro y (old | rfl)
        · by_cases same : w = y.channel
          · subst same
            rw [Table.get_set_self]
            exact nofun
          · rw [Table.get_set_other _ _ same]
            exact noLastOn y old
        · rw [show (m.recordOf w .forced).channel = w from rfl, Table.get_set_self]
          exact nofun
      · intro k inside h other
        rw [joined, Table.get_set_other _ _ (Ne.symm other)]
        exact elsewhere k (List.mem_cons_of_mem w inside) h other
    · have full := Nat.le_of_not_lt room
      rw [offerList_full full forced noLastOn, Nat.sub_eq_zero_of_le full, List.take_zero, List.drop_zero, ← list]
      exact .refl m g

/-! ### AUTO members taken out -/

/-- A member that the choice of R106 takes out goes before every other AUTO member. -/
theorem quieterThan_of_quietest {ms : List Member} {v k : Member} (found : quietest ms = some v) (member : k ∈ ms)
    (auto : k.kind = .auto) (other : k ≠ v) : QuieterThan ms v k := by
  obtain ⟨before, after, rfl, -, first, rest⟩ := quietest_split found
  rw [List.mem_append, List.mem_cons] at member
  obtain early | rfl | late := member
  · exact .inl (first k early auto)
  · exact absurd rfl other
  · obtain less | same := (rest k late auto).lt_or_eq
    · exact .inl less
    · exact .inr ⟨same, ((List.singleton_sublist.mpr late).cons_cons v).trans (List.sublist_append_right before _)⟩

theorem QuieterThan.mono {ms ns : List Member} {y k : Member} (h : QuieterThan ms y k) (sub : ms.Sublist ns) :
    QuieterThan ns y k := h.imp_right fun ⟨same, order⟩ => ⟨same, order.trans sub⟩

/-- The set of `g` has been cut down to `kept` by taking out AUTO members, the quietest and of equals the earliest first
(R106). -/
structure Thinned (m m' : Mix) (g : Group) (kept : List Member) : Prop where
  groups : m'.groups = m.groups.set g { m.groups.get g with members := kept }
  sublist : kept.Sublist (m.groups.get g).members
  forced : ∀ y ∈ (m.groups.get g).members, y.kind = .forced → y ∈ kept
  removed : ∀ y ∈ (m.groups.get g).members, y ∉ kept → m'.gates.get y.channel = (m.gates.get y.channel).put .closed ∧
    ∀ k ∈ kept, k.kind = .auto → QuieterThan (m.groups.get g).members y k
  others : ∀ n, (∀ y ∈ (m.groups.get g).members, y ∉ kept → y.channel ≠ n) → m'.gates.get n = m.gates.get n
  posted : m'.posted = if kept = (m.groups.get g).members then m.posted else m.posted ||| EventKind.gateClosed.mask

theorem Thinned.refl (m : Mix) (g : Group) : Thinned m m g (m.groups.get g).members where
  groups := (Table.set_get_self _ _).symm
  sublist := .refl _
  forced _ member _ := member
  removed _ member out := absurd member out
  others _ _ := rfl
  posted := (if_pos rfl).symm

/-- One more member taken out. -/
theorem Thinned.step {v : Member} {kept : List Member} (nodup : ((m.groups.get g).members.map Member.channel).Nodup)
    (found : memberGroup m.groups v.channel = some g) (quiet : quietest (m.groups.get g).members = some v)
    (h : Thinned (m.evict v.channel .closed) m' g kept) : Thinned m m' g kept := by
  obtain ⟨member, auto, -⟩ := quietest_some quiet
  have evicted := evict_groups_get_self found .closed
  have whole := evict_eq found .closed
  have one {y : Member} (inside : y ∈ (m.groups.get g).members) (same : y.channel = v.channel) : y = v :=
    List.inj_on_of_nodup_map nodup inside member same
  have stays {y : Member} (inside : y ∈ (m.groups.get g).members) (other : y.channel ≠ v.channel) :
      y ∈ without v.channel (m.groups.get g).members := List.mem_filter.mpr ⟨inside, by simpa using other⟩
  obtain ⟨groups, sublist, forced, removed, others, posted⟩ := h
  rw [evicted] at groups sublist forced removed others posted
  have gone {k : Member} (inside : k ∈ kept) : k.channel ≠ v.channel := by
    simpa using (List.mem_filter.mp (sublist.subset inside)).2
  have sub : (without v.channel (m.groups.get g).members).Sublist (m.groups.get g).members := List.filter_sublist
  refine ⟨?_, sublist.trans sub, fun y inside kind => forced y (stays inside fun same => ?_) kind, fun y inside out => ?_,
    fun n apart => ?_, ?_⟩
  · rw [groups, whole, Table.set_set]
  · rw [one inside same, auto] at kind
    cases kind
  · by_cases same : y.channel = v.channel
    · have := one inside same
      subst this
      refine ⟨?_, fun k now kind => quieterThan_of_quietest quiet (sub.subset (sublist.subset now)) kind
        fun same => gone now (congrArg Member.channel same)⟩
      rw [others y.channel fun z now _ => by simpa using (List.mem_filter.mp now).2, whole, Table.get_set_self]
    · obtain ⟨gate, order⟩ := removed y (stays inside same) out
      refine ⟨?_, fun k now kind => QuieterThan.mono (order k now kind) sub⟩
      rw [gate, whole, Table.get_set_other _ _ (Ne.symm same)]
  · have other : v.channel ≠ n := apart v member fun now => gone now rfl
    rw [others n fun y inside out => apart y (sub.subset inside) out, whole, Table.get_set_other _ _ other]
  · have fewer : kept ≠ (m.groups.get g).members := fun same => gone (same ▸ member) rfl
    rw [posted, if_neg fewer, whole]
    split
    · rfl
    · rw [BitVec.or_assoc, BitVec.or_self]

/-- What R106 leaves of a set (the first argument of `fitAuto` bounds the removals). -/
theorem fitAuto_thinned (fuel : Nat) (nodup : ((m.groups.get g).members.map Member.channel).Nodup)
    (own : ∀ y ∈ (m.groups.get g).members, ∀ h, ∀ z ∈ (m.groups.get h).members, z.channel = y.channel → h = g) :
    ∃ kept, Thinned m (m.fitAuto maxOpen g fuel) g kept ∧ (kept = (m.groups.get g).members ∨ maxOpen ≤ kept.length) ∧
      ((m.groups.get g).members.length ≤ maxOpen → kept = (m.groups.get g).members) ∧
      ((m.groups.get g).members.length ≤ fuel → kept.length ≤ maxOpen ∨ ∀ y ∈ kept, y.kind = .forced) := by
  induction fuel generalizing m with
  | zero =>
    refine ⟨_, .refl m g, .inl rfl, fun _ => rfl, fun none => .inl ?_⟩
    rw [Nat.le_zero.mp none]
    exact Nat.zero_le _
  | succ fuel ih =>
    rw [fitAuto]
    by_cases fits : (m.groups.get g).openCount ≤ maxOpen
    · rw [if_pos fits]
      exact ⟨_, .refl m g, .inl rfl, fun _ => rfl, fun _ => .inl fits⟩
    · rw [if_neg fits]
      cases quiet : quietest (m.groups.get g).members with
      | none => exact ⟨_, .refl m g, .inl rfl, fun _ => rfl, fun _ => .inr (kind_of_quietest_none quiet)⟩
      | some v =>
        obtain ⟨member, -⟩ := quietest_some quiet
        have found : memberGroup m.groups v.channel = some g :=
          memberGroup_eq_some ⟨v, member, rfl⟩ fun h ⟨z, held, same⟩ => own v member h z held same
        have evicted := evict_groups_get_self found .closed
        have length := length_without_of_mem nodup member
        have sub : (without v.channel (m.groups.get g).members).Sublist (m.groups.get g).members := List.filter_sublist
        obtain ⟨kept, thinned, large, -, small⟩ := ih (m := m.evict v.channel .closed)
          (by rw [evicted]; exact nodup.sublist (sub.map _)) fun y inside => by
            rw [evicted] at inside
            intro h z held same
            by_contra other
            rw [evict_groups_get_other found _ (Ne.symm other)] at held
            exact other (own y (sub.subset inside) h z held same)
        rw [evicted] at large small
        have beyond : maxOpen < (m.groups.get g).members.length := Nat.lt_of_not_le fits
        change kept = without v.channel (m.groups.get g).members ∨ _ at large
        refine ⟨kept, thinned.step nodup found quiet, .inr ?_, fun within => absurd within fits, fun enough => small ?_⟩
        · obtain rfl | large := large
          · omega
          · exact large
        · change (without v.channel (m.groups.get g).members).length ≤ fuel
          omega

end

end Mix

end Sys2Proof.Machine
end

section
/-! PROOFS. GROUP writes: what they answer, and what the written record alone does (R104). -/

namespace Sys2Proof.Machine

open Sys2Proof.Safety

variable {s : State} {p : Port}

/-! ### Answers -/

section
variable {index : BitVec 16} {k : Arrangement} {g : Group} {e : List Byte} {r : GroupRec}

theorem exec_writeEntryGroup (h : Ready s p 0x02 (writeBody 4 index e)) :
    exec (.writeEntryGroup p index e) s = .next ((serveWriteGroup p index e s).sentTo p 0x02) := occur_request h

/-- What a GROUP write answers once its entry is found (R104). -/
theorem serveWriteGroup_named (size : e.length = 4) (k : Arrangement) (g : Group) :
    serveWriteGroup p (BitVec.ofNat 16 (k.val * 6 + g.val)) e s =
      if k = s.settings.active ∧ heldElsewhere s.groups p (some g) then refuse s .heldElsewhere
      else if k = s.settings.active ∧ natAt e 2 < (s.groups.get g).forcedCount then refuse s .badValue
      else match groupOf e with
        | none => refuse s .badValue
        | some r => acceptClamped (decide (60 < natAt e 1)) (s.storeGroup k g r) := by
  have within : k.val * 6 + g.val < 24 := by have := k.isLt; have := g.isLt; omega
  have number : (BitVec.ofNat 16 (k.val * 6 + g.val)).toNat = k.val * 6 + g.val := Nat.mod_eq_of_lt (by omega)
  have pair := groupAt_pair k g within
  have found : serveWriteGroup p (BitVec.ofNat 16 (k.val * 6 + g.val)) e s = _ :=
    writeEntry_of_some (i := ⟨k.val * 6 + g.val, within⟩) size (by rw [number, indexed, dif_pos within])
  rw [pair] at found
  exact found

/-- A write that neither check of R104 refuses goes by its fields. -/
theorem serveWriteGroup_free (size : e.length = 4)
    (free : k ≠ s.settings.active ∨ (heldElsewhere s.groups p (some g) = false ∧ (s.groups.get g).forcedCount ≤ natAt e 2)) :
    serveWriteGroup p (BitVec.ofNat 16 (k.val * 6 + g.val)) e s = match groupOf e with
      | none => refuse s .badValue
      | some r => acceptClamped (decide (60 < natAt e 1)) (s.storeGroup k g r) := by
  have own : ¬(k = s.settings.active ∧ heldElsewhere s.groups p (some g) = true) := fun ⟨active, held⟩ => by
    obtain other | ⟨mine, -⟩ := free
    · exact other active
    · rw [mine] at held
      cases held
  have enough : ¬(k = s.settings.active ∧ natAt e 2 < (s.groups.get g).forcedCount) := fun ⟨active, few⟩ => by
    obtain other | ⟨-, forced⟩ := free
    · exact other active
    · omega
  exact (serveWriteGroup_named size k g).trans ((if_neg own).trans (if_neg enough))

theorem heldElsewhere_mine (own : (s.groups.get g).holder = none ∨ (s.groups.get g).holder = some p) :
    heldElsewhere s.groups p (some g) = false := by
  obtain none | mine := own
  · simp only [heldElsewhere, none]
  · rw [heldElsewhere_some mine, bne_self_eq_false]

theorem groupOf_eq (e : List Byte) : groupOf e = match yesNo (natAt e 0), yesNo (natAt e 3) with
    | some enabled, some hold =>
      if 1 ≤ natAt e 2 ∧ natAt e 2 ≤ 8 then some ⟨enabled, min 60 (natAt e 1), natAt e 2, hold⟩ else none
    | _, _ => none := rfl

theorem groupOf_eq_none (h : natAt e 2 < 1 ∨ 8 < natAt e 2 ∨ yesNo (natAt e 0) = none ∨ yesNo (natAt e 3) = none) :
    groupOf e = none := by
  rw [groupOf]
  cases first : yesNo (natAt e 0) with
  | none => rfl
  | some enabled =>
    cases hold : yesNo (natAt e 3) with
    | none => rfl
    | some hold =>
      refine if_neg fun ⟨low, high⟩ => ?_
      simp only [first, hold, reduceCtorEq, or_false] at h
      omega

theorem groupOf_of_fields {enabled hold : Bool} (first : yesNo (natAt e 0) = some enabled) (last : yesNo (natAt e 3) = some hold)
    (low : 1 ≤ natAt e 2) (high : natAt e 2 ≤ 8) : groupOf e = some ⟨enabled, min 60 (natAt e 1), natAt e 2, hold⟩ := by
  rw [groupOf, first, last]
  exact if_pos ⟨low, high⟩

theorem natAt_entry (range : GroupInRange r) : natAt r.entry 1 = r.master ∧ natAt r.entry 2 = r.maxOpen := by
  obtain ⟨master, -, high⟩ := range
  exact ⟨Nat.mod_eq_of_lt (show r.master < 2 ^ 8 by omega), Nat.mod_eq_of_lt (show r.maxOpen < 2 ^ 8 by omega)⟩

/-- A record in range is read back from its entry. -/
theorem groupOf_entry (range : GroupInRange r) : groupOf r.entry = some r := by
  obtain ⟨master, maxOpen⟩ := natAt_entry range
  obtain ⟨within, low, high⟩ := range
  rw [groupOf_of_fields (e := r.entry) (yesNo_flagOf r.enabled) (yesNo_flagOf r.lastHold) (by rw [maxOpen]; exact low)
    (by rw [maxOpen]; exact high), master, maxOpen, Nat.min_eq_right within]

theorem exec_writeEntryGroup_stored (ready : Ready s p 0x02 (writeBody 4 (BitVec.ofNat 16 (k.val * 6 + g.val)) r.entry))
    (range : GroupInRange r)
    (free : k ≠ s.settings.active ∨ (heldElsewhere s.groups p (some g) = false ∧ (s.groups.get g).forcedCount ≤ r.maxOpen)) :
    exec (.writeEntryGroup p (BitVec.ofNat 16 (k.val * 6 + g.val)) r.entry) s =
      .next (answering (s.storeGroup k g r) p 0x02 .ok []) := by
  obtain ⟨master, maxOpen⟩ := natAt_entry range
  rw [exec_writeEntryGroup ready, serveWriteGroup_free rfl (by rw [maxOpen]; exact free), groupOf_entry range]
  simp only [master]
  rw [decide_eq_false (Nat.not_lt.mpr range.1)]
  rfl

end

/-! ### The handlers and a GROUP write -/

/-- The state with other handlers. -/
def State.withPorts (x : ByPort Handler) (s : State) : State := { s with ports := x }

section
variable (x : ByPort Handler) (s : State)

theorem State.withPorts_reEvaluate (n : Channel) : (s.withPorts x).reEvaluate n = (s.reEvaluate n).withPorts x := by
  have able : (s.withPorts x).eligible n = s.eligible n := rfl
  unfold State.reEvaluate
  rw [able, show (s.withPorts x).gates = s.gates from rfl, show (s.withPorts x).engine = s.engine from rfl]
  split
  · split
    · rfl
    · rfl
  · split
    · rfl
    · rfl

theorem State.withPorts_reEvaluateAll (ns : List Channel) :
    (s.withPorts x).reEvaluateAll ns = (s.reEvaluateAll ns).withPorts x := by
  unfold State.reEvaluateAll
  induction ns generalizing s with
  | nil => rfl
  | cons n ns ih => rw [List.foldl_cons, List.foldl_cons, s.withPorts_reEvaluate x n, ih]

theorem State.withPorts_parkIneligible (ns : List Channel) :
    (s.withPorts x).parkIneligible ns = (s.parkIneligible ns).withPorts x := by
  unfold State.parkIneligible
  induction ns generalizing s with
  | nil => rfl
  | cons n ns ih =>
    have able : (s.withPorts x).eligible n = s.eligible n := rfl
    rw [List.foldl_cons, List.foldl_cons, ← ih, able, show (s.withPorts x).gates = s.gates from rfl]
    split
    · rfl
    · rfl

theorem State.withPorts_groupResized (g : Group) (before after : Nat) :
    (s.withPorts x).groupResized g before after = (s.groupResized g before after).withPorts x := by
  unfold State.groupResized
  split
  · rfl
  · split
    · rfl
    · rfl

theorem State.withPorts_groupEffects (g : Group) (before after : GroupRec) :
    (s.withPorts x).groupEffects g before after = (s.groupEffects g before after).withPorts x := by
  have disabled : (if before.enabled ∧ ¬after.enabled then (s.withPorts x).groupDisabled g else s.withPorts x) =
      (if before.enabled ∧ ¬after.enabled then s.groupDisabled g else s).withPorts x := by
    split
    · exact State.withPorts_parkIneligible x { s with groups := s.groups.modify g fun x => { x with waiting := [] } } _
    · rfl
  unfold State.groupEffects
  dsimp only
  rw [disabled, show (s.withPorts x).settings = s.settings from rfl]
  generalize (if before.enabled ∧ ¬after.enabled then s.groupDisabled g else s) = u
  rw [State.withPorts_reEvaluateAll, ← apply_ite (State.withPorts x), State.withPorts_groupResized,
    show ∀ u : State, (u.withPorts x).groupHoldCleared g = (u.groupHoldCleared g).withPorts x from fun _ => rfl,
    ← apply_ite (State.withPorts x), show ∀ u : State, (u.withPorts x).askGroup g = (u.askGroup g).withPorts x from fun _ => rfl,
    ← apply_ite (State.withPorts x)]

theorem State.withPorts_storeGroup (k : Arrangement) (g : Group) (r : GroupRec) :
    (s.withPorts x).storeGroup k g r = (s.storeGroup k g r).withPorts x := by
  unfold State.storeGroup
  dsimp only
  rw [show (s.withPorts x).settings = s.settings from rfl]
  split
  · have stored : (s.withPorts x).onSettings (Settings.setGroup k g r) = (s.onSettings (Settings.setGroup k g r)).withPorts x := rfl
    rw [stored, State.withPorts_groupEffects]
    rfl
  · rfl

end

theorem ByPort.set_set {α : Type} (t : ByPort α) (q : Port) (a b : α) : (t.set q a).set q b = t.set q b := by
  cases q <;> rfl

/-- The same write on a handler that is IDLE again leaves what it left, and its own answer (R104). -/
theorem State.storeGroup_again (k : Arrangement) (g : Group) (r : GroupRec) (st : Status) :
    answering ((s.setPort p .idle).storeGroup k g r) p 0x02 .ok [] =
      (answering (s.storeGroup k g r) p 0x02 st []).setPort p (.responding ⟨0x02, .ok, []⟩ false) := by
  have ports : (s.storeGroup k g r).ports = s.ports := congrArg Ground.ports (s.storeGroup_ground k g r)
  have idle : s.setPort p .idle = s.withPorts (s.ports.set p .idle) := rfl
  rw [idle, State.withPorts_storeGroup]
  generalize s.storeGroup k g r = u at ports
  calc answering (u.withPorts (s.ports.set p .idle)) p 0x02 .ok []
      = u.withPorts ((s.ports.set p .idle).set p (.responding ⟨0x02, .ok, []⟩ false)) := rfl
    _ = u.withPorts ((u.ports.set p (.responding ⟨0x02, st, []⟩ false)).set p (.responding ⟨0x02, .ok, []⟩ false)) := by
      rw [ByPort.set_set, ByPort.set_set, ports]
    _ = _ := rfl

end Sys2Proof.Machine
end

section
/-! PROOFS. GROUP writes of the active arrangement that size or release a set (R105, R106). -/

namespace Sys2Proof.Machine

open Sys2Proof.Safety

section
variable {s t : State} {p : Port} {g : Group} {r : GroupRec} {m : Mix}

/-! ### One field after another -/

theorem State.storeGroup_active (g : Group) (r : GroupRec) (s : State) : s.storeGroup s.settings.active g r =
    ((s.recorded g r).groupEffects g (s.settings.groupRecord g) r).settle s := if_pos rfl

/-- A write that leaves enabled asks of the set what the other fields ask (R105). -/
theorem State.groupEffects_enabled (s : State) {before : GroupRec} (enabled : r.enabled = before.enabled) :
    s.groupEffects g before r =
      if before.master = r.master then
        (if before.lastHold ∧ ¬r.lastHold then (s.groupResized g before.maxOpen r.maxOpen).groupHoldCleared g
          else s.groupResized g before.maxOpen r.maxOpen)
      else (if before.lastHold ∧ ¬r.lastHold then (s.groupResized g before.maxOpen r.maxOpen).groupHoldCleared g
          else s.groupResized g before.maxOpen r.maxOpen).askGroup g := by
  have stays : ¬((before.enabled : Prop) ∧ ¬r.enabled) := fun ⟨on, off⟩ => off (enabled ▸ on)
  have rests : ¬((¬before.enabled : Prop) ∧ r.enabled) := fun ⟨off, on⟩ => off (enabled ▸ on)
  simp only [State.groupEffects, if_neg stays, if_neg rests]

theorem State.recorded_live (n : Channel) (j : Zone) : (s.recorded g r).live n j = s.live n j := rfl

theorem State.recorded_settled (law : TargetLaw s) : (s.recorded g r).settle s = s.recorded g r :=
  State.settle_of_targetLaw (targetLaw_of_live law rfl fun _ _ => rfl) fun _ => rfl

/-- What a GROUP write leaves that acted on gates and sets alone, whose outcome is `m`. -/
structure GroupWritten (s t : State) (g : Group) (r : GroupRec) (m : Mix) : Prop where
  settings : t.settings = (s.recorded g r).settings
  ports : t.ports = s.ports
  gates : t.gates = m.gates
  groups : t.groups = m.groups
  engine : t.engine = s.engine.askCounts s.groups m.groups
  events : t.events = (s.postMask m.posted).events
  targets : TargetLaw t
  building : SameBuilding s t
  delay : t.delay = s.delay

theorem groupWritten (s : State) (g : Group) (r : GroupRec) (m : Mix) :
    GroupWritten s (((s.recorded g r).withMix m).settle s) g r m where
  settings := rfl
  ports := rfl
  gates := rfl
  groups := rfl
  engine := rfl
  events := rfl
  targets := targetLaw_settle _ _
  building := ⟨rfl, rfl, rfl, rfl, rfl, rfl, rfl, rfl, rfl, rfl, rfl⟩
  delay := rfl

/-- A write whose outcome moves no gate and no set stores the record alone. -/
theorem State.recorded_still (law : TargetLaw s) (still : m = s.mix) :
    ((s.recorded g r).withMix m).settle s = s.recorded g r := by
  rw [still, show (s.recorded g r).withMix s.mix = s.recorded g r from State.postMask_zero _]
  exact State.recorded_settled law

/-! ### What the set of a group admits -/

theorem waiting_eq_nil_of_room (law : GroupLaw s)
    (room : (s.groups.get g).members.length < (s.settings.groupRecord g).maxOpen) : (s.groups.get g).waiting = [] := by
  by_contra some
  have full : (s.settings.groupRecord g).maxOpen ≤ (s.groups.get g).members.length := ((groupLaw_fit law g).full some).1
  omega

theorem forced_of_waiting (law : GroupLaw s) (some : (s.groups.get g).waiting ≠ []) :
    (s.settings.groupRecord g).maxOpen ≤ (s.groups.get g).members.length ∧
      (∀ y ∈ (s.groups.get g).members, y.kind = .forced) ∧
      ∀ y ∈ (s.groups.get g).members, (s.gates.get y.channel).state ≠ .lastOn := by
  obtain ⟨full, forced⟩ := (groupLaw_fit law g).full some
  exact ⟨full, forced, fun y member => (groupLaw_gating law).law.lastOn_of_forced member (forced y member)⟩

/-- Channels wait for one group's set (R115). -/
theorem waits_once (law : GroupLaw s) {w : Channel} (listed : w ∈ (s.groups.get g).waiting) {h : Group} (other : h ≠ g) :
    w ∉ (s.groups.get h).waiting := fun again => other (Option.some.inj
  (((groupLaw_gating law).law.waits h w again).2.2.symm.trans ((groupLaw_gating law).law.waits g w listed).2.2))

/-- A full set of FORCED members lets nobody in (R114, R115). -/
theorem offer_full (law : GroupLaw s) {c : Settings} (same : (c.groupRecord g).maxOpen ≤ (s.settings.groupRecord g).maxOpen) :
    s.mix.offer c g = s.mix := by
  rw [Mix.offer]
  cases list : (s.mix.groups.get g).waiting with
  | nil => rfl
  | cons w ws =>
    obtain ⟨full, forced, quiet⟩ := forced_of_waiting law (g := g)
      (by rw [show (s.groups.get g).waiting = _ from list]; exact List.cons_ne_nil w ws)
    exact Mix.offerList_full (same.trans full) forced quiet _

/-- The offer that a new max open makes to a list (R106, R115). -/
theorem offer_offered (law : GroupLaw s) (c : Settings) : Mix.Offered s.mix (s.mix.offer c g) g
    ((s.groups.get g).waiting.take ((c.groupRecord g).maxOpen - (s.groups.get g).members.length))
    ((s.groups.get g).waiting.drop ((c.groupRecord g).maxOpen - (s.groups.get g).members.length)) := by
  by_cases none : (s.groups.get g).waiting = []
  · have same : s.mix.offer c g = s.mix := Mix.offer_of_none none
    rw [same, none, List.take_nil, List.drop_nil, ← none]
    exact none ▸ Mix.Offered.refl s.mix g
  · obtain ⟨-, forced, quiet⟩ := forced_of_waiting law none
    exact Mix.offerList_room forced quiet ((groupLaw_gating law).law.queue g) fun w listed h other => waits_once law listed other

/-! ### The writes -/

theorem State.groupResized_raised {before : Nat} (raised : before < r.maxOpen) :
    (s.recorded g r).groupResized g before r.maxOpen = (s.recorded g r).withMix (s.mix.offer (s.recorded g r).settings g) := by
  rw [State.groupResized, if_neg (by omega), if_pos raised]
  rfl

theorem State.groupResized_lowered {before : Nat} (lowered : r.maxOpen < before) :
    (s.recorded g r).groupResized g before r.maxOpen =
      (s.recorded g r).withMix ((s.mix.fitOpenSet r.maxOpen g).offer (s.recorded g r).settings g) := by
  rw [State.groupResized, if_neg (by omega), if_neg (by omega)]
  rfl

/-- A new max open and nothing else. -/
theorem State.storeGroup_resized (only : r = { s.settings.groupRecord g with maxOpen := r.maxOpen }) :
    s.storeGroup s.settings.active g r =
      ((s.recorded g r).groupResized g (s.settings.groupRecord g).maxOpen r.maxOpen).settle s := by
  have enabled : r.enabled = (s.settings.groupRecord g).enabled := by rw [only]
  have master : r.master = (s.settings.groupRecord g).master := by rw [only]
  have hold : r.lastHold = (s.settings.groupRecord g).lastHold := by rw [only]
  have stays : ¬(((s.settings.groupRecord g).lastHold : Prop) ∧ ¬r.lastHold) := fun ⟨on, off⟩ => off (hold ▸ on)
  rw [State.storeGroup_active, State.groupEffects_enabled _ enabled, if_pos master.symm, if_neg stays]

/-- A max open raised (R106). -/
theorem storeGroup_raised (law : GroupLaw s) (only : r = { s.settings.groupRecord g with maxOpen := r.maxOpen })
    (raised : (s.settings.groupRecord g).maxOpen < r.maxOpen) :
    ∃ m, GroupWritten s (s.storeGroup s.settings.active g r) g r m ∧ Mix.Offered s.mix m g
      ((s.groups.get g).waiting.take (r.maxOpen - (s.groups.get g).members.length))
      ((s.groups.get g).waiting.drop (r.maxOpen - (s.groups.get g).members.length)) := by
  have offered := offer_offered law (g := g) (s.recorded g r).settings
  rw [s.recorded_groupRecord_self] at offered
  rw [State.storeGroup_resized only, State.groupResized_raised raised]
  exact ⟨_, groupWritten s g r _, offered⟩

/-- A max open lowered (R106). -/
theorem storeGroup_lowered (law : GroupLaw s) (only : r = { s.settings.groupRecord g with maxOpen := r.maxOpen })
    (lowered : r.maxOpen < (s.settings.groupRecord g).maxOpen) (room : (s.groups.get g).forcedCount ≤ r.maxOpen) :
    ∃ m kept, GroupWritten s (s.storeGroup s.settings.active g r) g r m ∧ Mix.Thinned s.mix m g kept ∧
      (r.maxOpen ≤ (s.groups.get g).members.length → kept.length = r.maxOpen) ∧
      ((s.groups.get g).members.length ≤ r.maxOpen → kept = (s.groups.get g).members) := by
  have sets := (groupLaw_gating law).law
  obtain ⟨kept, thinned, large, stays, small⟩ := Mix.fitAuto_thinned (m := s.mix) (g := g) (maxOpen := r.maxOpen)
    (s.mix.groups.get g).openCount (sets.nodup g) fun y member h z held same =>
      Option.some.inj ((sets.own h z held).symm.trans ((congrArg _ same).trans (sets.own g y member)))
  have forced (all : ∀ y ∈ kept, y.kind = .forced) : kept.length ≤ r.maxOpen := by
    have sub := thinned.sublist.filter fun y => y.kind == .forced
    rw [List.filter_eq_self.mpr fun y member => by simp [all y member]] at sub
    exact sub.length_le.trans room
  have fits : kept.length ≤ r.maxOpen := (small le_rfl).elim id forced
  have idle : ((s.mix.fitOpenSet r.maxOpen g).groups.get g).waiting = (s.groups.get g).waiting := by
    change ((s.mix.fitAuto r.maxOpen g (s.mix.groups.get g).openCount).groups.get g).waiting = _
    rw [thinned.groups, Table.get_set_self]
    rfl
  have unasked : (s.mix.fitOpenSet r.maxOpen g).offer (s.recorded g r).settings g = s.mix.fitOpenSet r.maxOpen g := by
    refine Mix.offer_of_none (idle.trans ?_)
    by_contra some
    obtain ⟨full, forced, -⟩ := forced_of_waiting law some
    have all : (s.groups.get g).forcedCount = (s.groups.get g).members.length := by
      rw [GroupState.forcedCount, List.filter_eq_self.mpr fun y member => by simp [forced y member]]
    omega
  refine ⟨_, kept, ?_, thinned, fun enough => ?_, stays⟩
  · rw [State.storeGroup_resized only, State.groupResized_lowered lowered, unasked]
    exact groupWritten s g r _
  · obtain rfl | large := large
    · exact Nat.le_antisymm fits enough
    · exact Nat.le_antisymm fits large

/-- Last-channel hold written and nothing else. -/
theorem State.storeGroup_held (only : r = { s.settings.groupRecord g with lastHold := r.lastHold }) :
    s.storeGroup s.settings.active g r =
      (if (s.settings.groupRecord g).lastHold ∧ ¬r.lastHold then (s.recorded g r).groupHoldCleared g
        else s.recorded g r).settle s := by
  have enabled : r.enabled = (s.settings.groupRecord g).enabled := by rw [only]
  have master : r.master = (s.settings.groupRecord g).master := by rw [only]
  have maxOpen : r.maxOpen = (s.settings.groupRecord g).maxOpen := by rw [only]
  have stays : (s.recorded g r).groupResized g (s.settings.groupRecord g).maxOpen r.maxOpen = s.recorded g r := if_pos maxOpen
  rw [State.storeGroup_active, State.groupEffects_enabled _ enabled, if_pos master.symm, stays]

theorem recorded_maxOpen (only : r = { s.settings.groupRecord g with lastHold := r.lastHold }) :
    ((s.recorded g r).settings.groupRecord g).maxOpen = (s.settings.groupRecord g).maxOpen := by
  rw [s.recorded_groupRecord_self, only]

/-- Last-channel hold cleared beside no LAST_ON member, or set (R91). -/
theorem storeGroup_unheld (law : GroupLaw s) (targets : TargetLaw s)
    (only : r = { s.settings.groupRecord g with lastHold := r.lastHold })
    (quiet : r.lastHold = true ∨ ∀ m ∈ (s.groups.get g).members, (s.gates.get m.channel).state ≠ .lastOn) :
    s.storeGroup s.settings.active g r = s.recorded g r := by
  rw [State.storeGroup_held only]
  split
  case isTrue cleared =>
    have silent := quiet.resolve_left cleared.2
    have none : s.mix.dropLastOn g = s.mix := by
      have found : s.mix.lastOnMember g = none := Mix.lastOnMember_none.mpr silent
      rw [Mix.dropLastOn, found]
    refine State.recorded_still targets (m := (s.mix.dropLastOn g).offer (s.recorded g r).settings g) ?_
    rw [none, offer_full law (recorded_maxOpen only).le]
  case isFalse => exact State.recorded_settled targets

/-- Last-channel hold cleared beside a LAST_ON member (R91). -/
theorem storeGroup_dropped (law : GroupLaw s) (only : r = { s.settings.groupRecord g with lastHold := false })
    (held : (s.settings.groupRecord g).lastHold = true) {y : Member} (member : y ∈ (s.groups.get g).members)
    (lastOn : (s.gates.get y.channel).state = .lastOn) :
    GroupWritten s (s.storeGroup s.settings.active g r) g r
      ⟨s.gates.set y.channel ((s.gates.get y.channel).put .closed),
        s.groups.set g ⟨(s.groups.get g).holder, [], []⟩, EventKind.gateClosed.mask⟩ := by
  have sets := (groupLaw_gating law).law
  have off : r.lastHold = false := by rw [only]
  have only' : r = { s.settings.groupRecord g with lastHold := r.lastHold } := by rw [off]; exact only
  have alone : (s.groups.get g).members = [y] := sets.lastOn g y member lastOn
  have idle : (s.groups.get g).waiting = [] := by
    by_contra some
    obtain ⟨-, -, quiet⟩ := forced_of_waiting law some
    exact quiet y member lastOn
  have found : memberGroup s.mix.groups y.channel = some g := sets.memberGroup_eq member
  have emptied : without y.channel [y] = [] := by simp [without]
  have dropped : s.mix.dropLastOn g = ⟨s.gates.set y.channel ((s.gates.get y.channel).put .closed),
      s.groups.set g ⟨(s.groups.get g).holder, [], []⟩, EventKind.gateClosed.mask⟩ := by
    have last : s.mix.lastOnMember g = some y := Mix.Law.lastOnMember_of_alone alone lastOn
    have whole := Mix.evict_eq found .closed
    rw [show s.mix.groups = s.groups from rfl, alone, emptied, show s.mix.posted = 0 from rfl] at whole
    dsimp only at whole
    rw [idle] at whole
    rw [Mix.dropLastOn, last]
    exact whole.trans (congrArg (Mix.mk _ _) BitVec.zero_or)
  have unasked : (s.mix.dropLastOn g).offer (s.recorded g r).settings g = s.mix.dropLastOn g :=
    Mix.offer_of_none (by rw [dropped, Table.get_set_self])
  rw [State.storeGroup_held only', if_pos ⟨held, by rw [off]; exact Bool.false_ne_true⟩, ← dropped, ← unasked]
  exact groupWritten s g r _

/-- Neither enabled, nor max open, nor last-channel hold (R105). -/
theorem storeGroup_master (targets : TargetLaw s) (enabled : r.enabled = (s.settings.groupRecord g).enabled)
    (maxOpen : r.maxOpen = (s.settings.groupRecord g).maxOpen) (hold : r.lastHold = (s.settings.groupRecord g).lastHold) :
    s.storeGroup s.settings.active g r = { s with
      settings := (s.recorded g r).settings
      engine := if r.master = (s.settings.groupRecord g).master then s.engine else { s.engine with
        queue := mergeItem (.group g) s.engine.queue } } := by
  have stays : ¬(((s.settings.groupRecord g).lastHold : Prop) ∧ ¬r.lastHold) := fun ⟨on, off⟩ => off (hold ▸ on)
  have size : (s.recorded g r).groupResized g (s.settings.groupRecord g).maxOpen r.maxOpen = s.recorded g r := if_pos maxOpen
  rw [State.storeGroup_active, State.groupEffects_enabled _ enabled, size, if_neg stays]
  by_cases same : r.master = (s.settings.groupRecord g).master
  · rw [if_pos same.symm, if_pos same]
    exact State.recorded_settled targets
  · rw [if_neg (Ne.symm same), if_neg same]
    exact State.settle_of_targetLaw (targetLaw_of_live targets rfl fun _ _ => rfl) fun _ => rfl

end

end Sys2Proof.Machine
end

section
/-! PROOFS. GROUP writes that enable or disable a group (R105, steps 1 and 2). -/

namespace Sys2Proof.Machine

open Sys2Proof.Safety

/-! ### A group disabled -/

/-- A kind posted twice is posted once (R190, R195). -/
theorem State.postMask_again (s : State) (kinds : EventMask) : (s.postMask kinds).postMask kinds = s.postMask kinds := by
  have one (r : Routing) (e : PortEvents) : (e.add r kinds).add r kinds = e.add r kinds := by
    have none : kinds &&& ~~~(e.sticky ||| kinds) = 0 := by
      rw [BitVec.not_or, BitVec.and_comm (~~~e.sticky), ← BitVec.and_assoc, BitVec.and_not_self]
      exact BitVec.zero_and
    have sticky : (e.add r kinds).sticky = e.sticky ||| kinds := rfl
    have quiet : ¬(r.mode = .pulse ∧ (0 : EventMask) &&& r.mask ≠ 0) := fun both => both.2 BitVec.zero_and
    rw [PortEvents.add, sticky, none, if_neg quiet, BitVec.or_assoc, BitVec.or_self]
    rfl
  have events : ((s.postMask kinds).postMask kinds).events = (s.postMask kinds).events := by
    simp only [State.postMask, ByPort.map, ByPort.get, one]
  calc (s.postMask kinds).postMask kinds
      = { s.postMask kinds with events := ((s.postMask kinds).postMask kinds).events } := rfl
    _ = s.postMask kinds := by rw [events]

section
variable {s u : State} {n : Channel}

/-- What parking leaves: the gates of the others, the groups that hold none of the parked, and events that are those of
before, with one GATE_CLOSED where a member was parked. -/
structure ParkedQuietly (ns : List Channel) (s u : State) : Prop where
  gates : ∀ k, k ∉ ns → u.gates.get k = s.gates.get k
  groups : ∀ h, (∀ n ∈ ns, n ∉ (s.groups.get h).waiting ∧ ∀ y ∈ (s.groups.get h).members, y.channel ≠ n) →
    u.groups.get h = s.groups.get h
  settings : u.settings = s.settings
  events : ((∀ g, (u.groups.get g).members = (s.groups.get g).members) ∧ u.events = s.events) ∨
    u.events = (s.post .gateClosed).events
  silent : (∀ n ∈ ns, memberGroup s.groups n = none) →
    (∀ g, (u.groups.get g).members = (s.groups.get g).members) ∧ u.events = s.events

theorem ParkedQuietly.refl (s : State) : ParkedQuietly [] s s where
  gates _ _ := rfl
  groups _ _ := rfl
  settings := rfl
  events := .inl ⟨fun _ => rfl, rfl⟩
  silent _ := ⟨fun _ => rfl, rfl⟩

theorem State.post_of_events {s u : State} (settings : u.settings = s.settings) (events : u.events = s.events) (k : EventKind) :
    (u.post k).events = (s.post k).events := by
  rw [State.post, State.post, State.postMask, State.postMask, settings, events]

theorem memberGroup_of_members {before after : Table 6 GroupState} (n : Channel)
    (same : ∀ g, (after.get g).members = (before.get g).members) (absent : memberGroup before n = none) :
    memberGroup after n = none :=
  (memberGroup_eq_none _ _).mpr fun g y member => (memberGroup_eq_none _ _).mp absent g y (same g ▸ member)

theorem ParkedQuietly.trans {t : State} {ms ns : List Channel} (h : ParkedQuietly ms s u) (k : ParkedQuietly ns u t) :
    ParkedQuietly (ms ++ ns) s t where
  gates n out := by
    obtain ⟨first, second⟩ := not_or.mp fun both => out (List.mem_append.mpr both)
    rw [k.gates n second, h.gates n first]
  groups g apart := by
    have first := h.groups g fun n mem => apart n (List.mem_append_left _ mem)
    rw [k.groups g fun n mem => by rw [first]; exact apart n (List.mem_append_right _ mem), first]
  settings := k.settings.trans h.settings
  events := by
    obtain ⟨same, quiet⟩ | posted := h.events
    · obtain ⟨still, silent⟩ | posted := k.events
      · exact .inl ⟨fun g => (still g).trans (same g), silent.trans quiet⟩
      · exact .inr (posted.trans (State.post_of_events h.settings quiet _))
    · have again : (u.post .gateClosed).events = (s.post .gateClosed).events := by
        rw [State.post_of_events (s := s.post .gateClosed) h.settings posted]
        exact congrArg State.events (s.postMask_again _)
      obtain ⟨-, silent⟩ | more := k.events
      · exact .inr (silent.trans posted)
      · exact .inr (more.trans again)
  silent none := by
    obtain ⟨same, quiet⟩ := h.silent fun n mem => none n (List.mem_append_left _ mem)
    obtain ⟨still, silent⟩ := k.silent fun n mem =>
      memberGroup_of_members n same (none n (List.mem_append_right _ mem))
    exact ⟨fun g => (still g).trans (same g), silent.trans quiet⟩

theorem ParkedQuietly.leave (s : State) (n : Channel) : ParkedQuietly [n] s (s.onMix (Mix.leaveQuietly n .parked)) := by
  have members (g : Group) : ((s.mix.unwait n).groups.get g).members = (s.groups.get g).members := by
    rw [Mix.unwait_groups_get]
    rfl
  have gates : ∀ k, k ∉ [n] → (s.mix.leaveQuietly n .parked).gates.get k = s.gates.get k := fun k out => by
    have other : n ≠ k := fun same => out (List.mem_singleton.mpr same.symm)
    rw [Mix.leaveQuietly, Mix.evict_get_other _ _ other]
    rfl
  have groups : ∀ h, (∀ k ∈ [n], k ∉ (s.groups.get h).waiting ∧ ∀ y ∈ (s.groups.get h).members, y.channel ≠ k) →
      (s.mix.leaveQuietly n .parked).groups.get h = s.groups.get h := fun h apart => by
    obtain ⟨unlisted, out⟩ := apart n (List.mem_singleton_self n)
    have same : (s.mix.unwait n).groups.get h = s.groups.get h := by
      have kept : (s.mix.groups.get h).waiting.filter (fun w => w != n) = (s.mix.groups.get h).waiting :=
        Mix.Law.filter_waiting_of_not_mem unlisted
      rw [Mix.unwait_groups_get, kept]
      rfl
    rw [Mix.leaveQuietly]
    cases found : memberGroup (s.mix.unwait n).groups n with
    | none => rw [Mix.evict_of_none found]; exact same
    | some g =>
      by_cases at_ : g = h
      · subst at_
        obtain ⟨y, member, mine⟩ := holds_of_memberGroup found
        rw [members] at member
        exact absurd mine (out y member)
      · rw [Mix.evict_groups_get_other found _ at_]
        exact same
  cases found : memberGroup (s.mix.unwait n).groups n with
  | none =>
    have alone : s.mix.leaveQuietly n .parked = (s.mix.unwait n).setState n .parked := Mix.evict_of_none found _
    have events : (s.onMix (Mix.leaveQuietly n .parked)).events = s.events := by
      rw [State.onMix_events, alone]
      exact congrArg State.events (State.postMask_zero s)
    have kept (g : Group) : ((s.onMix (Mix.leaveQuietly n .parked)).groups.get g).members = (s.groups.get g).members := by
      rw [State.onMix_groups, alone]
      exact members g
    exact ⟨gates, groups, rfl, .inl ⟨kept, events⟩, fun _ => ⟨kept, events⟩⟩
  | some g =>
    have posted : (s.mix.leaveQuietly n .parked).posted = EventKind.gateClosed.mask := by
      rw [Mix.leaveQuietly, Mix.evict, found]
      exact BitVec.zero_or
    refine ⟨gates, groups, rfl, .inr ?_, fun none => ?_⟩
    · rw [State.onMix_events, posted]
      rfl
    · have out := memberGroup_of_members n members (none n (List.mem_singleton_self n))
      rw [found] at out
      cases out

theorem ParkedQuietly.parkIneligible (ns : List Channel) (s : State) : ParkedQuietly ns s (s.parkIneligible ns) := by
  unfold State.parkIneligible
  induction ns generalizing s with
  | nil => exact .refl s
  | cons n ns ih =>
    rw [List.foldl_cons]
    refine ParkedQuietly.trans (ms := [n]) ?_ (ih _)
    split
    · exact ⟨fun _ _ => rfl, fun _ _ => rfl, rfl, .inl ⟨fun _ => rfl, rfl⟩, fun _ => ⟨fun _ => rfl, rfl⟩⟩
    · exact .leave s n

end

section
variable {s : State} {g : Group} {r : GroupRec}

/-- Enabled cleared and nothing else. -/
theorem State.storeGroup_off (only : r = { s.settings.groupRecord g with enabled := false })
    (on : (s.settings.groupRecord g).enabled = true) :
    s.storeGroup s.settings.active g r = ((s.recorded g r).groupDisabled g).settle s := by
  have off : r.enabled = false := by rw [only]
  have master : r.master = (s.settings.groupRecord g).master := by rw [only]
  have hold : r.lastHold = (s.settings.groupRecord g).lastHold := by rw [only]
  have maxOpen : r.maxOpen = (s.settings.groupRecord g).maxOpen := by rw [only]
  have disables : ((s.settings.groupRecord g).enabled : Prop) ∧ ¬r.enabled := ⟨on, by rw [off]; exact Bool.false_ne_true⟩
  have rests : ¬((¬(s.settings.groupRecord g).enabled : Prop) ∧ r.enabled) := fun both => both.1 on
  have stays : ¬(((s.settings.groupRecord g).lastHold : Prop) ∧ ¬r.lastHold) := fun both => both.2 (hold ▸ both.1)
  have size : ((s.recorded g r).groupDisabled g).groupResized g (s.settings.groupRecord g).maxOpen r.maxOpen =
    (s.recorded g r).groupDisabled g := if_pos maxOpen
  rw [State.storeGroup_active]
  simp only [State.groupEffects, if_pos disables, if_neg rests, size, if_neg stays, if_pos master.symm]

theorem mem_channelsOf {c : Settings} {n : Channel} : n ∈ c.channelsOf g ↔ c.channelGroup n = some g := by
  simp [Settings.channelsOf]

/-- What disabling a group leaves (R105, step 1). -/
theorem storeGroup_off (law : GroupLaw s) (only : r = { s.settings.groupRecord g with enabled := false })
    (on : (s.settings.groupRecord g).enabled = true) (room : (s.groups.get g).forcedCount ≤ r.maxOpen) :
    let t := s.storeGroup s.settings.active g r
    t.groups.get g = ⟨(s.groups.get g).holder, [], []⟩ ∧ (∀ h, h ≠ g → t.groups.get h = s.groups.get h) ∧
      (∀ n, t.gates.get n = if s.settings.channelGroup n = some g
        then { s.gates.get n with state := .parked, holdCounter := 0 } else s.gates.get n) ∧
      t.engine = { s.engine with
        queue := if (s.groups.get g).members = [] then s.engine.queue else mergeItem (.group g) s.engine.queue } ∧
      t.events = (if (s.groups.get g).members = [] then s else s.post .gateClosed).events ∧ TargetLaw t := by
  intro t
  have sets := (groupLaw_gating law).law
  have after : GroupLaw t := groupLaw_storeGroup law fun _ => room
  have quiet : Quiet EventMask.kinds s t := Quiet.storeGroup Mix.postsGates_all ..
  have ground : t.ground = { s.ground with settings := s.settings.setGroup s.settings.active g r } := s.storeGroup_ground ..
  have whole : t = ((s.recorded g r).groupDisabled g).settle s := State.storeGroup_off only on
  have record : t.settings = (s.recorded g r).settings := congrArg Ground.settings ground
  have cleared (h : Group) (other : g ≠ h) :
      ((s.recorded g r).groups.modify g fun x => { x with waiting := [] }).get h = s.groups.get h := Table.get_modify_other _ _ other
  have members (h : Group) : (((s.recorded g r).groups.modify g fun x => { x with waiting := [] }).get h).members =
      (s.groups.get h).members := Table.get_modify_congr _ GroupState.members (by exact fun _ => rfl) h
  have parks := ParkedQuietly.parkIneligible ((s.recorded g r).settings.channelsOf g)
    { s.recorded g r with groups := (s.recorded g r).groups.modify g fun x => { x with waiting := [] } }
  have still := OnlyCloses.parkIneligible ((s.recorded g r).settings.channelsOf g)
    { s.recorded g r with groups := (s.recorded g r).groups.modify g fun x => { x with waiting := [] } }
  have mix := OnlyMix.parkIneligible ((s.recorded g r).settings.channelsOf g)
    { s.recorded g r with groups := (s.recorded g r).groups.modify g fun x => { x with waiting := [] } }
  have targets : TargetLaw t := by rw [whole]; exact targetLaw_settle _ _
  have asks : t.engine = ((s.recorded g r).groupDisabled g).engine.askCounts s.groups ((s.recorded g r).groupDisabled g).groups := by
    rw [whole]
    rfl
  have same : t.gates = ((s.recorded g r).groupDisabled g).gates ∧ t.groups = ((s.recorded g r).groupDisabled g).groups ∧
      t.events = ((s.recorded g r).groupDisabled g).events := by
    rw [whole]
    exact ⟨rfl, rfl, rfl⟩
  change ParkedQuietly _ _ ((s.recorded g r).groupDisabled g) at parks
  change OnlyCloses _ ((s.recorded g r).groupDisabled g) at still
  change OnlyMix _ ((s.recorded g r).groupDisabled g) at mix
  clear whole
  generalize (s.recorded g r).groupDisabled g = u at *
  clear_value t
  obtain ⟨gates, groups, events⟩ := same
  have barred (n : Channel) (own : s.settings.channelGroup n = some g) : ¬t.eligible n = true := fun able => by
    obtain ⟨⟨h, mine, enabled⟩, -⟩ := (State.eligible_iff _ _).mp able
    rw [record] at mine enabled
    have : g = h := Option.some.inj (own.symm.trans mine)
    subst this
    rw [s.recorded_groupRecord_self, only] at enabled
    cases enabled
  have empty : (t.mix.groups.get g).members = [] ∧ (t.mix.groups.get g).waiting = [] :=
    (groupLaw_gating after).law.empty fun n own => barred n (by rw [record] at own; exact own)
  have others (h : Group) (other : h ≠ g) : t.groups.get h = s.groups.get h := by
    rw [groups, parks.groups h fun n mine => ?_]
    · exact cleared h (Ne.symm other)
    · have own : s.settings.channelGroup n = some g := mem_channelsOf.mp mine
      change n ∉ (((s.recorded g r).groups.modify g fun x => { x with waiting := [] }).get h).waiting ∧
        ∀ y ∈ (((s.recorded g r).groups.modify g fun x => { x with waiting := [] }).get h).members, y.channel ≠ n
      rw [cleared h (Ne.symm other)]
      refine ⟨fun listed => other (Option.some.inj ((sets.waits h n listed).2.2.symm.trans own)), ?_⟩
      rintro y member rfl
      exact other (Option.some.inj ((sets.own h y member).symm.trans own))
  refine ⟨?_, others, fun n => ?_, ?_, ?_, targets⟩
  · have holder := quiet.holder g
    obtain ⟨none, idle⟩ := empty
    rw [← holder, ← none, ← idle]
    rfl
  · split
    case isTrue own =>
      have parked : (t.gates.get n).state = .parked := by
        by_contra up
        exact barred n own (((groupLaw_gating after).law.gate n).ok up)
      have counter := ((groupLaw_gating after).law.gate n).rests
        (by rw [show t.mix.gates.get n = t.gates.get n from rfl, parked]; decide)
      refine Gate.eq_of_still ?_ parked counter
      rw [gates]
      exact still.gate n
    case isFalse other =>
      rw [gates]
      exact parks.gates n fun mine => other (mem_channelsOf.mp mine)
  · have counts := Engine.askCounts_only (before := s.groups) (after := t.groups) (g := g) s.engine fun h other => by
      rw [others h other]
    have kept : u.engine = s.engine := mix.engine
    have length : (t.groups.get g).members.length = 0 := congrArg List.length empty.1
    rw [asks, kept, ← groups, counts, length]
    by_cases none : (s.groups.get g).members = []
    · have zero : (s.groups.get g).members.length = 0 := congrArg List.length none
      rw [if_pos zero, if_pos none]
    · have some : ¬(s.groups.get g).members.length = 0 := fun zero => none (List.length_eq_zero_iff.mp zero)
      rw [if_neg some, if_neg none]
      rfl
  · by_cases none : (s.groups.get g).members = []
    · rw [if_pos none, events]
      refine (parks.silent fun n mine => (memberGroup_eq_none _ _).mpr fun h y member same => ?_).2
      have own : s.settings.channelGroup n = some g := mem_channelsOf.mp mine
      have member' : y ∈ (s.groups.get h).members := members h ▸ member
      have its := sets.own h y member'
      rw [same, own, Option.some.injEq] at its
      subst its
      rw [none] at member'
      cases member'
    · rw [if_neg none, events]
      obtain ⟨unmoved, -⟩ | posted := parks.events
      · refine absurd ?_ none
        rw [← members g]
        exact (unmoved g).symm.trans ((congrArg (fun x : Table 6 GroupState => (x.get g).members) groups).symm.trans empty.1)
      · exact posted

end

end Sys2Proof.Machine
end

section
/-! PROOFS. GROUP writes that enable a group (R105, step 2). -/

namespace Sys2Proof.Machine

open Sys2Proof.Safety

/-- A channel that asks for forced entry when its group is enabled: eligible, ALIGNED and in FORCE_OPEN (R87). -/
def State.forces (d : State) (n : Channel) : Bool :=
  decide (d.eligible n = true ∧ d.engine.aligned.get n = true ∧ (d.gates.get n).mode = .forceOpen)

/-- The set and the list of `g` as its channels leave PARKED, those in `done` having been re-evaluated. -/
structure Filling (d u : State) (g : Group) (done : List Channel) : Prop where
  only : OnlyMix d u
  able : ∀ n, u.eligible n = d.eligible n
  still : ∀ n, (u.gates.get n).still = (d.gates.get n).still
  others : ∀ h, h ≠ g → u.groups.get h = d.groups.get h
  order : (u.groups.get g).members.map Member.channel ++ (u.groups.get g).waiting = done.filter d.forces
  records : ∀ y ∈ (u.groups.get g).members, y = forcedRecord d y.channel ∧ (u.gates.get y.channel).state = .opened
  size : (u.groups.get g).members.length ≤ (d.settings.groupRecord g).maxOpen
  full : (u.groups.get g).waiting ≠ [] → (u.groups.get g).members.length = (d.settings.groupRecord g).maxOpen
  elsewhere : ∀ n, n ∉ done → u.gates.get n = d.gates.get n
  parked : ∀ n ∈ done, ((u.gates.get n).state = .parked ↔ ¬(d.eligible n = true ∧ d.engine.aligned.get n = true))
  closed : ∀ n ∈ done, (u.gates.get n).state ≠ .parked → (d.gates.get n).mode ≠ .forceOpen → (u.gates.get n).state = .closed
  events : u.events = (if (u.groups.get g).members = [] then d else d.post .gateOpened).events

section
variable {d u v : State} {g : Group} {done : List Channel} {n : Channel}

theorem Filling.start (members : (d.groups.get g).members = []) (waiting : (d.groups.get g).waiting = []) : Filling d d g [] where
  only := OnlyMix.refl d
  able _ := rfl
  still _ := rfl
  others _ _ := rfl
  order := by rw [members, waiting]; rfl
  records y member := by rw [members] at member; cases member
  size := by rw [members]; exact Nat.zero_le _
  full some := absurd waiting some
  elsewhere _ _ := rfl
  parked := nofun
  closed := nofun
  events := by rw [if_pos members]

/-- A re-evaluation that moved the gate of `n` alone, and no set. -/
theorem Filling.pass (h : Filling d u g done) (fresh : n ∉ done) (only : OnlyMix u v) (able : ∀ k, v.eligible k = u.eligible k)
    (groups : v.groups = u.groups) (events : v.events = u.events) (gates : ∀ k, n ≠ k → v.gates.get k = u.gates.get k)
    (still : (v.gates.get n).still = (u.gates.get n).still) (rests : d.forces n = false)
    (parked : (v.gates.get n).state = .parked ↔ ¬(d.eligible n = true ∧ d.engine.aligned.get n = true))
    (closed : (v.gates.get n).state ≠ .parked → (v.gates.get n).state = .closed) : Filling d v g (done ++ [n]) where
  only := h.only.trans only
  able k := (able k).trans (h.able k)
  still k := by
    by_cases same : n = k
    · exact same ▸ still.trans (h.still n)
    · rw [gates k same]
      exact h.still k
  others k other := by rw [groups]; exact h.others k other
  order := by
    rw [groups, h.order, List.filter_append, List.filter_cons_of_neg (by rw [rests]; exact Bool.false_ne_true)]
    exact (List.append_nil _).symm
  records y member := by
    rw [groups] at member
    obtain ⟨record, opened⟩ := h.records y member
    have listed : y.channel ∈ done.filter d.forces := by
      rw [← h.order]
      exact List.mem_append_left _ (List.mem_map_of_mem member)
    have other : n ≠ y.channel := fun same => fresh (same ▸ List.mem_of_mem_filter listed)
    rw [gates _ other]
    exact ⟨record, opened⟩
  size := by rw [groups]; exact h.size
  full := by rw [groups]; exact h.full
  elsewhere k out := by
    obtain ⟨before, other⟩ := not_or.mp fun both => out (List.mem_append.mpr both)
    rw [gates k fun same => other (List.mem_singleton.mpr same.symm), h.elsewhere k before]
  parked k mem := by
    obtain before | rfl := (List.mem_append.mp mem).imp_right List.mem_singleton.mp
    · rw [gates k fun same => fresh (same ▸ before)]
      exact h.parked k before
    · exact parked
  closed k mem := by
    obtain before | rfl := (List.mem_append.mp mem).imp_right List.mem_singleton.mp
    · rw [gates k fun same => fresh (same ▸ before)]
      exact h.closed k before
    · exact fun up _ => closed up
  events := by rw [events, groups]; exact h.events

/-- What a forced ask leaves of a set of FORCED members and its list (R114, R115): the asker in the room there is, or at the
tail of the list. -/
theorem Filling.asked (h : Filling d u g done) (own : d.settings.channelGroup n = some g) (fresh : n ∉ done)
    (elsewhere : ∀ k, n ∉ (d.groups.get k).waiting) : ∃ m, (u.mix.setState n .closed).askForced u.settings n = m ∧
    (∀ k, n ≠ k → m.gates.get k = u.gates.get k) ∧ (m.gates.get n).still = (u.gates.get n).still ∧
    ((u.groups.get g).members.length < (d.settings.groupRecord g).maxOpen ∧ (m.gates.get n).state = .opened ∧
        m.groups = u.groups.set g ⟨(u.groups.get g).holder, (u.groups.get g).members ++ [forcedRecord d n], []⟩ ∧
        m.posted = EventKind.gateOpened.mask ∨
      (u.groups.get g).members.length = (d.settings.groupRecord g).maxOpen ∧ (m.gates.get n).state = .closed ∧
        m.groups = u.groups.set g { u.groups.get g with waiting := (u.groups.get g).waiting ++ [n] } ∧ m.posted = 0) := by
  have unlisted : n ∉ (u.groups.get g).waiting := fun listed => by
    have mem : n ∈ done.filter d.forces := by
      rw [← h.order]
      exact List.mem_append_right _ listed
    exact fresh (List.mem_of_mem_filter mem)
  have apart {y : Member} (member : y ∈ (u.groups.get g).members) : n ≠ y.channel := fun same => by
    have mem : y.channel ∈ done.filter d.forces := by
      rw [← h.order]
      exact List.mem_append_left _ (List.mem_map_of_mem member)
    exact fresh (same ▸ List.mem_of_mem_filter mem)
  have asked := Mix.askForced_of_group (u.mix.setState n .closed) (c := u.settings) (by rw [h.only.settings]; exact own)
  rw [show (u.settings.groupRecord g).maxOpen = (d.settings.groupRecord g).maxOpen by rw [h.only.settings]] at asked
  have groups : (u.mix.setState n .closed).groups = u.groups := Mix.setState_groups ..
  have gate (k : Channel) (other : n ≠ k) : (u.mix.setState n .closed).gates.get k = u.gates.get k :=
    Mix.setState_get_other _ _ other
  have self : (u.mix.setState n .closed).gates.get n = (u.gates.get n).put .closed := Mix.setState_get_self ..
  have noLastOn : ∀ y ∈ ((u.mix.setState n .closed).groups.get g).members,
      ((u.mix.setState n .closed).gates.get y.channel).state ≠ .lastOn := fun y member => by
    rw [groups] at member
    rw [gate _ (apart member), (h.records y member).2]
    decide
  by_cases room : (u.groups.get g).members.length < (d.settings.groupRecord g).maxOpen
  · have granted : (u.mix.setState n .closed).grantable (d.settings.groupRecord g).maxOpen g = true := by
      rw [Mix.grantable, GroupState.openCount, groups, decide_eq_true room, Bool.or_true, Bool.true_or]
    have entered : (u.mix.setState n .closed).enterForced (d.settings.groupRecord g).maxOpen g n =
        (u.mix.setState n .closed).join g n .forced := by
      rw [Mix.enterForced, Mix.lastOnMember_none.mpr noLastOn]
      exact if_pos (by rw [groups]; exact room)
    have idle : (u.groups.get g).waiting = [] := by
      by_contra some
      have := h.full some
      omega
    have joined := Mix.join_eq (g := g) (n := n) (m := u.mix.setState n .closed) (fun k other => by
      rw [groups, h.others k other]
      exact elsewhere k) .forced
    have record : (u.mix.setState n .closed).recordOf n .forced = forcedRecord d n := by
      have latest := congrArg Gate.latest (h.still n)
      rw [Mix.recordOf, self]
      exact congrArg (Member.mk n .forced) latest
    rw [groups, idle, record, self] at joined
    refine ⟨_, asked.trans ((if_pos granted).trans (entered.trans joined)), fun k other => ?_, ?_, .inl ⟨room, ?_, rfl, ?_⟩⟩
    · exact (Table.get_set_other _ _ other).trans (gate k other)
    · exact (congrArg Gate.still (Table.get_set_self ..)).trans rfl
    · exact congrArg Gate.state (Table.get_set_self ..)
    · exact BitVec.zero_or
  · have full : (u.groups.get g).members.length = (d.settings.groupRecord g).maxOpen := Nat.le_antisymm h.size (Nat.not_lt.mp room)
    have denied : (u.mix.setState n .closed).grantable (d.settings.groupRecord g).maxOpen g = false := by
      refine Mix.grantable_full (by rw [groups]; exact full.ge) (fun y member => ?_) noLastOn
      rw [groups] at member
      rw [(h.records y member).1]
    refine ⟨_, asked.trans (if_neg (by rw [denied]; exact Bool.false_ne_true)), fun k other => gate k other, ?_,
      .inr ⟨full, ?_, ?_, rfl⟩⟩
    · exact (congrArg Gate.still self).trans rfl
    · exact congrArg Gate.state self
    · rw [Mix.enqueueWaiting, Mix.onGroup_groups, groups, Table.modify]
      rw [if_neg (by simpa using unlisted)]

theorem Filling.enter (h : Filling d u g done) (fresh : n ∉ done) (only : OnlyMix u v) (able : ∀ k, v.eligible k = u.eligible k)
    (forces : d.forces n = true) {ms : List Member} {ws : List Channel}
    (groups : v.groups = u.groups.set g ⟨(u.groups.get g).holder, ms, ws⟩)
    (order : ms.map Member.channel ++ ws = (u.groups.get g).members.map Member.channel ++ (u.groups.get g).waiting ++ [n])
    (records : ∀ y ∈ ms, y ∈ (u.groups.get g).members ∨ y = forcedRecord d n ∧ (v.gates.get n).state = .opened)
    (size : ms.length ≤ (d.settings.groupRecord g).maxOpen) (full : ws ≠ [] → ms.length = (d.settings.groupRecord g).maxOpen)
    (gates : ∀ k, n ≠ k → v.gates.get k = u.gates.get k) (still : (v.gates.get n).still = (u.gates.get n).still)
    (up : (v.gates.get n).state ≠ .parked) (events : v.events = (if ms = [] then d else d.post .gateOpened).events) :
    Filling d v g (done ++ [n]) := by
  have set_ : v.groups.get g = ⟨(u.groups.get g).holder, ms, ws⟩ := by rw [groups, Table.get_set_self]
  obtain ⟨eligible, aligned, mode⟩ := of_decide_eq_true forces
  refine ⟨h.only.trans only, fun k => (able k).trans (h.able k), fun k => ?_, fun k other => ?_, ?_, fun y member => ?_,
    by rw [set_]; exact size, by rw [set_]; exact full, fun k out => ?_, fun k mem => ?_, fun k mem => ?_, by rw [set_]; exact events⟩
  · by_cases same : n = k
    · exact same ▸ still.trans (h.still n)
    · rw [gates k same]
      exact h.still k
  · rw [groups, Table.get_set_other _ _ (Ne.symm other)]
    exact h.others k other
  · rw [set_, order, h.order, List.filter_append, List.filter_cons_of_pos forces]
    rfl
  · rw [set_] at member
    obtain old | ⟨rfl, opened⟩ := records y member
    · obtain ⟨record, opened⟩ := h.records y old
      have listed : y.channel ∈ done.filter d.forces := by
        rw [← h.order]
        exact List.mem_append_left _ (List.mem_map_of_mem old)
      have other : n ≠ y.channel := fun same => fresh (same ▸ List.mem_of_mem_filter listed)
      rw [gates _ other]
      exact ⟨record, opened⟩
    · exact ⟨rfl, opened⟩
  · obtain ⟨before, other⟩ := not_or.mp fun both => out (List.mem_append.mpr both)
    rw [gates k fun same => other (List.mem_singleton.mpr same.symm), h.elsewhere k before]
  · obtain before | rfl := (List.mem_append.mp mem).imp_right List.mem_singleton.mp
    · rw [gates k fun same => fresh (same ▸ before)]
      exact h.parked k before
    · exact ⟨fun parked => absurd parked up, fun barred => absurd ⟨eligible, aligned⟩ barred⟩
  · obtain before | rfl := (List.mem_append.mp mem).imp_right List.mem_singleton.mp
    · rw [gates k fun same => fresh (same ▸ before)]
      exact h.closed k before
    · exact fun _ free => absurd mode free

/-- One channel of the group re-evaluated. -/
theorem Filling.step (h : Filling d u g done) (own : d.settings.channelGroup n = some g) (fresh : n ∉ done)
    (elsewhere : ∀ k, n ∉ (d.groups.get k).waiting) (parked : (d.gates.get n).state = .parked) :
    Filling d (u.reEvaluate n) g (done ++ [n]) := by
  have before : (u.gates.get n).state = .parked := by rw [h.elsewhere n fresh]; exact parked
  have only := OnlyMix.reEvaluate u n
  have able := u.reEvaluate_eligible n
  by_cases wakes : d.eligible n = true ∧ d.engine.aligned.get n = true
  · have woken := State.reEvaluate_woken ((h.able n).trans wakes.1) before (by rw [h.only.engine]; exact wakes.2)
    have modes : (u.gates.get n).mode = (d.gates.get n).mode := by rw [h.elsewhere n fresh]
    by_cases forced : (d.gates.get n).mode = .forceOpen
    · obtain ⟨m, asked, gates, still, outcome⟩ := h.asked own fresh elsewhere
      rw [Mix.leaveParked_forced (modes.trans forced), asked] at woken
      rw [woken] at only able ⊢
      have forces : d.forces n = true := decide_eq_true ⟨wakes.1, wakes.2, forced⟩
      obtain ⟨room, opened, groups, posted⟩ | ⟨size, closed, groups, posted⟩ := outcome
      · have idle : (u.groups.get g).waiting = [] := by
          by_contra some
          have := h.full some
          omega
        refine h.enter fresh only able forces groups ?_ (fun y member => ?_) ?_ (fun some => absurd rfl some) gates still
          (by rw [State.withMix_gates, opened]; decide) ?_
        · rw [List.map_append, List.append_nil, idle, List.append_nil]
          rfl
        · exact (List.mem_append.mp member).imp_right fun new => ⟨List.mem_singleton.mp new, opened⟩
        · rw [List.length_append]
          exact room
        · rw [if_neg (by simp)]
          change (u.postMask m.posted).events = _
          rw [posted]
          have events := h.events
          split at events
          · exact State.post_of_events h.only.settings events _
          · rw [← show ((d.post .gateOpened).post .gateOpened).events = (d.post .gateOpened).events from
              congrArg State.events (d.postMask_again _)]
            exact State.post_of_events (s := d.post .gateOpened) h.only.settings events _
      · refine h.enter fresh only able forces groups (List.append_assoc ..).symm (fun y member => .inl member) h.size
          (fun _ => size) gates still (by rw [State.withMix_gates, closed]; decide) ?_
        change (u.postMask m.posted).events = _
        rw [posted, State.postMask_zero]
        exact h.events
    · rw [Mix.leaveParked_free (by rw [modes]; exact forced)] at woken
      have events : (u.reEvaluate n).events = u.events := by
        rw [woken, ← congrArg State.events (State.postMask_zero u)]
        rfl
      have gates : (u.reEvaluate n).gates = u.gates.set n ((u.gates.get n).put .closed) := by rw [woken]; rfl
      have closed : ((u.reEvaluate n).gates.get n).state = .closed := by rw [gates, Table.get_set_self]; rfl
      refine h.pass fresh only able (by rw [woken]; rfl) events (fun k other => by rw [gates, Table.get_set_other _ _ other])
        (by rw [gates, Table.get_set_self]; rfl) (decide_eq_false fun ⟨_, _, mode⟩ => forced mode) ?_ fun _ => closed
      rw [closed]
      exact ⟨nofun, fun barred => absurd wakes barred⟩
  · rw [State.reEvaluate_still (fun eligible aligned _ => wakes ⟨(h.able n).symm.trans eligible, by rw [← h.only.engine]; exact aligned⟩)
      fun _ => before]
    exact h.pass fresh (OnlyMix.refl u) (fun _ => rfl) rfl rfl (fun _ _ => rfl) rfl
      (decide_eq_false fun ⟨eligible, aligned, _⟩ => wakes ⟨eligible, aligned⟩)
      ⟨fun _ => wakes, fun _ => before⟩ fun up => absurd before up

theorem Filling.all {ns : List Channel} (h : Filling d u g done) (nodup : (done ++ ns).Nodup)
    (own : ∀ n ∈ ns, d.settings.channelGroup n = some g) (elsewhere : ∀ n ∈ ns, ∀ k, n ∉ (d.groups.get k).waiting)
    (parked : ∀ n ∈ ns, (d.gates.get n).state = .parked) : Filling d (u.reEvaluateAll ns) g (done ++ ns) := by
  induction ns generalizing u done with
  | nil =>
    rw [List.append_nil]
    exact h
  | cons n ns ih =>
    have fresh : n ∉ done := fun mem => List.disjoint_of_nodup_append nodup mem List.mem_cons_self
    have next := h.step (own n List.mem_cons_self) fresh (elsewhere n List.mem_cons_self) (parked n List.mem_cons_self)
    have whole := ih next (by rw [List.append_assoc]; exact nodup) (fun k mem => own k (List.mem_cons_of_mem _ mem))
      (fun k mem => elsewhere k (List.mem_cons_of_mem _ mem)) fun k mem => parked k (List.mem_cons_of_mem _ mem)
    rw [List.append_assoc] at whole
    exact whole

end

end Sys2Proof.Machine
end

section
/-! PROOFS. The obligation about GROUP writes (R104 to R106). -/

namespace Sys2Proof.Machine

open Sys2Proof.Safety

section
variable {s : State} {p : Port} {g : Group} {r : GroupRec}

/-! ### A group enabled -/

/-- Enabled set and nothing else. -/
theorem State.storeGroup_on (only : r = { s.settings.groupRecord g with enabled := true })
    (off : (s.settings.groupRecord g).enabled = false) :
    s.storeGroup s.settings.active g r = ((s.recorded g r).reEvaluateAll (s.settings.channelsOf g)).settle s := by
  have on : r.enabled = true := by rw [only]
  have master : r.master = (s.settings.groupRecord g).master := by rw [only]
  have hold : r.lastHold = (s.settings.groupRecord g).lastHold := by rw [only]
  have maxOpen : r.maxOpen = (s.settings.groupRecord g).maxOpen := by rw [only]
  have rests : ¬(((s.settings.groupRecord g).enabled : Prop) ∧ ¬r.enabled) := fun both => both.2 on
  have enables : (¬(s.settings.groupRecord g).enabled : Prop) ∧ r.enabled := ⟨by rw [off]; exact Bool.false_ne_true, on⟩
  have stays : ¬(((s.settings.groupRecord g).lastHold : Prop) ∧ ¬r.lastHold) := fun both => both.2 (hold ▸ both.1)
  have size (u : State) : u.groupResized g (s.settings.groupRecord g).maxOpen r.maxOpen = u := if_pos maxOpen
  rw [State.storeGroup_active]
  simp only [State.groupEffects, if_neg rests, if_pos enables, size, if_neg stays, if_pos master.symm]
  rfl

/-- A disabled group has an empty set and an empty list, and its channels are PARKED (R85). -/
theorem disabled_rests (law : GroupLaw s) (off : (s.settings.groupRecord g).enabled = false) :
    (s.groups.get g).members = [] ∧ (s.groups.get g).waiting = [] ∧
      ∀ n, s.settings.channelGroup n = some g → (s.gates.get n).state = .parked := by
  have barred (n : Channel) (own : s.settings.channelGroup n = some g) : ¬s.eligible n = true := fun able => by
    obtain ⟨⟨h, mine, enabled⟩, -⟩ := (State.eligible_iff _ _).mp able
    rw [own, Option.some.injEq] at mine
    subst mine
    rw [off] at enabled
    cases enabled
  obtain ⟨members, waiting⟩ := (groupLaw_gating law).law.empty barred
  refine ⟨members, waiting, fun n own => ?_⟩
  by_contra up
  exact barred n own (((groupLaw_gating law).law.gate n).ok up)

/-- What the channels of a group enabled come to (R105, step 2). -/
theorem recorded_filling (law : GroupLaw s)
    (off : (s.settings.groupRecord g).enabled = false) :
    Filling (s.recorded g r) ((s.recorded g r).reEvaluateAll (s.settings.channelsOf g)) g (s.settings.channelsOf g) := by
  obtain ⟨members, waiting, parked⟩ := disabled_rests law off
  refine (Filling.start (d := s.recorded g r) members waiting).all (done := []) ?_ (fun n mem => mem_channelsOf.mp mem) (fun n mem k listed => ?_)
    fun n mem => parked n (mem_channelsOf.mp mem)
  · rw [List.nil_append]
    exact (List.nodup_finRange 16).filter _
  · have closed := ((groupLaw_gating law).law.waits k n listed).1
    rw [show (s.mix.gates.get n).state = .parked from parked n (mem_channelsOf.mp mem)] at closed
    cases closed

/-- The asks of a group enabled, in ascending number. -/
theorem channelsOf_forces (d : State) (g : Group) (c : Settings) : (c.channelsOf g).filter d.forces =
    (List.finRange 16).filter fun n => decide (c.channelGroup n = some g ∧ d.eligible n = true ∧
      d.engine.aligned.get n = true ∧ (d.gates.get n).mode = .forceOpen) := by
  rw [Settings.channelsOf, List.filter_filter]
  refine List.filter_congr fun n _ => ?_
  rw [State.forces, Bool.and_comm, Bool.decide_and (c.channelGroup n = some g), beq_eq_decide]

/-! ### What every accepted write leaves beside the sets -/

/-- A write to the active record that is accepted (R104): the answer, and what it stores and leaves. -/
structure GroupAccepted (s : State) (p : Port) (g : Group) (r : GroupRec) : Prop where
  runs : exec (.writeEntryGroup p (BitVec.ofNat 16 (s.settings.active.val * 6 + g.val)) r.entry) s =
    .next (answering (s.storeGroup s.settings.active g r) p 0x02 .ok [])
  law : GroupLaw s
  targets : TargetLaw s
  room : (s.groups.get g).forcedCount ≤ r.maxOpen

theorem State.recorded_settings (s : State) (g : Group) (r : GroupRec) : (s.recorded g r).settings = { s.settings with
    groups := s.settings.groups.set s.settings.active ((s.settings.groups.get s.settings.active).set g r) } := rfl

section
variable (h : GroupAccepted s p g r)
include h

theorem GroupAccepted.onlyMaster (enabled : r.enabled = (s.settings.groupRecord g).enabled)
    (maxOpen : r.maxOpen = (s.settings.groupRecord g).maxOpen) (hold : r.lastHold = (s.settings.groupRecord g).lastHold) :
    exec (.writeEntryGroup p (BitVec.ofNat 16 (s.settings.active.val * 6 + g.val)) r.entry) s = .next (answering { s with
      settings := (s.recorded g r).settings
      engine := if r.master = (s.settings.groupRecord g).master then s.engine else { s.engine with
        queue := mergeItem (.group g) s.engine.queue } } p 0x02 .ok []) := by
  rw [h.runs, storeGroup_master h.targets enabled maxOpen hold]

theorem GroupAccepted.lowered_free (only : r = { s.settings.groupRecord g with maxOpen := r.maxOpen })
    (lowered : r.maxOpen < (s.settings.groupRecord g).maxOpen) (fits : (s.groups.get g).members.length ≤ r.maxOpen) :
    exec (.writeEntryGroup p (BitVec.ofNat 16 (s.settings.active.val * 6 + g.val)) r.entry) s =
      .next (answering { s with settings := (s.recorded g r).settings } p 0x02 .ok []) := by
  have unasked : (s.mix.fitOpenSet r.maxOpen g).offer (s.recorded g r).settings g = s.mix := by
    have stays : s.mix.fitOpenSet r.maxOpen g = s.mix := by
      rw [Mix.fitOpenSet]
      cases (s.mix.groups.get g).openCount with
      | zero => rfl
      | succ fuel => exact if_pos fits
    rw [stays]
    by_cases none : (s.groups.get g).waiting = []
    · exact Mix.offer_of_none none
    · obtain ⟨full, -⟩ := forced_of_waiting h.law none
      omega
  rw [h.runs, State.storeGroup_resized only, State.groupResized_lowered lowered, State.recorded_still h.targets unasked]
  rfl

theorem GroupAccepted.lowered (only : r = { s.settings.groupRecord g with maxOpen := r.maxOpen })
    (below : r.maxOpen < (s.groups.get g).members.length) :
    ∃ t, exec (.writeEntryGroup p (BitVec.ofNat 16 (s.settings.active.val * 6 + g.val)) r.entry) s = .next t ∧
      Answered s t p 0x02 .ok ∧ t.settings = (s.recorded g r).settings ∧
      (t.groups.get g).members.length = r.maxOpen ∧ ((t.groups.get g).members.Sublist (s.groups.get g).members) ∧
      (t.groups.get g).holder = (s.groups.get g).holder ∧ (t.groups.get g).waiting = (s.groups.get g).waiting ∧
      (∀ m ∈ (s.groups.get g).members, m.kind = .forced → m ∈ (t.groups.get g).members) ∧
      (∀ m ∈ (s.groups.get g).members, m ∉ (t.groups.get g).members →
        t.gates.get m.channel = { s.gates.get m.channel with state := .closed, holdCounter := 0 } ∧
        ∀ k ∈ (t.groups.get g).members, k.kind = .auto → QuieterThan (s.groups.get g).members m k) ∧
      (∀ n, (∀ m ∈ (s.groups.get g).members, m ∉ (t.groups.get g).members → m.channel ≠ n) →
        t.gates.get n = s.gates.get n) ∧
      (∀ h, h ≠ g → t.groups.get h = s.groups.get h) ∧ t.events = (s.post .gateClosed).events ∧
      t.engine = { s.engine with queue := mergeItem (.group g) s.engine.queue } ∧ TargetLaw t ∧ SameBuilding s t ∧
      t.delay = s.delay := by
  have bound : (s.groups.get g).members.length ≤ (s.settings.groupRecord g).maxOpen := (groupLaw_fit h.law g).bound
  obtain ⟨m, kept, written, thinned, small, -⟩ := storeGroup_lowered h.law only (by omega) h.room
  have runs := h.runs
  generalize s.storeGroup s.settings.active g r = t at runs written
  have size : kept.length = r.maxOpen := small below.le
  have fewer : kept ≠ (s.groups.get g).members := fun same => by
    rw [same] at size
    omega
  have set_ : t.groups.get g = { s.groups.get g with members := kept } := by
    rw [written.groups, thinned.groups, Table.get_set_self]
    rfl
  have members : (t.groups.get g).members = kept := congrArg GroupState.members set_
  refine ⟨_, runs, congrArg (ByPort.set · p _) written.ports, written.settings, ?_⟩
  change (t.groups.get g).members.length = _ ∧ (t.groups.get g).members.Sublist _ ∧ (t.groups.get g).holder = _ ∧
    (t.groups.get g).waiting = _ ∧ (∀ m ∈ _, _ → m ∈ (t.groups.get g).members) ∧
    (∀ m ∈ _, m ∉ (t.groups.get g).members → t.gates.get m.channel = _ ∧ ∀ k ∈ (t.groups.get g).members, _) ∧
    (∀ n, (∀ m ∈ _, m ∉ (t.groups.get g).members → _) → t.gates.get n = _) ∧ (∀ h, _ → t.groups.get h = _) ∧
    t.events = _ ∧ t.engine = _ ∧ _
  rw [set_, written.gates]
  refine ⟨size, thinned.sublist, rfl, rfl, thinned.forced, thinned.removed, thinned.others, fun k other => ?_, ?_, ?_,
    written.targets, sameBuilding_setPort written.building .., written.delay⟩
  · rw [written.groups, thinned.groups]
    exact Table.get_set_other _ _ (Ne.symm other)
  · have posted := thinned.posted.trans (if_neg fewer)
    rw [written.events, posted]
    exact congrArg (fun mask => (s.postMask mask).events) BitVec.zero_or
  · rw [written.engine, thinned.groups]
    refine (Engine.askCounts_set s.engine s.groups g _).trans (if_neg fun same => ?_)
    change (s.groups.get g).members.length = kept.length at same
    omega

theorem GroupAccepted.raised (only : r = { s.settings.groupRecord g with maxOpen := r.maxOpen })
    (raised : (s.settings.groupRecord g).maxOpen < r.maxOpen) :
    let room := r.maxOpen - (s.groups.get g).members.length
    let entering := (s.groups.get g).waiting.take room
    ∃ t, exec (.writeEntryGroup p (BitVec.ofNat 16 (s.settings.active.val * 6 + g.val)) r.entry) s = .next t ∧
      Answered s t p 0x02 .ok ∧ t.settings = (s.recorded g r).settings ∧
      t.groups.get g = ⟨(s.groups.get g).holder, (s.groups.get g).members ++ entering.map (forcedRecord s),
        (s.groups.get g).waiting.drop room⟩ ∧
      (∀ h, h ≠ g → t.groups.get h = s.groups.get h) ∧
      (∀ n ∈ entering, t.gates.get n = { s.gates.get n with state := .opened, holdCounter := 0 }) ∧
      (∀ n, n ∉ entering → t.gates.get n = s.gates.get n) ∧
      t.engine = { s.engine with
        queue := if entering = [] then s.engine.queue else mergeItem (.group g) s.engine.queue } ∧
      t.events = (if entering = [] then s else s.post .gateOpened).events ∧ TargetLaw t ∧ SameBuilding s t ∧
      t.delay = s.delay := by
  intro room entering
  obtain ⟨m, written, offered⟩ := storeGroup_raised h.law only raised
  have runs := h.runs
  change Mix.Offered s.mix m g entering ((s.groups.get g).waiting.drop room) at offered
  clear_value entering room
  generalize s.storeGroup s.settings.active g r = t at runs written
  refine ⟨_, runs, congrArg (ByPort.set · p _) written.ports, written.settings, ?_, fun k other => ?_, fun n enters => ?_,
    fun n out => ?_, ?_, ?_, written.targets, sameBuilding_setPort written.building .., written.delay⟩
  · change t.groups.get g = _
    rw [written.groups, offered.groups]
    exact (Table.get_set_self ..).trans rfl
  · change t.groups.get k = _
    rw [written.groups, offered.groups]
    exact Table.get_set_other _ _ (Ne.symm other)
  · change t.gates.get n = _
    rw [written.gates]
    exact offered.opened n enters
  · change t.gates.get n = _
    rw [written.gates]
    exact offered.others n out
  · change t.engine = _
    rw [written.engine, offered.groups]
    refine (Engine.askCounts_set s.engine s.groups g _).trans ?_
    by_cases none : entering = []
    · rw [if_pos none, none, List.map_nil, List.append_nil]
      exact if_pos rfl
    · have longer : (s.groups.get g).members.length ≠
          ((s.groups.get g).members ++ entering.map fun n => s.mix.recordOf n .forced).length := by
        have : entering.length ≠ 0 := fun zero => none (List.length_eq_zero_iff.mp zero)
        rw [List.length_append, List.length_map]
        omega
      rw [if_neg none]
      exact if_neg longer
  · change t.events = _
    rw [written.events, offered.posted]
    by_cases none : entering = []
    · rw [if_pos none, if_pos none]
      exact congrArg State.events (State.postMask_zero s)
    · rw [if_neg none, if_neg none]
      exact congrArg (fun mask => (s.postMask mask).events) BitVec.zero_or

theorem GroupAccepted.disabled (only : r = { s.settings.groupRecord g with enabled := false })
    (on : (s.settings.groupRecord g).enabled = true) :
    ∃ t, exec (.writeEntryGroup p (BitVec.ofNat 16 (s.settings.active.val * 6 + g.val)) r.entry) s = .next t ∧
      Answered s t p 0x02 .ok ∧ t.settings = (s.recorded g r).settings ∧
      t.groups.get g = ⟨(s.groups.get g).holder, [], []⟩ ∧ (∀ h, h ≠ g → t.groups.get h = s.groups.get h) ∧
      (∀ n, t.gates.get n = if s.settings.channelGroup n = some g
        then { s.gates.get n with state := .parked, holdCounter := 0 } else s.gates.get n) ∧
      t.engine = { s.engine with
        queue := if (s.groups.get g).members = [] then s.engine.queue else mergeItem (.group g) s.engine.queue } ∧
      t.events = (if (s.groups.get g).members = [] then s else s.post .gateClosed).events ∧ TargetLaw t ∧
      SameBuilding s t ∧ t.delay = s.delay := by
  obtain ⟨set_, others, gates, engine, events, targets⟩ := storeGroup_off h.law only on h.room
  have ground : (s.storeGroup s.settings.active g r).ground =
    { s.ground with settings := s.settings.setGroup s.settings.active g r } := s.storeGroup_ground ..
  have runs := h.runs
  generalize s.storeGroup s.settings.active g r = t at *
  exact ⟨_, runs, congrArg (ByPort.set · p _) (congrArg Ground.ports ground), congrArg Ground.settings ground, set_, others,
    gates, engine, events, targets, sameBuilding_setPort (sameBuilding_of_ground ground) .., congrArg Ground.delay ground⟩

theorem GroupAccepted.enabled (only : r = { s.settings.groupRecord g with enabled := true })
    (off : (s.settings.groupRecord g).enabled = false) :
    ∃ t, exec (.writeEntryGroup p (BitVec.ofNat 16 (s.settings.active.val * 6 + g.val)) r.entry) s = .next t ∧
      Answered s t p 0x02 .ok ∧ t.settings = (s.recorded g r).settings ∧
      (∀ h, h ≠ g → t.groups.get h = s.groups.get h) ∧ (t.groups.get g).holder = (s.groups.get g).holder ∧
      (∀ n, s.settings.channelGroup n ≠ some g → t.gates.get n = s.gates.get n) ∧
      (∀ n, s.settings.channelGroup n = some g →
        ((t.gates.get n).state = .parked ↔ ¬(t.eligible n = true ∧ s.engine.aligned.get n = true)) ∧
        (t.gates.get n).mode = (s.gates.get n).mode ∧
        ((t.gates.get n).state ≠ .parked → (s.gates.get n).mode ≠ .forceOpen → (t.gates.get n).state = .closed)) ∧
      (t.groups.get g).members.map Member.channel ++ (t.groups.get g).waiting =
        (List.finRange 16).filter (fun n => decide (s.settings.channelGroup n = some g ∧ t.eligible n = true ∧
          s.engine.aligned.get n = true ∧ (s.gates.get n).mode = .forceOpen)) ∧
      (∀ m ∈ (t.groups.get g).members, m = forcedRecord s m.channel ∧ (t.gates.get m.channel).state = .opened) ∧
      (t.groups.get g).members.length ≤ r.maxOpen ∧
      ((t.groups.get g).waiting ≠ [] → (t.groups.get g).members.length = r.maxOpen) ∧ TargetLaw t ∧
      ((t.groups.get g).members ≠ [] → PostedToAll .gateOpened t ∧
        (Item.group g ∈ t.engine.queue ∨ Item.all ∈ t.engine.queue)) ∧
      PostedWithin EventKind.gateOpened.mask s t ∧ SameBuilding s t ∧ t.delay = s.delay := by
  have filled := recorded_filling (r := r) h.law off
  have quiet : Quiet EventMask.kinds s (s.storeGroup s.settings.active g r) := Quiet.storeGroup Mix.postsGates_all ..
  have ground : (s.storeGroup s.settings.active g r).ground =
    { s.ground with settings := s.settings.setGroup s.settings.active g r } := s.storeGroup_ground ..
  have order := channelsOf_forces (s.recorded g r) g s.settings
  obtain ⟨members, -, -⟩ := disabled_rests h.law off
  have size := filled.size
  have full := filled.full
  rw [s.recorded_groupRecord_self] at size full
  have runs := h.runs
  rw [State.storeGroup_on only off] at quiet ground runs
  generalize (s.recorded g r).reEvaluateAll (s.settings.channelsOf g) = u at *
  have groups : (u.settle s).groups = u.groups := rfl
  have gates : (u.settle s).gates = u.gates := rfl
  have able : (u.settle s).eligible = u.eligible := rfl
  have posts : (u.settle s).events = u.events := rfl
  have engine : (u.settle s).engine = u.engine.askCounts s.groups u.groups := rfl
  have targets := targetLaw_settle u s
  generalize u.settle s = t at *
  have able' (n : Channel) : (s.recorded g r).eligible n = t.eligible n := by rw [able, filled.able]
  simp only [able'] at order
  have events := filled.events
  have sticky : t.events = (s.postMask (if (t.groups.get g).members = [] then 0 else EventKind.gateOpened.mask)).events := by
    rw [posts, events, groups]
    split
    · exact (congrArg State.events (State.postMask_zero s)).symm
    · rfl
  refine ⟨_, runs, congrArg (ByPort.set · p _) (congrArg Ground.ports ground), congrArg Ground.settings ground,
    fun k other => ?_, quiet.holder g, fun n other => ?_, fun n own => ⟨?_, ?_, ?_⟩, ?_, fun y member => ?_, ?_, ?_, targets,
    fun some => ⟨fun q => ?_, ?_⟩, fun q => ?_, sameBuilding_setPort (sameBuilding_of_ground ground) ..,
    congrArg Ground.delay ground⟩
  · change t.groups.get k = _
    rw [groups]
    exact filled.others k other
  · change t.gates.get n = _
    rw [gates]
    exact filled.elsewhere n fun mine => other (mem_channelsOf.mp mine)
  · change (t.gates.get n).state = _ ↔ ¬(t.eligible n = true ∧ _)
    rw [gates, ← able']
    exact filled.parked n (mem_channelsOf.mpr own)
  · change (t.gates.get n).mode = _
    rw [gates]
    exact (congrArg Gate.mode (filled.still n)).trans rfl
  · change (t.gates.get n).state ≠ _ → _ → (t.gates.get n).state = _
    rw [gates]
    exact filled.closed n (mem_channelsOf.mpr own)
  · change (t.groups.get g).members.map Member.channel ++ (t.groups.get g).waiting = _
    rw [groups]
    exact filled.order.trans order
  · change y ∈ (t.groups.get g).members at member
    change _ ∧ (t.gates.get y.channel).state = _
    rw [groups] at member
    rw [gates]
    exact filled.records y member
  · change (t.groups.get g).members.length ≤ _
    rw [groups]
    exact size
  · change (t.groups.get g).waiting ≠ [] → (t.groups.get g).members.length = _
    rw [groups]
    exact full
  · change (t.groups.get g).members ≠ [] at some
    rw [if_neg some] at sticky
    exact postedToAll_of_postMask sticky (by decide) q
  · change (t.groups.get g).members ≠ [] at some
    change _ ∈ t.engine.queue ∨ _ ∈ t.engine.queue
    rw [groups] at some
    rw [engine]
    refine Engine.asks_of_moved (fun same => ?_) _
    change (s.groups.get g).members.length = (u.groups.get g).members.length at same
    rw [members] at same
    exact some (List.length_eq_zero_iff.mp same.symm)
  · refine postedWithin_of_postMask sticky ?_ q
    split
    · exact BitVec.zero_and
    · decide

theorem GroupAccepted.held (only : r = { s.settings.groupRecord g with lastHold := r.lastHold })
    (quiet : r.lastHold = true ∨ ∀ m ∈ (s.groups.get g).members, (s.gates.get m.channel).state ≠ .lastOn) :
    exec (.writeEntryGroup p (BitVec.ofNat 16 (s.settings.active.val * 6 + g.val)) r.entry) s =
      .next (answering { s with settings := (s.recorded g r).settings } p 0x02 .ok []) := by
  rw [h.runs, storeGroup_unheld h.law h.targets only quiet]
  rfl

theorem GroupAccepted.released (only : r = { s.settings.groupRecord g with lastHold := false })
    (held : (s.settings.groupRecord g).lastHold = true) {y : Member} (member : y ∈ (s.groups.get g).members)
    (lastOn : (s.gates.get y.channel).state = .lastOn) :
    ∃ t, exec (.writeEntryGroup p (BitVec.ofNat 16 (s.settings.active.val * 6 + g.val)) r.entry) s = .next t ∧
      Answered s t p 0x02 .ok ∧ t.settings = (s.recorded g r).settings ∧
      t.groups = s.groups.set g ⟨(s.groups.get g).holder, [], []⟩ ∧
      t.gates = s.gates.set y.channel { s.gates.get y.channel with state := .closed, holdCounter := 0 } ∧
      t.engine = { s.engine with queue := mergeItem (.group g) s.engine.queue } ∧
      t.events = (s.post .gateClosed).events ∧ TargetLaw t ∧ SameBuilding s t ∧ t.delay = s.delay := by
  have written := storeGroup_dropped h.law only held member lastOn
  have runs := h.runs
  generalize s.storeGroup s.settings.active g r = t at *
  refine ⟨_, runs, congrArg (ByPort.set · p _) written.ports, written.settings, written.groups, written.gates, ?_,
    written.events, written.targets, sameBuilding_setPort written.building .., written.delay⟩
  change t.engine = _
  rw [written.engine]
  refine (Engine.askCounts_set s.engine s.groups g _).trans (if_neg fun same => ?_)
  exact List.ne_nil_of_mem member (List.length_eq_zero_iff.mp same)

end

end

/-- Settles O13: one clause per field, each by the outcome of the write on gates and sets. -/
theorem groupWrites : Obligations.GroupWrites := by
  unfold Obligations.GroupWrites
  refine ⟨fun s p k g e size => ?_, fun s p g r => ?_⟩
  · intro index ready
    have answer := serveWriteGroup_named (p := p) (s := s) size k g
    refine ⟨fun active ⟨q, other, held⟩ => ?_, fun active own few => ?_, fun active own room => ⟨fun bad => ?_, ?_⟩, fun other => ?_⟩
    · rw [exec_writeEntryGroup ready, answer, if_pos ⟨active, by rw [heldElsewhere_some held]; exact bne_iff_ne.mpr other⟩]
      rfl
    · rw [exec_writeEntryGroup ready, answer, if_neg (by rw [heldElsewhere_mine own]; exact fun h => Bool.false_ne_true h.2),
        if_pos ⟨active, few⟩]
      rfl
    · rw [exec_writeEntryGroup ready, serveWriteGroup_free size (.inr ⟨heldElsewhere_mine own, room⟩), groupOf_eq_none bad]
      rfl
    · intro enabled hold first last low high over_ r
      have found : groupOf e = some r := by
        rw [groupOf_of_fields first last low high, Nat.min_eq_left over_.le]
      have run : exec (.writeEntryGroup p index e) s = .next (answering (s.storeGroup k g r) p 0x02 .okClamped []) := by
        rw [exec_writeEntryGroup ready, serveWriteGroup_free size (.inr ⟨heldElsewhere_mine own, room⟩), found]
        simp only [decide_eq_true over_]
        rfl
      have ground : (s.storeGroup k g r).ground = { s.ground with settings := s.settings.setGroup k g r } := s.storeGroup_ground ..
      refine ⟨_, run, congrArg (ByPort.set · p _) (congrArg Ground.ports ground), congrArg Ground.settings ground, ?_⟩
      have idle : Ready (s.setPort p .idle) p 0x02 (writeBody 4 index r.entry) := ⟨ready.1, .inl (ByPort.get_set_self ..)⟩
      have range : GroupInRange r := ⟨Nat.le_refl 60, low, high⟩
      exact (exec_writeEntryGroup_stored idle range (.inr ⟨heldElsewhere_mine own, room⟩)).trans
        (congrArg _ (s.storeGroup_again k g r .okClamped))
    · have stored (r : GroupRec) : s.storeGroup k g r = s.onSettings (Settings.setGroup k g r) := if_neg other
      rw [exec_writeEntryGroup ready, serveWriteGroup_free size (.inl other), groupOf_eq]
      cases yesNo (natAt e 0) with
      | none => rfl
      | some enabled =>
        cases yesNo (natAt e 3) with
        | none => rfl
        | some hold =>
          by_cases within : 1 ≤ natAt e 2 ∧ natAt e 2 ≤ 8
          · simp only [if_pos within, stored]
            by_cases clamped : 60 < natAt e 1
            · simp only [if_pos clamped, decide_eq_true clamped]
              rfl
            · simp only [if_neg clamped, decide_eq_false clamped]
              rfl
          · simp only [if_neg within]
            rfl
  · intro index ready law targets range own room stored written
    have runs := exec_writeEntryGroup_stored ready range (.inr ⟨heldElsewhere_mine own, room⟩)
    have accepted : GroupAccepted s p g r := ⟨runs, law, targets, room⟩
    exact ⟨accepted.onlyMaster, accepted.lowered_free, accepted.lowered, accepted.disabled, accepted.enabled, accepted.raised,
      accepted.held, fun only held y member lastOn => accepted.released only held member lastOn⟩

end Sys2Proof.Machine
end

section
/-! SUPPORT. Channels taken out of the sets and the lists at an arrangement switch, with no offer (R120, steps 2 and 3). -/

namespace Sys2Proof.Machine

open Sys2Proof.Safety

namespace Mix

/-- The channels of `q` are of no set and no list, and the others are as they were. -/
structure Removed (q : Channel → Bool) (m u : Mix) : Prop where
  groups : ∀ g, u.groups.get g = { m.groups.get g with
    members := (m.groups.get g).members.filter fun y => !q y.channel
    waiting := (m.groups.get g).waiting.filter fun n => !q n }
  gates : ∀ n, q n = false → u.gates.get n = m.gates.get n
  silent : ∀ n, q n = true → sounding (u.gates.get n).state = false

namespace Removed

section
variable {q r : Channel → Bool} {m u v : Mix} {n : Channel}

theorem refl (m : Mix) : Removed (fun _ => false) m m where
  groups g := by simp
  gates _ _ := rfl
  silent _ := nofun

theorem congr (h : Removed q m u) (same : ∀ n, r n = q n) : Removed r m u := (funext same : r = q) ▸ h

theorem trans (h : Removed q m u) (k : Removed r u v) : Removed (fun n => q n || r n) m v where
  groups g := by
    have both (a b : Bool) : (!b && !a) = !(a || b) := by cases a <;> cases b <;> rfl
    rw [k.groups, h.groups]
    simp only [List.filter_filter, both]
  gates n out := by
    obtain ⟨first, second⟩ := Bool.or_eq_false_iff.mp out
    rw [k.gates n second, h.gates n first]
  silent n inside := by
    cases second : r n with
    | true => exact k.silent n second
    | false =>
      rw [second, Bool.or_false] at inside
      rw [k.gates n second]
      exact h.silent n inside

/-- A channel of no set and no list is already out. -/
theorem still (silent : sounding (m.gates.get n).state = false) (unlisted : ∀ g, n ∉ (m.groups.get g).waiting)
    (apart : ∀ g, ∀ y ∈ (m.groups.get g).members, y.channel ≠ n) : Removed (fun k => k == n) m m where
  groups g := by
    have members : (m.groups.get g).members.filter (fun y => !(y.channel == n)) = (m.groups.get g).members :=
      List.filter_eq_self.mpr fun y member => by simpa using apart g y member
    have waiting : (m.groups.get g).waiting.filter (fun k => !(k == n)) = (m.groups.get g).waiting :=
      Law.filter_waiting_of_not_mem (unlisted g)
    rw [members, waiting]
  gates _ _ := rfl
  silent k inside := by
    rw [eq_of_beq inside]
    exact silent

variable {grp : Channel → Option Group} {ok due : Channel → Prop}

theorem unwait (law : m.Law grp ok due) (silent : sounding (m.gates.get n).state = false) :
    Removed (fun k => k == n) m (m.unwait n) where
  groups g := by
    have members : (m.groups.get g).members.filter (fun y => !(y.channel == n)) = (m.groups.get g).members :=
      List.filter_eq_self.mpr fun y member => by simpa using law.channel_ne_of_silent silent member
    rw [unwait_groups_get, members]
    rfl
  gates _ _ := rfl
  silent k inside := by
    rw [eq_of_beq inside]
    exact silent

theorem leaveQuietly (law : m.Law grp ok due) {st : GateState} (rests : sounding st = false) :
    Removed (fun k => k == n) m (m.leaveQuietly n st) := by
  have self : sounding ((m.leaveQuietly n st).gates.get n).state = false := by
    rw [Mix.leaveQuietly, evict_get_self]
    exact rests
  have others (k : Channel) (other : (k == n) = false) : (m.leaveQuietly n st).gates.get k = m.gates.get k := by
    rw [Mix.leaveQuietly, evict_get_other _ _ (Ne.symm (ne_of_beq_false other))]
    rfl
  refine ⟨fun g => ?_, others, fun k inside => by rw [eq_of_beq inside]; exact self⟩
  cases found : memberGroup m.groups n with
  | none =>
    have off := law.memberGroup_eq_none_iff.mp found
    have none : memberGroup (m.unwait n).groups n = none := (memberGroup_eq_none _ _).mpr fun h y member => by
      rw [unwait_groups_get] at member
      exact law.channel_ne_of_silent off member
    rw [Mix.leaveQuietly, evict_of_none none, setState_groups]
    exact (unwait law off).groups g
  | some h =>
    have out := law.not_mem_waiting (n := n) fun closed => by
      obtain ⟨sounds, -⟩ := law.sounding_of_memberGroup found
      rw [closed] at sounds
      cases sounds
    have waiting : (m.groups.get g).waiting.filter (fun k => !(k == n)) = (m.groups.get g).waiting :=
      Law.filter_waiting_of_not_mem (out g)
    rw [law.leaveQuietly_eq found, waiting]
    by_cases same : h = g
    · subst same
      rw [evict_groups_get_self found]
      rfl
    · have members : (m.groups.get g).members.filter (fun y => !(y.channel == n)) = (m.groups.get g).members :=
        List.filter_eq_self.mpr fun y member => by
          have apart : y.channel ≠ n := fun mine => by
            have own := law.memberGroup_eq member
            rw [mine, found] at own
            exact same (Option.some.inj own)
          simpa using apart
      rw [evict_groups_get_other found _ same, members]

/-- Step after step over a list of channels. -/
theorem fold {ns : List Channel} {f : Mix → Channel → Mix} {I : Mix → Prop}
    (step : ∀ u n, I u → I (f u n) ∧ Removed (fun k => k == n && q n) u (f u n)) (start : I m) :
    I (ns.foldl f m) ∧ Removed (fun k => decide (k ∈ ns) && q k) m (ns.foldl f m) := by
  induction ns generalizing m with
  | nil => exact ⟨start, (refl m).congr fun k => by simp⟩
  | cons n ns ih =>
    obtain ⟨next, one⟩ := step m n start
    obtain ⟨last, rest⟩ := ih next
    refine ⟨last, (one.trans rest).congr fun k => ?_⟩
    by_cases same : k = n
    · subst same
      simp
    · simp [same]

end

end Removed

section
variable {m : Mix} {grp : Channel → Option Group} {ok due : Channel → Prop} {moved : Channel → Bool}

/-- Step 2 of R120. -/
theorem takeMoved_removed (law : m.Law grp ok fun k => moved k = false) : Removed moved m (m.takeMoved moved) := by
  refine (Removed.fold (ns := List.finRange 16) (q := moved) (I := fun u => u.Law grp ok fun k => moved k = false)
    (fun u n law => ?_) law).2.congr fun k => by simp
  by_cases new : moved n = true
  · refine ⟨by rw [if_pos new]; exact (law.takeOne new rfl).1, ?_⟩
    rw [if_pos new]
    refine Removed.congr (q := fun k => k == n) ?_ fun k => by rw [new, Bool.and_true]
    cases found : memberGroup u.groups n with
    | none =>
      simp only [Option.isSome_none, Bool.false_eq_true, if_false]
      exact .unwait law (law.memberGroup_eq_none_iff.mp found)
    | some g =>
      simp only [Option.isSome_some, if_true]
      exact .leaveQuietly law rfl
  · rw [if_neg new]
    exact ⟨law, (Removed.refl u).congr fun k => by rw [Bool.eq_false_iff.mpr new, Bool.and_false]⟩

theorem takeMoved_parks (m : Mix) (moved : Channel → Bool) : Parks (fun _ => False) m (m.takeMoved moved) := by
  unfold takeMoved
  refine List.foldlRecOn (motive := fun u => Parks (fun _ => False) m u) _ _ (.refl _ m) fun u h n _ => ?_
  exact .ite (.ite (h.leaveQuietly nofun) h) h

end

end Mix

section
variable {s : State} {ok due : Channel → Prop}

/-- Step 3 of R120: the channels that are not eligible. -/
theorem State.parkIneligible_removed (law : s.mix.Law s.settings.channelGroup ok due) (ns : List Channel) :
    Mix.Removed (fun n => decide (n ∈ ns) && !s.eligible n) s.mix (s.parkIneligible ns).mix := by
  unfold State.parkIneligible
  induction ns generalizing s with
  | nil => exact (Mix.Removed.refl s.mix).congr fun n => by simp
  | cons n ns ih =>
    rw [List.foldl_cons]
    have step (u : State) (able : ∀ k, u.eligible k = s.eligible k) (next : u.mix.Law u.settings.channelGroup ok due)
        (one : Mix.Removed (fun k => k == n && !s.eligible n) s.mix u.mix) :
        Mix.Removed (fun k => decide (k ∈ n :: ns) && !s.eligible k) s.mix (ns.foldl (fun s n =>
          if s.eligible n || (s.gates.get n).state == .parked then s else s.onMix (Mix.leaveQuietly n .parked)) u).mix := by
      refine (one.trans (ih next)).congr fun k => ?_
      by_cases same : k = n
      · subst same
        simp [able]
      · simp [same, able]
    split
    case isTrue stays =>
      refine step s (fun _ => rfl) law ?_
      by_cases able : s.eligible n = true
      · exact (Mix.Removed.refl s.mix).congr fun k => by rw [able, Bool.not_true, Bool.and_false]
      · have parked : (s.mix.gates.get n).state = .parked := by
          have : (s.gates.get n).state = .parked := by simpa [able] using stays
          exact this
        have silent : sounding (s.mix.gates.get n).state = false := by rw [parked]; rfl
        refine (Mix.Removed.still silent (law.not_mem_waiting (by rw [parked]; decide)) fun g y member =>
          law.channel_ne_of_silent silent member).congr fun k => ?_
        rw [Bool.eq_false_iff.mpr able, Bool.not_false, Bool.and_true]
    case isFalse leaves =>
      have barred : s.eligible n = false := by simp_all
      have station (k : Channel) := ((Mix.Frame.refl EventMask.kinds s.mix).leaveQuietly Mix.postsGates_all n .parked).station k
      refine step _ (fun k => State.onMix_eligible k (station k)) ?_ ?_
      · have next := law.leaveQuietly (n := n) (st := .parked) (.inr rfl) nofun nofun
        exact { next with }
      · have out := (Mix.Removed.leaveQuietly law (n := n) (st := .parked) rfl).congr
          (r := fun k => k == n && !s.eligible n) fun k => by rw [barred, Bool.not_false, Bool.and_true]
        exact { out with }

/-- Before its sets are fitted, a switch has taken out the channels that change group and those that are not eligible
(R120, steps 1 to 4). -/
theorem State.switched_removed (law : GroupLaw s) (k : Arrangement) :
    Mix.Removed (fun n => s.changesGroup k n || !(s.select k).eligible n) s.mix (s.switched k).mix ∧
      (∀ n, (s.switched k).eligible n = (s.select k).eligible n) ∧
      (∀ n, ((s.switched k).gates.get n).still = (s.gates.get n).still) ∧
      (s.switched k).mix.Law (s.select k).settings.channelGroup
        (fun n => (s.gates.get n).state ≠ .parked ∧ (s.select k).eligible n = true) (fun n => s.changesGroup k n = false) ∧
      ∀ n, s.changesGroup k n = true → (s.select k).eligible n = true → (s.gates.get n).state ≠ .parked →
        ((s.switched k).gates.get n).state = .closed := by
  have old : s.mix.Law s.settings.channelGroup (fun n => (s.gates.get n).state ≠ .parked) fun n => s.changesGroup k n = false :=
    { (groupLaw_gating law).law.mono (fun _ h => h) fun _ _ => trivial with
      gate := fun n => { (groupLaw_gating law).law.gate n with ok := id } }
  have first : Mix.Removed (s.changesGroup k) s.mix (s.mix.takeMoved (s.changesGroup k)) := Mix.takeMoved_removed old
  have parks := Mix.takeMoved_parks s.mix (s.changesGroup k)
  have next : ((s.select k).onMix (Mix.takeMoved (s.changesGroup k))).mix.Law (s.select k).settings.channelGroup
      (fun n => (s.gates.get n).state ≠ .parked) (fun n => s.changesGroup k n = false) :=
    { old.takeMoved (grp' := (s.select k).settings.channelGroup) (moved := s.changesGroup k)
        (fun n other => bne_iff_ne.mpr other) fun _ d => d with }
  have frame : Mix.Frame EventMask.kinds s.mix (s.mix.takeMoved (s.changesGroup k)) :=
    .foldl (.refl ..) (fun n u => .ite (.ite (u.leaveQuietly Mix.postsGates_all n _) (u.unwait n)) u) _
  have able (n : Channel) : ((s.select k).onMix (Mix.takeMoved (s.changesGroup k))).eligible n = (s.select k).eligible n :=
    State.onMix_eligible n (frame.station n)
  have second := State.parkIneligible_removed (s := (s.select k).onMix (Mix.takeMoved (s.changesGroup k))) next (List.finRange 16)
  have still := (OnlyCloses.parkIneligible (List.finRange 16) ((s.select k).onMix (Mix.takeMoved (s.changesGroup k)))).gate
  obtain ⟨⟨parked, -⟩, eligible, -⟩ := State.Gating.parkIneligible
    (s := (s.select k).onMix (Mix.takeMoved (s.changesGroup k))) (late := fun _ => True) ⟨next, fun _ _ _ _ => trivial⟩ (List.finRange 16)
  have settings := (OnlyMix.parkIneligible (List.finRange 16) ((s.select k).onMix (Mix.takeMoved (s.changesGroup k)))).settings
  have same : s.switched k = (((s.select k).onMix (Mix.takeMoved (s.changesGroup k))).parkIneligible (List.finRange 16)).askAll := rfl
  rw [same]
  simp only [able] at second parked
  rw [settings] at parked
  have mix : ((s.select k).onMix (Mix.takeMoved (s.changesGroup k))).mix.gates = (s.mix.takeMoved (s.changesGroup k)).gates ∧
    ((s.select k).onMix (Mix.takeMoved (s.changesGroup k))).mix.groups = (s.mix.takeMoved (s.changesGroup k)).groups := ⟨rfl, rfl⟩
  have record : ((s.select k).onMix (Mix.takeMoved (s.changesGroup k))).settings = (s.select k).settings := rfl
  rw [record] at parked
  generalize (s.select k).onMix (Mix.takeMoved (s.changesGroup k)) = taken at *
  have start : Mix.Removed (s.changesGroup k) s.mix taken.mix :=
    ⟨fun g => by rw [mix.2]; exact first.groups g, fun n => by rw [mix.1]; exact first.gates n,
      fun n => by rw [mix.1]; exact first.silent n⟩
  have whole : Mix.Removed (fun n => s.changesGroup k n || !(s.select k).eligible n) s.mix (taken.parkIneligible (List.finRange 16)).mix :=
    (start.trans second).congr fun n => by rw [decide_eq_true (List.mem_finRange n), Bool.true_and]
  generalize taken.parkIneligible (List.finRange 16) = quiet at *
  refine ⟨whole, fun n => (eligible n).trans (able n), fun n => ?_, ?_, fun n new open_ up => ?_⟩
  · exact (still n).trans ((congrArg (fun t : Table 16 Gate => (t.get n).still) mix.1).trans (frame.gate n))
  · exact parked.mono (fun n both => ⟨both.1, both.2 (List.mem_finRange n)⟩) fun _ d => d
  · have gate : quiet.mix.gates.get n = taken.mix.gates.get n :=
      second.gates n (by rw [open_]; simp)
    have silent := start.silent n new
    change (quiet.mix.gates.get n).state = _
    rw [gate]
    refine closed_of_silent silent fun parked => ?_
    rw [mix.1] at parked
    exact (parks n parked).elim up id

end

end Sys2Proof.Machine
end

section
/-! SUPPORT. One open set fitted at an arrangement switch (R121). -/

namespace Sys2Proof.Machine

open Sys2Proof.Safety

namespace Mix

section
variable {m u v : Mix} {g : Group} {maxOpen : Nat} {grp : Channel → Option Group} {ok due : Channel → Prop}

/-! ### FORCED members removed -/

/-- The set of `g` is cut down to its earliest entered members, and the others wait, the latest entered first. -/
structure Shortened (m u : Mix) (g : Group) (maxOpen : Nat) : Prop where
  members : (u.groups.get g).members = (m.groups.get g).members.take maxOpen
  waiting : (u.groups.get g).waiting =
    (m.groups.get g).waiting ++ (((m.groups.get g).members.drop maxOpen).map Member.channel).reverse
  closed : ∀ y ∈ (m.groups.get g).members.drop maxOpen, (u.gates.get y.channel).state = .closed
  others : ∀ n, (∀ y ∈ (m.groups.get g).members.drop maxOpen, y.channel ≠ n) → u.gates.get n = m.gates.get n

theorem Shortened.refl (fits : (m.groups.get g).members.length ≤ maxOpen) : Shortened m m g maxOpen where
  members := (List.take_of_length_le fits).symm
  waiting := by simp [List.drop_eq_nil_of_le fits]
  closed y member := by rw [List.drop_eq_nil_of_le fits] at member; cases member
  others _ _ := rfl

theorem without_last {init : List Member} {v : Member} (nodup : ((init ++ [v]).map Member.channel).Nodup) :
    without v.channel (init ++ [v]) = init := by
  have apart : ∀ y ∈ init, y.channel ≠ v.channel := fun y member same => by
    rw [List.map_append, List.map_singleton] at nodup
    exact List.disjoint_of_nodup_append nodup (List.mem_map_of_mem member) (by rw [same]; exact List.mem_singleton_self _)
  rw [without, List.filter_append, List.filter_eq_self.mpr fun y member => by simpa using apart y member]
  simp

theorem fitForced_shortened (fuel : Nat) (law : m.Law grp ok fun _ => False) (forced : ∀ y ∈ (m.groups.get g).members, y.kind = .forced)
    (enough : (m.groups.get g).members.length ≤ fuel) : Shortened m (m.fitForced maxOpen g fuel) g maxOpen := by
  induction fuel generalizing m with
  | zero => exact .refl (enough.trans (Nat.zero_le _))
  | succ fuel ih =>
    rw [fitForced]
    split
    case isTrue fits => exact .refl fits
    case isFalse crowded =>
      change ¬(m.groups.get g).members.length ≤ maxOpen at crowded
      split
      case h_1 none => exact absurd (by rw [List.getLast?_eq_none_iff.mp none]; exact Nat.zero_le _) crowded
      case h_2 v last =>
        obtain ⟨init, list⟩ := List.getLast?_eq_some_iff.mp last
        have member : v ∈ (m.groups.get g).members := List.mem_of_getLast? last
        have out := law.memberGroup_eq member
        have mode := (law.kind g v member).mp (forced v member)
        have set_ := evict_groups_get_self out .closed
        have nodup := law.nodup g
        rw [list] at nodup
        rw [list, without_last nodup] at set_
        have sounds := law.sounds g v member
        have unlisted : v.channel ∉ (m.groups.get g).waiting :=
          law.not_mem_waiting (fun closed => by rw [closed] at sounds; cases sounds) g
        have queued : ((m.evict v.channel .closed).enqueueWaiting g v.channel).groups.get g =
            ⟨(m.groups.get g).holder, init, (m.groups.get g).waiting ++ [v.channel]⟩ := by
          rw [enqueueWaiting, onGroup_groups, Table.get_modify_self, set_, if_neg (by simpa using unlisted)]
        have evicted : (m.evict v.channel .closed).Law grp ok fun _ => False := law.evict out (.inl rfl) fun _ => False.elim
        have next : ((m.evict v.channel .closed).enqueueWaiting g v.channel).Law grp ok fun _ => False :=
          evicted.enqueueWaiting (by rw [evict_get_self]) (by rw [evict_get_self]; exact mode) (law.own g v member)
            fun _ => False.elim
        have length : (m.groups.get g).members.length = init.length + 1 := by rw [list, List.length_append]; rfl
        have rest := ih next (fun y member => ?_) (by rw [queued]; change init.length ≤ fuel; omega)
        · have gate (n : Channel) (other : v.channel ≠ n) :
              ((m.evict v.channel .closed).enqueueWaiting g v.channel).gates.get n = m.gates.get n := evict_get_other _ _ other
          have self : ((m.evict v.channel .closed).enqueueWaiting g v.channel).gates.get v.channel =
            (m.gates.get v.channel).put .closed := evict_get_self ..
          have take : (m.groups.get g).members.take maxOpen = init.take maxOpen := by
            rw [list, List.take_append_of_le_length (by omega)]
          have drop : (m.groups.get g).members.drop maxOpen = init.drop maxOpen ++ [v] := by
            rw [list, List.drop_append_of_le_length (by omega)]
          obtain ⟨members, waiting, closed, others⟩ := rest
          rw [queued] at members waiting closed others
          refine ⟨by rw [members, take], ?_, fun y inside => ?_, fun n apart => ?_⟩
          · rw [waiting, drop, List.map_append, List.reverse_append, ← List.append_assoc]
            rfl
          · rw [drop, List.mem_append, List.mem_singleton] at inside
            obtain early | rfl := inside
            · exact closed y early
            · rw [others y.channel fun z inside same => ?_, self]
              · rfl
              · rw [List.map_append, List.map_singleton] at nodup
                exact List.disjoint_of_nodup_append nodup (List.mem_map_of_mem (List.mem_of_mem_drop inside))
                  (by rw [same]; exact List.mem_singleton_self _)
          · rw [drop] at apart
            rw [others n fun y inside => apart y (List.mem_append_left _ inside),
              gate n (apart v (List.mem_append_right _ (List.mem_singleton_self v)))]
        · rw [queued] at member
          exact forced y (by rw [list]; exact List.mem_append_left _ member)

/-! ### What AUTO removals leave beside the FORCED members -/

/-- Elements kept from a list of distinct ones are those of a property that all of them have and nobody else. -/
theorem eq_filter_of_sublist {α : Type} {p : α → Bool} {kept l : List α} (nodup : l.Nodup) (sub : kept.Sublist l)
    (all : ∀ y ∈ kept, p y = true) (every : ∀ y ∈ l, p y = true → y ∈ kept) : kept = l.filter p := by
  have within : kept.Sublist (l.filter p) := by
    have := sub.filter p
    rwa [List.filter_eq_self.mpr all] at this
  have most : (l.filter p).length ≤ kept.length := ((nodup.filter p).subperm fun y inside =>
    every y (List.mem_of_mem_filter inside) (List.of_mem_filter inside)).length_le
  exact within.eq_of_length_le most

/-- What R106 leaves: the FORCED members alone where they fill the set, and no more than fit otherwise. -/
theorem Thinned.forced_or_fits {kept : List Member} (thinned : Thinned m u g kept) (nodup : (m.groups.get g).members.Nodup)
    (small : kept.length ≤ maxOpen ∨ ∀ y ∈ kept, y.kind = .forced) :
    (maxOpen ≤ ((m.groups.get g).members.filter fun y => y.kind == .forced).length →
      kept = (m.groups.get g).members.filter fun y => y.kind == .forced) ∧
    (((m.groups.get g).members.filter fun y => y.kind == .forced).length < maxOpen → kept.length ≤ maxOpen) := by
  have every : ∀ y ∈ (m.groups.get g).members, (y.kind == .forced) = true → y ∈ kept :=
    fun y member kind => thinned.forced y member (by simpa using kind)
  have all (forced : ∀ y ∈ kept, y.kind = .forced) : kept = (m.groups.get g).members.filter fun y => y.kind == .forced :=
    eq_filter_of_sublist nodup thinned.sublist (fun y member => by simpa using forced y member) every
  refine ⟨fun full => ?_, fun few => ?_⟩
  · obtain fits | forced := small
    · have within : ((m.groups.get g).members.filter fun y => y.kind == .forced).Sublist kept := by
        have sub := thinned.sublist.filter fun y => y.kind == .forced
        have most : ((m.groups.get g).members.filter fun y => y.kind == .forced).length ≤
            (kept.filter fun y => y.kind == .forced).length := ((nodup.filter _).subperm fun y inside =>
          List.mem_filter.mpr ⟨every y (List.mem_of_mem_filter inside) (by simpa using List.of_mem_filter inside),
            by simpa using List.of_mem_filter inside⟩).length_le
        rw [← sub.eq_of_length_le most]
        exact List.filter_sublist
      exact (within.eq_of_length_le (fits.trans full)).symm
    · exact all forced
  · obtain fits | forced := small
    · exact fits
    · rw [all forced]
      exact few.le

end

end Mix

end Sys2Proof.Machine
end

section
/-! SUPPORT. The members that one set keeps at an arrangement switch, and the asks of the channels that come into its group
(R121). -/

namespace Sys2Proof.Machine

open Sys2Proof.Safety

namespace Mix

/-- A channel that asks for forced entry at a switch: it came into the group CLOSED and in FORCE_OPEN (R121). -/
def asksIn (c : Settings) (moved : Channel → Bool) (g : Group) (m : Mix) (n : Channel) : Bool :=
  decide (c.channelGroup n = some g ∧ moved n = true ∧ (m.gates.get n).state = .closed ∧ (m.gates.get n).mode = .forceOpen)

section
variable {m u v : Mix} {g : Group} {c : Settings} {moved : Channel → Bool} {ok due : Channel → Prop}

/-! ### A set full of FORCED members -/

/-- Each asker joins the list of a set that is full of FORCED members. -/
theorem askMoved_full {ns : List Channel} (full : (c.groupRecord g).maxOpen ≤ (m.groups.get g).members.length)
    (forced : ∀ y ∈ (m.groups.get g).members, y.kind = .forced)
    (noLastOn : ∀ y ∈ (m.groups.get g).members, (m.gates.get y.channel).state ≠ .lastOn) (nodup : ns.Nodup)
    (fresh : ∀ n ∈ ns, moved n = true → n ∉ (m.groups.get g).waiting) :
    (m.askMoved c moved g ns).gates = m.gates ∧ (m.askMoved c moved g ns).groups.get g =
      { m.groups.get g with waiting := (m.groups.get g).waiting ++ ns.filter (m.asksIn c moved g) } := by
  induction ns generalizing m with
  | nil => exact ⟨rfl, by rw [List.filter_nil, List.append_nil]; rfl⟩
  | cons n ns ih =>
    obtain ⟨first, nodup⟩ := List.nodup_cons.mp nodup
    rw [Mix.askMoved, List.foldl_cons, ← Mix.askMoved]
    by_cases asks : c.channelGroup n = some g ∧ moved n = true ∧ (m.gates.get n).state = .closed ∧ (m.gates.get n).mode = .forceOpen
    · have denied : m.askForced c n = m.enqueueWaiting g n := by
        rw [askForced_of_group m asks.1, grantable_full full forced noLastOn, if_neg Bool.false_ne_true]
      have set_ : (m.enqueueWaiting g n).groups.get g =
          { m.groups.get g with waiting := (m.groups.get g).waiting ++ [n] } := by
        rw [enqueueWaiting, onGroup_groups, Table.get_modify_self, if_neg (by simpa using fresh n List.mem_cons_self asks.2.1)]
      have gates : (m.enqueueWaiting g n).gates = m.gates := rfl
      have asker : m.asksIn c moved g n = true := decide_eq_true asks
      have same : (m.enqueueWaiting g n).asksIn c moved g = m.asksIn c moved g := rfl
      obtain ⟨still, whole⟩ := ih (m := m.enqueueWaiting g n) (by rw [set_]; exact full) (by rw [set_]; exact forced)
        (by rw [set_]; exact noLastOn) nodup fun k mem new listed => by
          rw [set_, List.mem_append, List.mem_singleton] at listed
          obtain old | rfl := listed
          · exact fresh k (List.mem_cons_of_mem n mem) new old
          · exact first mem
      rw [if_pos asks, denied]
      refine ⟨still.trans gates, whole.trans ?_⟩
      rw [set_, same, List.filter_cons_of_pos asker, List.append_assoc]
      rfl
    · rw [if_neg asks, List.filter_cons_of_neg (by simpa [asksIn] using asks)]
      exact ih full forced noLastOn nodup fun k mem => fresh k (List.mem_cons_of_mem n mem)

/-- Nobody asks. -/
theorem askMoved_none {ns : List Channel} (none : ∀ n ∈ ns, m.asksIn c moved g n = false) : m.askMoved c moved g ns = m := by
  induction ns with
  | nil => rfl
  | cons n ns ih =>
    have quiet := of_decide_eq_false (none n List.mem_cons_self)
    rw [Mix.askMoved, List.foldl_cons, ← Mix.askMoved, if_neg quiet]
    exact ih fun k mem => none k (List.mem_cons_of_mem n mem)

/-! ### The members kept -/

/-- What is left in a set of the members `kept` and who came in, `old` and `new`, while the channels of `todo` have not asked. -/
structure Kept (kept old new : List Member) (moved : Channel → Bool) (todo : List Channel) (m u : Mix) (g : Group) : Prop where
  members : (u.groups.get g).members = old ++ new
  sublist : old.Sublist kept
  entered : ∀ y ∈ new, y.kind = .forced ∧ ∀ x ∈ kept, x.channel ≠ y.channel
  gates : ∀ y ∈ old, u.gates.get y.channel = m.gates.get y.channel
  removed : ∀ y ∈ kept, y ∉ old → (u.gates.get y.channel).state = .closed ∧
    (y.kind = .auto → ∀ x ∈ old, x.kind = .auto → QuieterThan kept y x) ∧
    (y.kind = .forced → y.channel ∈ (u.groups.get g).waiting)
  fresh : ∀ n ∈ todo, moved n = true → u.gates.get n = m.gates.get n ∧ n ∉ (u.groups.get g).waiting

section
variable {kept old new : List Member} {todo : List Channel} {n : Channel}

/-- The choice among the members present is the choice among those kept: whoever came in is FORCED. -/
theorem Kept.quieterThan (h : Kept kept old new moved todo m u g) {y x : Member} (quiet : QuieterThan (u.groups.get g).members y x)
    (auto : y.kind = .auto) (auto' : x.kind = .auto) : QuieterThan kept y x := by
  refine quiet.imp_right fun ⟨same, order⟩ => ⟨same, ?_⟩
  have chosen := order.filter fun z => z.kind == .auto
  have none : new.filter (fun z => z.kind == .auto) = [] := List.filter_eq_nil_iff.mpr fun z member => by
    rw [(h.entered z member).1]
    decide
  rw [h.members, List.filter_append, none, List.append_nil] at chosen
  have both : [y, x].filter (fun z => z.kind == .auto) = [y, x] := List.filter_eq_self.mpr fun z member => by
    obtain rfl | rfl := List.mem_pair.mp member
    · rw [auto]; rfl
    · rw [auto']; rfl
  rw [both] at chosen
  exact (chosen.trans List.filter_sublist).trans h.sublist

/-- One more channel has entered, and a member may have gone for it. -/
theorem Kept.enter (h : Kept kept old new moved (n :: todo) m u g) (nodup : (kept.map Member.channel).Nodup)
    (unmoved : ∀ y ∈ kept, moved y.channel = false) (first : n ∉ todo) (mine : moved n = true) {gone : List Member}
    {record : Member} (record_ : record.kind = .forced ∧ record.channel = n)
    (left : ∀ y ∈ gone, y ∈ old ∧ y.kind = .auto ∧ ∀ x ∈ old, x.kind = .auto → x ≠ y → QuieterThan kept y x)
    (members : (v.groups.get g).members = (u.groups.get g).members.filter (fun y => !gone.contains y) ++ [record])
    (waiting : (v.groups.get g).waiting = (u.groups.get g).waiting)
    (closed : ∀ y ∈ gone, (v.gates.get y.channel).state = .closed)
    (others : ∀ k, k ≠ n → (∀ y ∈ gone, y.channel ≠ k) → v.gates.get k = u.gates.get k) :
    Kept kept (old.filter fun y => !gone.contains y) (new ++ [record]) moved todo m v g := by
  have apart {y : Member} (member : y ∈ kept) : y.channel ≠ n := fun same => by
    have := unmoved y member
    rw [same, mine] at this
    cases this
  have one {x y : Member} (inside : x ∈ kept) (inside' : y ∈ kept) (same : x.channel = y.channel) : x = y :=
    List.inj_on_of_nodup_map nodup inside inside' same
  have stays : new.filter (fun y => !gone.contains y) = new := List.filter_eq_self.mpr fun y member => by
    have out : y ∉ gone := fun inside => (h.entered y member).2 y (h.sublist.subset (left y inside).1) rfl
    simpa using out
  have remains {y : Member} (member : y ∈ old.filter fun y => !gone.contains y) : y ∈ old ∧ y ∉ gone := by
    obtain ⟨inside, out⟩ := List.mem_filter.mp member
    exact ⟨inside, by simpa using out⟩
  refine ⟨?_, List.filter_sublist.trans h.sublist, fun y member => ?_, fun y member => ?_, fun y member out => ?_, fun k mem new => ?_⟩
  · rw [members, h.members, List.filter_append, stays, List.append_assoc]
  · obtain early | late := List.mem_append.mp member
    · exact h.entered y early
    · rw [List.mem_singleton.mp late, record_.2]
      exact ⟨record_.1, fun x inside => apart inside⟩
  · obtain ⟨inside, out⟩ := remains member
    rw [others y.channel (apart (h.sublist.subset inside)) fun z leaves same => out (one (h.sublist.subset (left z leaves).1)
      (h.sublist.subset inside) same ▸ leaves)]
    exact h.gates y inside
  · rw [waiting]
    by_cases before : y ∈ old
    · have leaves : y ∈ gone := by
        by_contra not_
        exact out (List.mem_filter.mpr ⟨before, by simpa using not_⟩)
      obtain ⟨-, auto, order⟩ := left y leaves
      refine ⟨closed y leaves, fun _ x inside kind => ?_, fun forced => ?_⟩
      · obtain ⟨inside, stays⟩ := remains inside
        exact order x inside kind fun same => stays (same ▸ leaves)
      · rw [auto] at forced
        cases forced
    · obtain ⟨state, auto, forced⟩ := h.removed y member before
      refine ⟨?_, fun kind x inside => auto kind x (remains inside).1, forced⟩
      rw [others y.channel (apart member) fun z leaves same => before (one (h.sublist.subset (left z leaves).1) member same ▸ (left z leaves).1)]
      exact state
  · obtain ⟨gate, unlisted⟩ := h.fresh k (List.mem_cons_of_mem n mem) new
    rw [waiting, others k (fun same => first (same ▸ mem)) fun z leaves same => ?_]
    · exact ⟨gate, unlisted⟩
    · have := unmoved z (h.sublist.subset (left z leaves).1)
      rw [same, new] at this
      cases this

/-- One channel that asks at a switch. -/
theorem Kept.ask (h : Kept kept old new moved (n :: todo) m u g) (law : u.Law c.channelGroup ok due)
    (nodup : (kept.map Member.channel).Nodup)
    (unmoved : ∀ y ∈ kept, moved y.channel = false) (first : n ∉ todo) (own : c.channelGroup n = some g) (mine : moved n = true)
    (closed : (u.gates.get n).state = .closed) : ∃ old new, Kept kept old new moved todo m (u.askForced c n) g := by
  have silent : sounding (u.gates.get n).state = false := by rw [closed]; rfl
  have unlisted (k : Group) : n ∉ (u.groups.get k).waiting := fun listed => by
    have its := (law.waits k n listed).2.2
    rw [own, Option.some.injEq] at its
    subst its
    exact (h.fresh n List.mem_cons_self mine).2 listed
  have asked := law.asked (GateChanged.refl u n) (g := g) (maxOpen := (c.groupRecord g).maxOpen) silent unlisted
  rw [← askForced_of_group u own] at asked
  have one {x y : Member} (inside : x ∈ (u.groups.get g).members) (inside' : y ∈ (u.groups.get g).members)
      (same : x.channel = y.channel) : x = y := List.inj_on_of_nodup_map (law.nodup g) inside inside' same
  have swapped {y : Member} (member : y ∈ (u.groups.get g).members) (auto : y.kind = .auto) (apart : y.channel ≠ n)
      (order : ∀ x ∈ (u.groups.get g).members, x.kind = .auto → x ≠ y → QuieterThan (u.groups.get g).members y x)
      (whole : u.askForced c n = ⟨(u.gates.set y.channel ((u.gates.get y.channel).put .closed)).set n ((u.gates.get n).put .opened),
        u.groups.set g { u.groups.get g with
          members := without y.channel (u.groups.get g).members ++ [u.recordOf n .forced] }, u.posted ||| gateKinds⟩) :
      ∃ old new, Kept kept old new moved todo m (u.askForced c n) g := by
    have inside : y ∈ old := by
      rw [h.members] at member
      refine (List.mem_append.mp member).resolve_right fun late => ?_
      rw [(h.entered y late).1] at auto
      cases auto
    have out : without y.channel (u.groups.get g).members = (u.groups.get g).members.filter fun x => !([y].contains x) := by
      refine List.filter_congr fun x there => ?_
      rw [Bool.eq_iff_iff]
      simp only [bne_iff_ne, Bool.not_eq_true', List.contains_eq_mem, List.mem_singleton, decide_eq_false_iff_not, ne_eq]
      exact not_congr ⟨fun same => one there member same, fun same => congrArg _ same⟩
    rw [whole]
    refine ⟨_, _, h.enter (v := ⟨_, _, _⟩) nodup unmoved first mine (gone := [y]) (record := u.recordOf n .forced) ⟨rfl, rfl⟩
      (fun z leaves => ?_) ?_ ?_ (fun z leaves => ?_) fun k other stays => ?_⟩
    · rw [List.mem_singleton.mp leaves]
      exact ⟨inside, auto, fun x there kind other => h.quieterThan (order x (by rw [h.members]; exact List.mem_append_left _ there)
        kind other) auto kind⟩
    · rw [Table.get_set_self]
      exact congrArg (· ++ [u.recordOf n .forced]) out
    · rw [Table.get_set_self]
    · rw [List.mem_singleton.mp leaves, Table.get_set_other _ _ (Ne.symm apart), Table.get_set_self]
      rfl
    · rw [Table.get_set_other _ _ (Ne.symm other), Table.get_set_other _ _ (stays y (List.mem_singleton_self y))]
  by_cases last : ∃ y ∈ (u.groups.get g).members, (u.gates.get y.channel).state = .lastOn
  · obtain ⟨y, member, lastOn⟩ := last
    have only := law.lastOn g y member lastOn
    obtain ⟨apart, whole⟩ := asked.beside y only lastOn
    have auto : y.kind = .auto := by
      cases kind : y.kind with
      | auto => rfl
      | forced => exact absurd lastOn (law.lastOn_of_forced member kind)
    refine swapped member auto apart (fun x there _ other => ?_) (whole.trans ?_)
    · rw [only] at there
      exact absurd (List.mem_singleton.mp there) other
    · rw [only, show without y.channel [y] = [] by simp [without]]
      rfl
  · have noLastOn : ∀ y ∈ (u.groups.get g).members, (u.gates.get y.channel).state ≠ .lastOn :=
      fun y member lastOn => last ⟨y, member, lastOn⟩
    by_cases room : (u.groups.get g).members.length < (c.groupRecord g).maxOpen
    · rw [asked.room noLastOn room]
      refine ⟨_, _, h.enter (v := ⟨_, _, _⟩) nodup unmoved first mine (gone := []) (record := u.recordOf n .forced) ⟨rfl, rfl⟩
        nofun ?_ ?_ nofun fun k other _ => ?_⟩
      · have keeps : (u.groups.get g).members.filter (fun y => !(([] : List Member).contains y)) = (u.groups.get g).members :=
          List.filter_eq_self.mpr fun _ _ => rfl
        rw [Table.get_set_self, keeps]
      · rw [Table.get_set_self]
      · exact Table.get_set_other _ _ (Ne.symm other)
    · have full := Nat.le_of_not_lt room
      cases found : quietest (u.groups.get g).members with
      | some y =>
        obtain ⟨member, auto, order⟩ := quietest_some found
        obtain ⟨apart, whole⟩ := asked.bump noLastOn full y found
        exact swapped member auto apart order whole
      | none =>
        rw [asked.waits full (kind_of_quietest_none found)]
        refine ⟨old, new, ?_, h.sublist, h.entered, h.gates, fun y member out => ?_, fun k mem new => ?_⟩
        · rw [Table.get_set_self]
          exact h.members
        · obtain ⟨state, auto, forced⟩ := h.removed y member out
          refine ⟨state, auto, fun kind => ?_⟩
          rw [Table.get_set_self]
          exact List.mem_append_left _ (forced kind)
        · obtain ⟨gate, out⟩ := h.fresh k (List.mem_cons_of_mem n mem) new
          refine ⟨gate, fun listed => ?_⟩
          rw [Table.get_set_self, List.mem_append, List.mem_singleton] at listed
          obtain there | rfl := listed
          · exact out there
          · exact first mem

/-- The channels that come into the group ask one after the other. -/
theorem Kept.askMoved {ns : List Channel} (h : Kept kept old new moved ns m u g) (law : u.Law c.channelGroup ok due)
    (fits : (u.groups.get g).Fits (c.groupRecord g).maxOpen) (nodup : (kept.map Member.channel).Nodup)
    (unmoved : ∀ y ∈ kept, moved y.channel = false) (once : ns.Nodup) :
    ∃ old new, Kept kept old new moved [] m (u.askMoved c moved g ns) g := by
  induction ns generalizing u old new due with
  | nil => exact ⟨old, new, h⟩
  | cons n ns ih =>
    obtain ⟨first, once⟩ := List.nodup_cons.mp once
    rw [Mix.askMoved, List.foldl_cons, ← Mix.askMoved]
    split
    case isTrue asks =>
      obtain ⟨own, mine, closed, forced⟩ := asks
      obtain ⟨next, -, fit⟩ := law.forcedAsk (due' := fun _ => False) closed own forced fits (fun _ => False.elim)
        (askForced_of_group u own)
      obtain ⟨old, new, later⟩ := h.ask law nodup unmoved first own mine closed
      exact ih later next fit once
    case isFalse =>
      exact ih { h with fresh := fun k mem => h.fresh k (List.mem_cons_of_mem n mem) } law fits once

end

end

end Mix

end Sys2Proof.Machine
end

section
/-! SUPPORT. One group at step 5 of an arrangement switch, whole (R121). -/

namespace Sys2Proof.Machine

open Sys2Proof.Safety

namespace Mix

section
variable {m u : Mix} {g : Group} {c : Settings} {moved : Channel → Bool} {ok due : Channel → Prop} {maxOpen : Nat}

/-! ### The phases that move nothing -/

theorem fitOpenSet_fits (fits : (m.groups.get g).members.length ≤ maxOpen) : m.fitOpenSet maxOpen g = m := by
  rw [fitOpenSet]
  cases (m.groups.get g).openCount with
  | zero => rfl
  | succ fuel => exact if_pos fits

theorem fitForced_fits (fits : (m.groups.get g).members.length ≤ maxOpen) (fuel : Nat) : m.fitForced maxOpen g fuel = m := by
  cases fuel with
  | zero => rfl
  | succ fuel => exact if_pos fits

theorem dropLastOn_none (noLastOn : ∀ y ∈ (m.groups.get g).members, (m.gates.get y.channel).state ≠ .lastOn) :
    m.dropLastOn g = m := by
  rw [dropLastOn, lastOnMember_none.mpr noLastOn]

/-! ### The offer -/

/-- What the set of a group lets in of its list (R115). -/
theorem Law.offer_offered (law : u.Law c.channelGroup ok due)
    (idle : (u.groups.get g).waiting ≠ [] → ∀ y ∈ (u.groups.get g).members, y.kind = .forced) : Offered u (u.offer c g) g
      ((u.groups.get g).waiting.take ((c.groupRecord g).maxOpen - (u.groups.get g).members.length))
      ((u.groups.get g).waiting.drop ((c.groupRecord g).maxOpen - (u.groups.get g).members.length)) := by
  by_cases none : (u.groups.get g).waiting = []
  · rw [offer_of_none none, none, List.take_nil, List.drop_nil, ← none]
    exact none ▸ Offered.refl u g
  · have forced := idle none
    refine offerList_room forced (fun y member => law.lastOn_of_forced member (forced y member)) (law.queue g)
      fun w listed h other again => other ?_
    exact Option.some.inj ((law.waits h w again).2.2.symm.trans (law.waits g w listed).2.2)

/-! ### The phases on the members kept -/

section
variable {kept old : List Member} {todo : List Channel}

theorem Kept.dropLastOn (h : Kept kept old [] moved todo m u g) (law : u.Law c.channelGroup ok due)
    (unmoved : ∀ y ∈ kept, moved y.channel = false) : ∃ old, Kept kept old [] moved todo m (u.dropLastOn g) g := by
  by_cases last : ∃ y ∈ (u.groups.get g).members, (u.gates.get y.channel).state = .lastOn
  · obtain ⟨y, member, lastOn⟩ := last
    have only := law.lastOn g y member lastOn
    have found := law.memberGroup_eq member
    have old_ : old = [y] := by rw [← only, h.members, List.append_nil]
    have auto : y.kind = .auto := by
      cases kind : y.kind with
      | auto => rfl
      | forced => exact absurd lastOn (law.lastOn_of_forced member kind)
    have set_ : (u.dropLastOn g).groups.get g = { u.groups.get g with members := [] } := by
      rw [Mix.dropLastOn, Law.lastOnMember_of_alone only lastOn]
      refine (evict_groups_get_self found _).trans ?_
      rw [only, show without y.channel [y] = [] by simp [without]]
    have gates : (u.dropLastOn g).gates = (u.evict y.channel .closed).gates := by
      rw [Mix.dropLastOn, Law.lastOnMember_of_alone only lastOn]
    refine ⟨[], ?_, List.nil_sublist _, nofun, nofun, fun x inside _ => ?_, fun n mem new => ?_⟩
    · rw [set_]
      rfl
    · rw [set_, gates]
      by_cases same : y.channel = x.channel
      · refine ⟨by rw [← same, evict_get_self], fun _ => nofun, fun forced => ?_⟩
        obtain before | out := Classical.em (x ∈ old)
        · rw [old_, List.mem_singleton] at before
          rw [before, auto] at forced
          cases forced
        · exact (h.removed x inside out).2.2 forced
      · have out : x ∉ old := fun before => same (by rw [old_] at before; rw [List.mem_singleton.mp before])
        obtain ⟨state, -, forced⟩ := h.removed x inside out
        rw [evict_get_other _ _ same]
        exact ⟨state, fun _ => nofun, forced⟩
    · obtain ⟨gate, unlisted⟩ := h.fresh n mem new
      rw [set_, gates, evict_get_other _ _ fun same => ?_]
      · exact ⟨gate, unlisted⟩
      · have := unmoved y (h.sublist.subset (by rw [old_]; exact List.mem_singleton_self y))
        rw [same, new] at this
        cases this
  · rw [dropLastOn_none fun y member lastOn => last ⟨y, member, lastOn⟩]
    exact ⟨old, h⟩

theorem Kept.offer (h : Kept kept old [] moved todo m u g) (law : u.Law c.channelGroup ok due)
    (idle : (u.groups.get g).waiting ≠ [] → (∀ y ∈ kept, y.kind = .forced) ∧ old = kept)
    (held : ∀ y ∈ kept, ∀ n ∈ (u.groups.get g).waiting, y.channel ≠ n) :
    ∃ new, Kept kept old new moved todo m (u.offer c g) g := by
  by_cases none : (u.groups.get g).waiting = []
  · rw [offer_of_none none]
    exact ⟨[], h⟩
  · obtain ⟨forced, rfl⟩ := idle none
    have members : (u.groups.get g).members = old := by rw [h.members, List.append_nil]
    have offered := law.offer_offered (g := g) fun _ y member => forced y (members ▸ member)
    have entering {n : Channel} (enters : n ∈ (u.groups.get g).waiting.take ((c.groupRecord g).maxOpen -
      (u.groups.get g).members.length)) : n ∈ (u.groups.get g).waiting := List.mem_of_mem_take enters
    refine ⟨((u.groups.get g).waiting.take ((c.groupRecord g).maxOpen - (u.groups.get g).members.length)).map
      fun n => u.recordOf n .forced, ?_, h.sublist, fun y member => ?_, fun y member => ?_, fun y inside out => absurd inside out,
      fun n mem new => ?_⟩
    · rw [offered.groups, Table.get_set_self, members]
    · obtain ⟨n, enters, rfl⟩ := List.mem_map.mp member
      exact ⟨rfl, fun x inside => held x inside n (entering enters)⟩
    · rw [offered.others _ fun enters => held y member _ (entering enters) rfl]
      exact h.gates y member
    · obtain ⟨gate, unlisted⟩ := h.fresh n mem new
      refine ⟨(offered.others n fun enters => unlisted (entering enters)).trans gate, fun listed => unlisted ?_⟩
      rw [offered.groups, Table.get_set_self] at listed
      exact List.mem_of_mem_drop listed

end

/-! ### The whole step -/

/-- What a set has to be when it is fitted (R120, R121): while channels wait its members are FORCED, and nobody of it or of its
list has changed group. -/
structure Settled (moved : Channel → Bool) (m : Mix) (g : Group) : Prop where
  idle : (m.groups.get g).waiting ≠ [] → ∀ y ∈ (m.groups.get g).members, y.kind = .forced
  members : ∀ y ∈ (m.groups.get g).members, moved y.channel = false
  waiting : ∀ n ∈ (m.groups.get g).waiting, moved n = false

/-- A set that fits, whose LAST_ON member stays, and into whose group nobody comes who asks. -/
theorem fitAtSwitch_room (law : m.Law c.channelGroup ok due) (set_ : Settled moved m g)
    (fits : (m.groups.get g).members.length ≤ (c.groupRecord g).maxOpen)
    (none : (List.finRange 16).filter (m.asksIn c moved g) = [])
    (stays : (c.groupRecord g).lastHold = true ∨ ∀ y ∈ (m.groups.get g).members, (m.gates.get y.channel).state ≠ .lastOn) :
    (m.fitAtSwitch c moved g).groups.get g = ⟨(m.groups.get g).holder, (m.groups.get g).members ++
      ((m.groups.get g).waiting.take ((c.groupRecord g).maxOpen - (m.groups.get g).members.length)).map
        (fun n => m.recordOf n .forced),
      (m.groups.get g).waiting.drop ((c.groupRecord g).maxOpen - (m.groups.get g).members.length)⟩ := by
  have shrunk : m.shrink c g = m := by
    simp only [Mix.shrink, fitOpenSet_fits fits, fitForced_fits fits]
    obtain hold | noLastOn := stays
    · rw [if_pos hold]
    · rw [dropLastOn_none noLastOn, ite_self]
  have offered := law.offer_offered (g := g) set_.idle
  have quiet : (m.offer c g).askMoved c moved g (List.finRange 16) = m.offer c g := askMoved_none fun n mem => by
    have before : m.asksIn c moved g n = false := by simpa using List.filter_eq_nil_iff.mp none n mem
    by_cases new : moved n = true
    · rw [asksIn, offered.others n fun enters => ?_]
      · exact before
      · rw [set_.waiting n (List.mem_of_mem_take enters)] at new
        cases new
    · exact decide_eq_false fun asks => new asks.2.1
  rw [fitAtSwitch_eq, shrunk, quiet, offered.groups, Table.get_set_self]

/-- A set whose FORCED members fill the new record. -/
theorem fitAtSwitch_full (law : m.Law c.channelGroup ok due) (set_ : Settled moved m g)
    (full : (c.groupRecord g).maxOpen ≤ ((m.groups.get g).members.filter fun y => y.kind == .forced).length) :
    Kept (m.groups.get g).members (((m.groups.get g).members.filter fun y => y.kind == .forced).take (c.groupRecord g).maxOpen)
        [] moved [] m (m.fitAtSwitch c moved g) g ∧
      ((m.fitAtSwitch c moved g).groups.get g).waiting = (m.groups.get g).waiting ++
        ((((m.groups.get g).members.filter fun y => y.kind == .forced).drop (c.groupRecord g).maxOpen).map Member.channel).reverse ++
        (List.finRange 16).filter (m.asksIn c moved g) := by
  have channels := law.nodup g
  have nodup : (m.groups.get g).members.Nodup := channels.of_map
  obtain ⟨kept, thinned, -, -, small⟩ := fitAuto_thinned (m := m) (g := g) (maxOpen := (c.groupRecord g).maxOpen)
    (m.groups.get g).openCount channels fun y member h z held same =>
      Option.some.inj ((law.own h z held).symm.trans ((congrArg _ same).trans (law.own g y member)))
  obtain ⟨sized, -, -, -, -⟩ := law.fitAuto (g := g) (maxOpen := (c.groupRecord g).maxOpen) (fuel := (m.groups.get g).openCount) le_rfl
  have eq := (thinned.forced_or_fits nodup (small le_rfl)).1 full
  have forced : ∀ y ∈ kept, y.kind = .forced := fun y member => by
    rw [eq] at member
    simpa using List.of_mem_filter member
  rw [← eq] at full ⊢
  change Thinned m (m.fitOpenSet (c.groupRecord g).maxOpen g) g kept at thinned
  change (m.fitOpenSet (c.groupRecord g).maxOpen g).Law _ _ _ at sized
  have whole := fitAtSwitch_eq c moved g m
  simp only [Mix.shrink] at whole
  generalize m.fitOpenSet (c.groupRecord g).maxOpen g = u at *
  have first : u.groups.get g = { m.groups.get g with members := kept } := by rw [thinned.groups, Table.get_set_self]
  have members : (u.groups.get g).members = kept := by rw [first]
  obtain ⟨next, -, -⟩ := sized.fitForced (g := g) (maxOpen := (c.groupRecord g).maxOpen) (fuel := (u.groups.get g).openCount) le_rfl
    (.inr (by rw [members]; exact forced))
  have short := fitForced_shortened (maxOpen := (c.groupRecord g).maxOpen) (u.groups.get g).openCount
    (sized.mono (due' := fun _ => False) (fun _ h => h) fun _ => False.elim) (by rw [members]; exact forced) le_rfl
  generalize u.fitForced (c.groupRecord g).maxOpen g (u.groups.get g).openCount = v at *
  obtain ⟨taken, queued, closed, others⟩ := short
  rw [first] at taken queued closed others
  dsimp only at taken queued closed others
  have length : (v.groups.get g).members.length = (c.groupRecord g).maxOpen := by
    rw [taken, List.length_take, Nat.min_eq_left full]
  have forced' : ∀ y ∈ (v.groups.get g).members, y.kind = .forced := fun y member => by
    rw [taken] at member
    exact forced y (List.mem_of_mem_take member)
  have noLastOn : ∀ y ∈ (v.groups.get g).members, (v.gates.get y.channel).state ≠ .lastOn :=
    fun y member => next.lastOn_of_forced member (forced' y member)
  have denied : v.offer c g = v := offerList_full length.ge forced' noLastOn _
  have apart {y x : Member} (inside : y ∈ (m.groups.get g).members) (inside' : x ∈ (m.groups.get g).members)
      (same : y.channel = x.channel) : y = x := List.inj_on_of_nodup_map channels inside inside' same
  have parts {y : Member} (member : y ∈ kept) : y ∈ kept.take (c.groupRecord g).maxOpen ∨ y ∈ kept.drop (c.groupRecord g).maxOpen :=
    List.mem_append.mp (by rw [List.take_append_drop]; exact member)
  have once : kept.Nodup := nodup.sublist thinned.sublist
  have disjoint {y : Member} (early : y ∈ kept.take (c.groupRecord g).maxOpen) (late : y ∈ kept.drop (c.groupRecord g).maxOpen) : False := by
    rw [← List.take_append_drop (c.groupRecord g).maxOpen kept] at once
    exact List.disjoint_of_nodup_append once early late
  have gate (n : Channel) (new : moved n = true) : v.gates.get n = m.gates.get n := by
    rw [others n fun y late same => ?_, thinned.others n fun y inside _ same => ?_]
    · have := set_.members y inside
      rw [same, new] at this
      cases this
    · have := set_.members y (thinned.sublist.subset (List.mem_of_mem_drop late))
      rw [same, new] at this
      cases this
  have asks : (List.finRange 16).filter (v.asksIn c moved g) = (List.finRange 16).filter (m.asksIn c moved g) := by
    refine List.filter_congr fun n _ => ?_
    by_cases new : moved n = true
    · rw [asksIn, asksIn, gate n new]
    · exact (decide_eq_false fun asks => new asks.2.1).trans (decide_eq_false fun asks => new asks.2.1).symm
  have unlisted : ∀ n ∈ List.finRange 16, moved n = true → n ∉ (v.groups.get g).waiting := fun n _ new listed => by
    rw [queued, List.mem_append, List.mem_reverse, List.mem_map] at listed
    obtain old | ⟨y, late, rfl⟩ := listed
    · rw [set_.waiting n old] at new
      cases new
    · rw [set_.members y (thinned.sublist.subset (List.mem_of_mem_drop late))] at new
      cases new
  obtain ⟨gates, last⟩ := askMoved_full (moved := moved) length.ge forced' noLastOn (List.nodup_finRange 16) unlisted
  rw [dropLastOn_none noLastOn, ite_self, denied] at whole
  rw [← whole] at gates last
  rw [asks] at last
  have waiting : ((m.fitAtSwitch c moved g).groups.get g).waiting = (m.groups.get g).waiting ++
      ((kept.drop (c.groupRecord g).maxOpen).map Member.channel).reverse ++ (List.finRange 16).filter (m.asksIn c moved g) := by
    rw [last]
    exact congrArg (· ++ (List.finRange 16).filter (m.asksIn c moved g)) queued
  refine ⟨⟨?_, (List.take_sublist _ _).trans thinned.sublist, nofun, fun y early => ?_, fun y inside out => ?_, nofun⟩, waiting⟩
  · rw [last, List.append_nil]
    exact taken
  · have member : y ∈ kept := List.mem_of_mem_take early
    rw [gates, others y.channel fun x late same => ?_, thinned.others y.channel fun x inside out same => ?_]
    · exact out (apart inside (thinned.sublist.subset member) same ▸ member)
    · exact disjoint early (apart (thinned.sublist.subset (List.mem_of_mem_drop late)) (thinned.sublist.subset member) same ▸ late)
  · rw [gates, waiting]
    by_cases member : y ∈ kept
    · have late := (parts member).resolve_left out
      refine ⟨closed y late, fun auto => ?_, fun _ => ?_⟩
      · rw [forced y member] at auto
        cases auto
      · exact List.mem_append_left _ (List.mem_append_right _ (List.mem_reverse.mpr (List.mem_map_of_mem late)))
    · obtain ⟨shut, order⟩ := thinned.removed y inside member
      refine ⟨?_, fun _ x early => order x (List.mem_of_mem_take early), fun kind => absurd (thinned.forced y inside kind) member⟩
      rw [others y.channel fun x late same => ?_, shut]
      · rfl
      · exact member (apart (thinned.sublist.subset (List.mem_of_mem_drop late)) inside same ▸ List.mem_of_mem_drop late)

/-- A set whose FORCED members leave room in the new record. -/
theorem fitAtSwitch_few (law : m.Law c.channelGroup ok due) (set_ : Settled moved m g)
    (few : ((m.groups.get g).members.filter fun y => y.kind == .forced).length < (c.groupRecord g).maxOpen) :
    ∃ old new, Kept (m.groups.get g).members old new moved [] m (m.fitAtSwitch c moved g) g := by
  have channels := law.nodup g
  have nodup : (m.groups.get g).members.Nodup := channels.of_map
  obtain ⟨kept, thinned, -, -, small⟩ := fitAuto_thinned (m := m) (g := g) (maxOpen := (c.groupRecord g).maxOpen)
    (m.groups.get g).openCount channels fun y member h z held same =>
      Option.some.inj ((law.own h z held).symm.trans ((congrArg _ same).trans (law.own g y member)))
  obtain ⟨sized, -, -, -, -⟩ := law.fitAuto (g := g) (maxOpen := (c.groupRecord g).maxOpen) (fuel := (m.groups.get g).openCount) le_rfl
  have fits := (thinned.forced_or_fits nodup (small le_rfl)).2 few
  change Thinned m (m.fitOpenSet (c.groupRecord g).maxOpen g) g kept at thinned
  change (m.fitOpenSet (c.groupRecord g).maxOpen g).Law _ _ _ at sized
  have whole := fitAtSwitch_eq c moved g m
  simp only [Mix.shrink] at whole
  generalize m.fitOpenSet (c.groupRecord g).maxOpen g = u at *
  have first : u.groups.get g = { m.groups.get g with members := kept } := by rw [thinned.groups, Table.get_set_self]
  have members : (u.groups.get g).members = kept := by rw [first]
  have waiting : (u.groups.get g).waiting = (m.groups.get g).waiting := by rw [first]
  have start : Kept (m.groups.get g).members kept [] moved (List.finRange 16) m u g := by
    refine ⟨by rw [members, List.append_nil], thinned.sublist, nofun, fun y member => ?_, fun y inside out => ?_, fun n _ new => ?_⟩
    · exact thinned.others y.channel fun x inside out same =>
        out (List.inj_on_of_nodup_map channels inside (thinned.sublist.subset member) same ▸ member)
    · obtain ⟨shut, order⟩ := thinned.removed y inside out
      exact ⟨by rw [shut]; rfl, fun _ => order, fun kind => absurd (thinned.forced y inside kind) out⟩
    · refine ⟨thinned.others n fun y inside _ same => ?_, fun listed => ?_⟩
      · have := set_.members y inside
        rw [same, new] at this
        cases this
      · rw [waiting] at listed
        rw [set_.waiting n listed] at new
        cases new
  rw [fitForced_fits (by rw [members]; exact fits)] at whole
  have held : ∃ old, Kept (m.groups.get g).members old [] moved (List.finRange 16) m
      (if (c.groupRecord g).lastHold then u else u.dropLastOn g) g := by
    split
    · exact ⟨kept, start⟩
    · exact start.dropLastOn sized set_.members
  obtain ⟨dropped, -, fewer⟩ := sized.dropLastOn (g := g)
  have idle : (m.groups.get g).waiting ≠ [] → kept = (m.groups.get g).members := fun some =>
    thinned.sublist.eq_of_length_le ((nodup.subperm fun y inside => thinned.forced y inside (set_.idle some y inside)).length_le)
  have next : (if (c.groupRecord g).lastHold then u else u.dropLastOn g).Law c.channelGroup ok due ∧
      ((if (c.groupRecord g).lastHold then u else u.dropLastOn g).groups.get g).members.length ≤ (c.groupRecord g).maxOpen ∧
      ((if (c.groupRecord g).lastHold then u else u.dropLastOn g).groups.get g).waiting = (m.groups.get g).waiting ∧
      ((m.groups.get g).waiting ≠ [] → (if (c.groupRecord g).lastHold then u else u.dropLastOn g) = u) := by
    split
    · exact ⟨sized, by rw [members]; exact fits, waiting, fun _ => rfl⟩
    · refine ⟨dropped, fewer.trans (by rw [members]; exact fits), ?_, fun some => dropLastOn_none fun y member => ?_⟩
      · rw [← waiting, Mix.dropLastOn]
        split
        · rfl
        · next y found =>
            obtain ⟨member, -⟩ := lastOnMember_some found
            rw [evict_groups_get_self (sized.memberGroup_eq member)]
      · rw [members, idle some] at member
        exact sized.lastOn_of_forced (by rw [members, idle some]; exact member) (set_.idle some y member)
  generalize (if (c.groupRecord g).lastHold then u else u.dropLastOn g) = v at *
  obtain ⟨old, kept'⟩ := held
  obtain ⟨law', bound, list, same⟩ := next
  have wait : (v.groups.get g).waiting ≠ [] → (∀ y ∈ (m.groups.get g).members, y.kind = .forced) ∧ old = (m.groups.get g).members := by
    intro some
    rw [list] at some
    refine ⟨set_.idle some, ?_⟩
    have members' := kept'.members
    rw [same some, members, List.append_nil] at members'
    rw [← members', idle some]
  have silent : ∀ y ∈ (m.groups.get g).members, ∀ n ∈ (v.groups.get g).waiting, y.channel ≠ n := by
    intro y inside n listed same
    rw [list] at listed
    have closed := (law.waits g n listed).1
    have sounds := law.sounds g y inside
    rw [same, closed] at sounds
    cases sounds
  obtain ⟨new, offered⟩ := kept'.offer law' wait silent
  obtain ⟨last, -, fit⟩ := law'.offer (c := c) (g := g) bound
  rw [whole]
  exact offered.askMoved last fit channels set_.members (List.nodup_finRange 16)

theorem fitAtSwitch_kept (law : m.Law c.channelGroup ok due) (set_ : Settled moved m g) :
    ∃ old new, Kept (m.groups.get g).members old new moved [] m (m.fitAtSwitch c moved g) g := by
  obtain few | full := Nat.lt_or_ge ((m.groups.get g).members.filter fun y => y.kind == .forced).length (c.groupRecord g).maxOpen
  · exact fitAtSwitch_few law set_ few
  · exact ⟨_, _, (fitAtSwitch_full law set_ full).1⟩

end

end Mix

end Sys2Proof.Machine
end

section
/-! PROOFS. The obligation about arrangement switches (R119 to R121). -/

namespace Sys2Proof.Machine

open Sys2Proof.Safety

namespace Mix

section
variable {m u : Mix} {g : Group} {c : Settings} {moved : Channel → Bool} {ok due : Channel → Prop}

/-- Between `m` and `u` neither the set and the list of `g` nor the gates of its channels have moved. -/
structure SameAt (c : Settings) (g : Group) (m u : Mix) : Prop where
  group : u.groups.get g = m.groups.get g
  gates : ∀ n, c.channelGroup n = some g → u.gates.get n = m.gates.get n

theorem SameAt.refl (c : Settings) (g : Group) (m : Mix) : SameAt c g m m := ⟨rfl, fun _ _ => rfl⟩

theorem SameAt.trans {v : Mix} (h : SameAt c g m u) (k : SameAt c g u v) : SameAt c g m v :=
  ⟨k.group.trans h.group, fun n own => (k.gates n own).trans (h.gates n own)⟩

theorem Local.sameAt {h : Group} (near : Local c.channelGroup h m u) (other : h ≠ g) : SameAt c g m u :=
  ⟨near.others g other, fun n own => near.gates n fun mine => other (Option.some.inj (mine.symm.trans own))⟩

theorem fitGroups_apart {gs : List Group} (law : m.Law c.channelGroup ok due) (out : g ∉ gs) :
    SameAt c g m (gs.foldl (fun m g => m.fitAtSwitch c moved g) m) := by
  induction gs generalizing m due with
  | nil => exact .refl c g m
  | cons h gs ih =>
    obtain ⟨other, out⟩ := not_or.mp fun both => out (List.mem_cons.mpr both)
    obtain ⟨next, near, -⟩ := law.fitAtSwitch (g := h) (moved := moved)
    exact (near.sameAt (Ne.symm other)).trans (ih next out)

/-- A group's set is fitted once, when no other group's fitting has touched it. -/
theorem fitGroups_at {gs : List Group} (law : m.Law c.channelGroup ok due) (mem : g ∈ gs) (once : gs.Nodup) :
    ∃ u, (∃ due, u.Law c.channelGroup ok due) ∧ SameAt c g m u ∧
      SameAt c g (u.fitAtSwitch c moved g) (gs.foldl (fun m g => m.fitAtSwitch c moved g) m) := by
  induction gs generalizing m due with
  | nil => cases mem
  | cons h gs ih =>
    obtain ⟨out, once⟩ := List.nodup_cons.mp once
    obtain ⟨next, near, -⟩ := law.fitAtSwitch (g := h) (moved := moved)
    by_cases same : h = g
    · subst same
      exact ⟨m, ⟨due, law⟩, .refl c h m, fitGroups_apart next out⟩
    · obtain ⟨u, own, before, after⟩ := ih next ((List.mem_cons.mp mem).resolve_left (Ne.symm same)) once
      exact ⟨u, own, (near.sameAt same).trans before, after⟩

/-- The channels of the kept members are the group's. -/
theorem Kept.sameAt {kept old new : List Member} {todo : List Channel} {v w : Mix} (h : Kept kept old new moved todo u v g)
    (own : ∀ y ∈ kept, c.channelGroup y.channel = some g) (before : SameAt c g m u) (after : SameAt c g v w) :
    Kept kept old new moved [] m w g where
  members := by rw [after.group]; exact h.members
  sublist := h.sublist
  entered := h.entered
  gates y member := by
    have mine := own y (h.sublist.subset member)
    rw [after.gates _ mine, h.gates y member, before.gates _ mine]
  removed y member out := by
    rw [after.gates _ (own y member), after.group]
    exact h.removed y member out
  fresh := nofun

/-- What the members kept and the members of the set have in common. -/
theorem Kept.results {kept old new : List Member} {todo : List Channel} (h : Kept kept old new moved todo m u g)
    (nodup : (kept.map Member.channel).Nodup) :
    (∀ y ∈ kept, (u.groups.get g).holds y.channel = true →
      y ∈ (u.groups.get g).members ∧ u.gates.get y.channel = m.gates.get y.channel) ∧
    ((u.groups.get g).members.filter fun y => kept.contains y).Sublist kept ∧
    ∀ y ∈ kept, y ∉ (u.groups.get g).members → (u.gates.get y.channel).state = .closed ∧
      (y.kind = .auto → ∀ x ∈ kept, x ∈ (u.groups.get g).members → x.kind = .auto → QuieterThan kept y x) ∧
      (y.kind = .forced → y.channel ∈ (u.groups.get g).waiting) := by
  have stranger {x : Member} (inside : x ∈ new) (known : x ∈ kept) : False := (h.entered x inside).2 x known rfl
  rw [h.members]
  refine ⟨fun y member holds => ?_, ?_, fun y member out => ?_⟩
  · obtain ⟨x, inside, same⟩ := (GroupState.holds_iff _ _).mp holds
    rw [h.members, List.mem_append] at inside
    have early := inside.resolve_right fun late => (h.entered x late).2 y member same.symm
    have eq := List.inj_on_of_nodup_map nodup (h.sublist.subset early) member same
    subst eq
    exact ⟨List.mem_append_left _ early, h.gates x early⟩
  · have none : new.filter (fun y => kept.contains y) = [] :=
      List.filter_eq_nil_iff.mpr fun x inside known => stranger inside (by simpa using known)
    rw [List.filter_append, none, List.append_nil]
    exact List.filter_sublist.trans h.sublist
  · obtain ⟨state, order, waits⟩ := h.removed y member fun early => out (List.mem_append_left _ early)
    refine ⟨state, fun auto x known inside kind => order auto x ?_ kind, waits⟩
    exact (List.mem_append.mp inside).resolve_right fun late => stranger late known

end

end Mix

section
variable {s : State} {k : Arrangement}

theorem State.changesGroup_eq_false {n : Channel} : s.changesGroup k n = false ↔
    (s.settings.channelGroups.get k).get n = s.settings.channelGroup n := by
  rw [State.changesGroup, bne_eq_false_iff_eq]

/-- What a switch makes of one group's set and list (R121). -/
theorem switchTo_group (law : GroupLaw s) (t : State) (able : ∀ n, t.eligible n = (s.select k).eligible n) (g : Group) {w : Mix}
    (whole : w = (s.switched k).mix.fitAll (s.select k).settings (s.changesGroup k)) (gates : t.gates = w.gates)
    (groups : t.groups = w.groups) :
    let record := (s.settings.groups.get k).get g
    let stays (n : Channel) : Prop := (s.settings.channelGroups.get k).get n = some g ∧ t.eligible n = true
    let kept := (s.groups.get g).members.filter fun m => decide (stays m.channel)
    let forced := kept.filter fun m => m.kind == .forced
    let waits := (s.groups.get g).waiting.filter fun n => decide (stays n)
    let asking := (List.finRange 16).filter fun n => decide (stays n ∧ s.settings.channelGroup n ≠ some g ∧
      (s.gates.get n).state ≠ .parked ∧ (s.gates.get n).mode = .forceOpen)
    (∀ m ∈ kept, (t.groups.get g).holds m.channel = true →
      m ∈ (t.groups.get g).members ∧ t.gates.get m.channel = s.gates.get m.channel) ∧
    ((t.groups.get g).members.filter fun m => kept.contains m).Sublist kept ∧
    (∀ m ∈ kept, m ∉ (t.groups.get g).members → (t.gates.get m.channel).state = .closed ∧
      (m.kind = .auto → ∀ x ∈ kept, x ∈ (t.groups.get g).members → x.kind = .auto → QuieterThan kept m x) ∧
      (m.kind = .forced → m.channel ∈ (t.groups.get g).waiting)) ∧
    (record.maxOpen ≤ forced.length → SetIs t g (forced.take record.maxOpen)
      (waits ++ ((forced.drop record.maxOpen).map Member.channel).reverse ++ asking)) ∧
    (kept.length ≤ record.maxOpen → asking = [] →
      (record.lastHold = true ∨ ∀ m ∈ kept, (s.gates.get m.channel).state ≠ .lastOn) →
      let room := record.maxOpen - kept.length
      SetIs t g (kept ++ (waits.take room).map (forcedRecord s)) (waits.drop room)) := by
  intro record stays kept forced waits asking
  obtain ⟨removed, -, still, sets, closes⟩ := State.switched_removed law k
  generalize s.switched k = d at *
  have old := (groupLaw_gating law).law
  have keeps {n : Channel} (own : s.settings.channelGroup n = some g) :
      (!(s.changesGroup k n || !(s.select k).eligible n)) = decide (stays n) := by
    rw [Bool.not_or, Bool.not_not, Bool.eq_iff_iff, Bool.and_eq_true, Bool.not_eq_true', State.changesGroup_eq_false, own,
      ← able n, decide_eq_true_iff]
  have members : (d.groups.get g).members = kept := (congrArg GroupState.members (removed.groups g)).trans
    (List.filter_congr fun y member => keeps (old.own g y member))
  have waiting : (d.groups.get g).waiting = waits := (congrArg GroupState.waiting (removed.groups g)).trans
    (List.filter_congr fun n listed => keeps (old.waits g n listed).2.2)
  have own : ∀ y ∈ kept, (s.select k).settings.channelGroup y.channel = some g := fun y member => by
    exact (of_decide_eq_true (List.mem_filter.mp member).2).1
  have gate : ∀ y ∈ kept, d.gates.get y.channel = s.gates.get y.channel := fun y member => by
    obtain ⟨inside, stay⟩ := List.mem_filter.mp member
    refine removed.gates y.channel ?_
    rw [← keeps (old.own g y inside), Bool.not_eq_true'] at stay
    exact stay
  have latest (n : Channel) : d.mix.recordOf n .forced = forcedRecord s n := by
    have same : (d.gates.get n).latest = (s.gates.get n).latest :=
      (congrArg Gate.latest (still n)).trans rfl
    exact congrArg (Member.mk n .forced) same
  have unmoved {n : Channel} (own : s.settings.channelGroup n = some g) (stay : decide (stays n) = true) :
      s.changesGroup k n = false := by
    rw [State.changesGroup_eq_false, own]
    exact (of_decide_eq_true stay).1
  have settled : Mix.Settled (s.changesGroup k) d.mix g := by
    refine ⟨fun some y member => ?_, fun y member => ?_, fun n listed => ?_⟩
    · change (d.groups.get g).waiting ≠ [] at some
      change y ∈ (d.groups.get g).members at member
      rw [waiting] at some
      rw [members] at member
      obtain ⟨-, all, -⟩ := forced_of_waiting law (g := g) fun none => some (by
        change (s.groups.get g).waiting.filter _ = []
        rw [none]
        rfl)
      exact all y (List.mem_of_mem_filter member)
    · change y ∈ (d.groups.get g).members at member
      rw [members] at member
      obtain ⟨inside, stay⟩ := List.mem_filter.mp member
      exact unmoved (old.own g y inside) stay
    · change n ∈ (d.groups.get g).waiting at listed
      rw [waiting] at listed
      obtain ⟨inside, stay⟩ := List.mem_filter.mp listed
      exact unmoved (old.waits g n inside).2.2 stay
  have asks : (List.finRange 16).filter (d.mix.asksIn (s.select k).settings (s.changesGroup k) g) = asking := by
    refine List.filter_congr fun n _ => decide_eq_decide.mpr ⟨fun ⟨mine, new, closed, mode⟩ => ?_, fun ⟨stay, other, up, mode⟩ => ?_⟩
    · obtain ⟨up, eligible⟩ := (sets.gate n).ok (by rw [closed]; decide)
      refine ⟨⟨mine, (able n).trans eligible⟩, fun same => ?_, up, (congrArg Gate.mode (still n)).symm.trans mode⟩
      have stay : (s.settings.channelGroups.get k).get n = some g := mine
      rw [State.changesGroup_eq_false.mpr (stay.trans same.symm)] at new
      cases new
    · have new : s.changesGroup k n = true := by
        rw [← Bool.not_eq_false]
        exact fun same => other ((State.changesGroup_eq_false.mp same).symm.trans stay.1)
      exact ⟨stay.1, new, closes n new ((able n).symm.trans stay.2) up, (congrArg Gate.mode (still n)).trans mode⟩
  obtain ⟨u, ⟨due, sets'⟩, before, after⟩ := Mix.fitGroups_at (moved := s.changesGroup k) sets (List.mem_finRange g)
    (List.nodup_finRange 6)
  change Mix.SameAt _ g _ (d.mix.fitAll (s.select k).settings (s.changesGroup k)) at after
  rw [← whole] at after
  have group : u.groups.get g = d.groups.get g := before.group
  have settled' : Mix.Settled (s.changesGroup k) u g := ⟨fun some => by rw [before.group] at some ⊢; exact settled.idle some,
    by rw [before.group]; exact settled.members, by rw [before.group]; exact settled.waiting⟩
  have asks' : (List.finRange 16).filter (u.asksIn (s.select k).settings (s.changesGroup k) g) = asking := by
    rw [← asks]
    refine List.filter_congr fun n _ => ?_
    by_cases mine : (s.select k).settings.channelGroup n = some g
    · rw [Mix.asksIn, Mix.asksIn, before.gates n mine]
    · exact (decide_eq_false fun asks => mine asks.1).trans (decide_eq_false fun asks => mine asks.1).symm
  have members' : (u.groups.get g).members = kept := by rw [group]; exact members
  have waiting' : (u.groups.get g).waiting = waits := by rw [group]; exact waiting
  have nodup : (kept.map Member.channel).Nodup := by rw [← members']; exact sets'.nodup g
  have record_ : (s.select k).settings.groupRecord g = record := rfl
  obtain ⟨stayed, came, fitted⟩ := Mix.fitAtSwitch_kept sets' settled'
  have full := Mix.fitAtSwitch_full sets' settled'
  have room := Mix.fitAtSwitch_room sets' settled'
  rw [members'] at fitted full room
  rw [waiting', asks', record_] at full room
  obtain ⟨present, sub, gone⟩ := (fitted.sameAt own before after).results nodup
  rw [gates, groups]
  refine ⟨fun y member holds => ?_, sub, gone, fun many => ?_, fun fits none hold => ?_⟩
  · obtain ⟨inside, same⟩ := present y member holds
    exact ⟨inside, same.trans (gate y member)⟩
  · obtain ⟨set_, list⟩ := full many
    have taken := set_.members
    rw [List.append_nil] at taken
    rw [SetIs, groups, after.group]
    exact ⟨taken, list⟩
  · have whole := room fits none (hold.imp_right fun noLastOn y member => by
      rw [before.gates _ (own y member)]
      exact (congrArg (fun x : Gate => x.state ≠ .lastOn) (gate y member)).mpr (noLastOn y member))
    rw [SetIs, groups, after.group, whole]
    refine ⟨congrArg (kept ++ ·) (List.map_congr_left fun n enters => ?_), rfl⟩
    have mine : (s.select k).settings.channelGroup n = some g :=
      (of_decide_eq_true (List.mem_filter.mp (List.mem_of_mem_take enters)).2).1
    rw [← latest n, Mix.recordOf, Mix.recordOf, before.gates n mine]

/-- What a switch keeps of every gate, and whom it leaves PARKED (R120). -/
theorem switchTo_gates (law : GroupLaw s) (k : Arrangement) :
    (∀ n, ((s.switchTo k).gates.get n).still = (s.gates.get n).still) ∧
      (∀ n, (s.switchTo k).eligible n = (s.select k).eligible n) ∧
      ∀ n, (s.gates.get n).state = .parked → ((s.switchTo k).gates.get n).state = .parked := by
  obtain ⟨-, eligible, still, sets, -⟩ := State.switched_removed law k
  have whole := s.switchTo_eq k
  generalize s.switched k = d at *
  have frame : Mix.Frame EventMask.kinds d.mix (d.mix.fitAll (s.select k).settings (s.changesGroup k)) :=
    .foldl (.refl ..) (fun g u => u.fitAtSwitch Mix.postsGates_all _ _ g) _
  obtain ⟨next, -⟩ := sets.fitAll
  have gates : (s.switchTo k).gates = (d.mix.fitAll (s.select k).settings (s.changesGroup k)).gates := by
    rw [whole]
    rfl
  have able (n : Channel) : (s.switchTo k).eligible n =
      (d.onMix (Mix.fitAll (s.select k).settings (s.changesGroup k))).eligible n := by
    rw [whole]
    rfl
  refine ⟨fun n => ?_, fun n => ?_, fun n parked => ?_⟩
  · rw [gates]
    exact (frame.gate n).trans (still n)
  · rw [able, State.onMix_eligible n (frame.station n), eligible]
  · rw [gates]
    by_contra up
    exact ((next.gate n).ok up).1 parked

end

/-- Settles O22: the sets one after the other, each fitted when no other has touched it. -/
theorem arrangementSwitches : Obligations.ArrangementSwitches := by
  unfold Obligations.ArrangementSwitches
  intro s p free
  have unheld : ¬((List.finRange 6).any fun g : Group => heldElsewhere s.groups p (some g)) = true := fun any => by
    obtain ⟨g, -, held⟩ := List.any_eq_true.mp any
    rw [heldElsewhere_mine (free g)] at held
    cases held
  refine ⟨fun v ready bad => ?_, fun ready => ?_, fun k other ready law => ?_⟩
  · have none : numbered 4 v.toNat = none := numbered_eq_none.mpr bad
    rw [exec_selectArrangement ready, serveSelectArrangement_byte, if_neg unheld, none]
    rfl
  · have named : numbered 4 (numberByte s.settings.active).toNat = some s.settings.active := numbered_numberByte _ (by decide)
    rw [exec_selectArrangement ready, serveSelectArrangement_byte, if_neg unheld, named]
    dsimp only
    rw [if_pos rfl]
    rfl
  · have named : numbered 4 (numberByte k).toNat = some k := numbered_numberByte _ (by decide)
    have run : exec (.selectArrangement p [numberByte k]) s = .next (answering ((s.switchTo k).settle s) p 0x06 .ok []) := by
      rw [exec_selectArrangement ready, serveSelectArrangement_byte, if_neg unheld, named]
      dsimp only
      rw [if_neg other]
      rfl
    have quiet : Quiet (gateKinds ||| EventKind.arrangementChanged.mask) s (s.switchTo k) :=
      (Quiet.refl _ _).switchTo (by decide) (by decide) k
    have engine : (s.switchTo k).engine = s.engine.askAll := State.switchTo_engine ..
    have ground := s.switchTo_ground k
    have posted : PostedToAll .arrangementChanged (s.switchTo k) := by
      rw [State.switchTo_eq]
      exact postedToAll_post _ _
    have after : GroupLaw ((s.switchTo k).settle s) := groupLaw_settle (groupLaw_switchTo law k) s
    obtain ⟨still, able, parked⟩ := switchTo_gates law k
    have whole := s.switchTo_eq k
    obtain ⟨w, fitted, fittedGates, fittedGroups⟩ : ∃ w, w = (s.switched k).mix.fitAll (s.select k).settings (s.changesGroup k) ∧
        (s.switchTo k).gates = w.gates ∧ (s.switchTo k).groups = w.groups := ⟨_, rfl, by rw [whole]; rfl, by rw [whole]; rfl⟩
    clear whole
    generalize s.switchTo k = u at *
    have settled : (u.settle s).groups = u.groups ∧ (u.settle s).gates = u.gates ∧ (u.settle s).eligible = u.eligible ∧
      (u.settle s).events = u.events ∧ (u.settle s).engine = u.engine.askCounts s.groups u.groups ∧
        (u.settle s).ground = u.ground := ⟨rfl, rfl, rfl, rfl, rfl, rfl⟩
    have targets := targetLaw_settle u s
    generalize u.settle s = t at *
    obtain ⟨groups, gates, eligible, events, asks, ground'⟩ := settled
    have base := ground'.trans ground
    have law' := (groupLaw_gating after).law
    have settings : t.settings = { s.settings with active := k } := congrArg Ground.settings base
    refine ⟨_, run, congrArg (ByPort.set · p _) (congrArg Ground.ports base), settings, ?_, fun g => ?_,
      fun g => (groupLaw_fit after g).bound, fun g n holds => ?_, fun n down => ?_, fun n => ?_, fun g => ?_, fun q => ?_, fun q => ?_,
      targets, congrArg Ground.delay base, sameBuilding_setPort (sameBuilding_of_ground base) ..⟩
    · refine (asks.trans (Engine.askCounts_of_all _ _ ?_)).trans engine
      rw [engine]
      exact List.mem_singleton_self _
    · change (t.groups.get g).holder = _
      rw [groups]
      exact quiet.holder g
    · obtain ⟨y, member, rfl⟩ := (GroupState.holds_iff _ _).mp holds
      have own : t.settings.channelGroup y.channel = some g := law'.own g y member
      rw [settings] at own
      change (t.settings.channelGroups.get k).get y.channel = some g
      rw [settings]
      exact own
    · change (t.gates.get n).state = .parked
      obtain unable | down := down
      · by_contra up
        have ok := (law'.gate n).ok up
        rw [show t.eligible n = false from unable] at ok
        cases ok
      · rw [gates]
        exact parked n down
    · change (t.gates.get n).mode = _ ∧ (t.gates.get n).station = _
      rw [gates]
      exact ⟨(congrArg Gate.mode (still n)).trans rfl, (congrArg Gate.station (still n)).trans rfl⟩
    · exact switchTo_group law (answering t p 0x06 .ok []) (fun n => (congrFun eligible n).trans (able n)) g fitted
        (gates.trans fittedGates) (groups.trans fittedGroups)
    · change (t.events.get q).sticky &&& _ = _
      rw [events]
      exact posted q
    · change (t.events.get q).sticky &&& _ = _
      rw [events]
      exact quiet.sticky q

end Sys2Proof.Machine
end

section
/-! SUPPORT. Which channels the arbiter can bring out of PARKED: those that are up already, and those that it is told to let in
(R86 to R96, R105, R109, R120, R121). -/

namespace Sys2Proof.Machine

open Sys2Proof.Safety

namespace Mix

/-- Every channel that is not PARKED, is a member or waits is one of `q`. -/
structure Held (q : Channel → Prop) (m : Mix) : Prop where
  gates : ∀ k, (m.gates.get k).state ≠ .parked → q k
  members : ∀ g, ∀ y ∈ (m.groups.get g).members, q y.channel
  waiting : ∀ g, ∀ k ∈ (m.groups.get g).waiting, q k

theorem Law.unparked {grp : Channel → Option Group} {ok due : Channel → Prop} {m : Mix} (law : m.Law grp ok due) :
    m.Held fun k => (m.gates.get k).state ≠ .parked where
  gates _ := id
  members g y member parked := by
    have sounds := law.sounds g y member
    rw [parked] at sounds
    cases sounds
  waiting g k listed parked := by
    have closed := (law.waits g k listed).1
    rw [parked] at closed
    cases closed

namespace Held

variable {q r : Channel → Prop} {m u : Mix} {c : Settings} {n : Channel} {g : Group}

theorem mono (h : Held q m) (wider : ∀ k, q k → r k) : Held r m :=
  ⟨fun k up => wider k (h.gates k up), fun g y member => wider _ (h.members g y member),
    fun g k listed => wider k (h.waiting g k listed)⟩

theorem ite {x : Prop} [Decidable x] (h : Held q m) (k : Held q u) : Held q (if x then m else u) := by
  split
  · exact h
  · exact k

/-- A change that leaves who is up, who is a member and who waits. -/
theorem same (h : Held q m) (states : ∀ k, (u.gates.get k).state = (m.gates.get k).state)
    (members : ∀ g, (u.groups.get g).members.map Member.channel = (m.groups.get g).members.map Member.channel)
    (waiting : ∀ g, (u.groups.get g).waiting = (m.groups.get g).waiting) : Held q u where
  gates k up := h.gates k (states k ▸ up)
  members g y member := by
    have mem : y.channel ∈ (u.groups.get g).members.map Member.channel := List.mem_map_of_mem member
    rw [members] at mem
    obtain ⟨x, inside, same⟩ := List.mem_map.mp mem
    exact same ▸ h.members g x inside
  waiting g := by rw [waiting]; exact h.waiting g

theorem setState (h : Held q m) {st : GateState} (up : st ≠ .parked → q n) : Held q (m.setState n st) where
  gates k rises := by
    rw [setState_get] at rises
    split at rises
    case isTrue same => exact same ▸ up rises
    case isFalse => exact h.gates k rises
  members := h.members
  waiting := h.waiting

theorem unwait (h : Held q m) (n : Channel) : Held q (m.unwait n) where
  gates := h.gates
  members g := by rw [unwait_groups_get]; exact h.members g
  waiting g k listed := by
    rw [unwait_groups_get] at listed
    exact h.waiting g k (List.mem_of_mem_filter listed)

theorem onGate (h : Held q m) (n : Channel) {f : Gate → Gate} (up : (f (m.gates.get n)).state ≠ .parked → q n) :
    Held q (m.onGate n f) where
  gates k rises := by
    by_cases same : n = k
    · subst same
      rw [onGate_gates, Table.get_modify_self] at rises
      exact up rises
    · rw [onGate_gates, Table.get_modify_other _ _ same] at rises
      exact h.gates k rises
  members := h.members
  waiting := h.waiting

theorem evict (h : Held q m) {st : GateState} (up : memberGroup m.groups n = none → st ≠ .parked → q n) :
    Held q (m.evict n st) := by
  cases found : memberGroup m.groups n with
  | none =>
    rw [evict_of_none found]
    exact h.setState (up found)
  | some g =>
    obtain ⟨y, member, same⟩ := holds_of_memberGroup found
    have mine : q n := same ▸ h.members g y member
    refine ⟨fun k rises => ?_, fun k x inside => ?_, fun k w listed => ?_⟩
    · rw [evict_get] at rises
      split at rises
      case isTrue at_ => exact at_ ▸ mine
      case isFalse => exact h.gates k rises
    · by_cases at_ : g = k
      · subst at_
        rw [evict_groups_get_self found] at inside
        exact h.members g x (List.mem_of_mem_filter inside)
      · rw [evict_groups_get_other found _ at_] at inside
        exact h.members k x inside
    · by_cases at_ : g = k
      · subst at_
        rw [evict_groups_get_self found] at listed
        exact h.waiting g w listed
      · rw [evict_groups_get_other found _ at_] at listed
        exact h.waiting k w listed

theorem evictMember (h : Held q m) {y : Member} (member : y ∈ (m.groups.get g).members) (st : GateState) :
    Held q (m.evict y.channel st) := h.evict fun _ _ => h.members g y member

theorem join (h : Held q m) (g : Group) (mine : q n) (kind : EntryKind) : Held q (m.join g n kind) where
  gates k rises := by
    rw [join_get] at rises
    split at rises
    case isTrue same => exact same ▸ mine
    case isFalse => exact h.gates k rises
  members k y member := by
    by_cases at_ : g = k
    · subst at_
      rw [join_groups_get_self, List.mem_append, List.mem_singleton] at member
      obtain old | rfl := member
      · exact h.members g y old
      · exact mine
    · rw [join_groups_get_other _ _ _ at_] at member
      exact h.members k y member
  waiting k w listed := by
    by_cases at_ : g = k
    · subst at_
      rw [join_groups_get_self] at listed
      exact h.waiting g w (List.mem_of_mem_filter listed)
    · rw [join_groups_get_other _ _ _ at_] at listed
      exact h.waiting k w (List.mem_of_mem_filter listed)

theorem enqueueWaiting (h : Held q m) (g : Group) (mine : q n) : Held q (m.enqueueWaiting g n) where
  gates := h.gates
  members k := by
    have same : ((m.enqueueWaiting g n).groups.get k).members = (m.groups.get k).members :=
      Table.get_modify_congr _ GroupState.members (fun x => by split <;> rfl) k
    rw [same]
    exact h.members k
  waiting k w listed := by
    by_cases at_ : g = k
    · subst at_
      rw [Mix.enqueueWaiting, onGroup_groups, Table.get_modify_self] at listed
      split at listed
      · exact h.waiting g w listed
      · obtain old | new := List.mem_append.mp listed
        · exact h.waiting g w old
        · exact List.mem_singleton.mp new ▸ mine
    · rw [Mix.enqueueWaiting, onGroup_groups, Table.get_modify_other _ _ at_] at listed
      exact h.waiting k w listed

theorem enterForced (h : Held q m) (maxOpen : Nat) (g : Group) (mine : q n) : Held q (m.enterForced maxOpen g n) := by
  unfold Mix.enterForced
  split
  case h_1 y found => exact (h.evictMember (lastOnMember_some found).1 _).join g mine _
  case h_2 =>
    refine .ite (h.join g mine _) ?_
    split
    case h_1 v found => exact (h.evictMember (quietest_some found).1 _).join g mine _
    case h_2 => exact h

theorem askForced (h : Held q m) (c : Settings) (mine : q n) : Held q (m.askForced c n) := by
  unfold Mix.askForced
  split
  · exact h
  · exact .ite (h.enterForced _ _ mine) (h.enqueueWaiting _ mine)

theorem offerList (h : Held q m) (maxOpen : Nat) (g : Group) {ns : List Channel} (all : ∀ n ∈ ns, q n) :
    Held q (Mix.offerList maxOpen g ns m) := by
  induction ns generalizing m with
  | nil => exact h
  | cons n ns ih =>
    exact .ite (ih (h.enterForced maxOpen g (all n List.mem_cons_self)) fun k mem => all k (List.mem_cons_of_mem n mem)) h

theorem offer (h : Held q m) (c : Settings) (g : Group) : Held q (m.offer c g) := h.offerList _ g (h.waiting g)

theorem leave (h : Held q m) (c : Settings) {st : GateState} (up : memberGroup m.groups n = none → st ≠ .parked → q n) :
    Held q (m.leave c n st) := by
  unfold Mix.leave
  split
  case h_1 none => exact (h.unwait n).setState (up none)
  case h_2 g found =>
    obtain ⟨y, member, same⟩ := holds_of_memberGroup found
    exact ((h.unwait n).evict fun _ _ => same ▸ h.members g y member).offer c g

theorem leaveQuietly (h : Held q m) {st : GateState} (up : memberGroup m.groups n = none → st ≠ .parked → q n) :
    Held q (m.leaveQuietly n st) := (h.unwait n).evict fun none rises => up ((memberGroup_eq_none _ _).mpr fun g y member => by
  refine (memberGroup_eq_none _ _).mp none g y ?_
  rw [unwait_groups_get]
  exact member) rises

theorem leaveParked (h : Held q m) (c : Settings) (mine : q n) : Held q (m.leaveParked c n) :=
  .ite ((h.setState fun _ => mine).askForced c mine) (h.setState fun _ => mine)

theorem setKind (h : Held q m) (n : Channel) (kind : EntryKind) : Held q (m.setKind n kind) :=
  h.same (fun _ => rfl) (fun _ => Law.setKind_channels ..) fun g => by rw [setKind_groups_get]

theorem becomeAuto (h : Held q m) (c : Settings) (n : Channel) : Held q (m.becomeAuto c n) := by
  unfold Mix.becomeAuto
  split
  · exact h
  · exact .ite ((h.setKind n .auto).offer c _) h

theorem reactMode (h : Held q m) (c : Settings) (n : Channel) (mode : GateMode) : Held q (m.reactMode c n mode) := by
  have mine (up : (m.gates.get n).state ≠ .parked) : q n := h.gates n up
  unfold Mix.reactMode
  split
  case h_1 => exact h
  case h_2 closed => exact .ite (h.askForced c (mine (by rw [closed]; decide))) (h.unwait n)
  case h_3 state =>
    cases mode with
    | auto => exact h.becomeAuto c n
    | forceOpen => exact h.setKind n .forced
    | forceClosed => exact h.leave c fun _ _ => mine (by rw [state]; decide)
  all_goals
    rename_i state
    have rises : q n := mine (by rw [state]; decide)
    cases mode with
    | auto => exact h.becomeAuto c n
    | forceOpen => exact (h.setState fun _ => rises).setKind n .forced
    | forceClosed => exact h.leave c fun _ _ => rises

theorem setMode (h : Held q m) (c : Settings) (n : Channel) (mode : GateMode) : Held q (m.setMode c n mode) :=
  .ite h ((h.onGate n (h.gates n)).reactMode c n mode)

theorem askAuto (h : Held q m) (c : Settings) (mine : q n) (l : Nat) : Held q (m.askAuto c n l) := by
  unfold Mix.askAuto
  split
  · exact h
  · split
    case h_1 y found => exact (h.evictMember (lastOnMember_some found).1 _).join _ mine _
    case h_2 =>
      refine .ite (h.join _ mine _) ?_
      split
      case h_1 => exact ⟨h.gates, h.members, h.waiting⟩
      case h_2 v found =>
        have entered := (h.evictMember (quietest_some found).1 .closed).join (n := n) (by assumption) mine .auto
        exact .ite ⟨entered.gates, entered.members, entered.waiting⟩ ⟨h.gates, h.members, h.waiting⟩

theorem endCountdown (h : Held q m) (c : Settings) (mine : q n) : Held q (m.endCountdown c n) := by
  unfold Mix.endCountdown
  split
  · exact h.leave c fun _ _ => mine
  · exact .ite (h.setState fun _ => mine) (h.leave c fun _ _ => mine)

theorem record (h : Held q m) (n : Channel) (l : Nat) : Held q (m.record n l) := by
  refine h.same (fun k => Table.get_modify_congr _ Gate.state (by exact fun _ => rfl) k) (fun g => ?_) fun g => ?_
  · rw [Mix.record, Table.get_map, List.map_map]
    refine List.map_congr_left fun y _ => ?_
    simp only [Function.comp_apply]
    split <;> rfl
  · rw [Mix.record, Table.get_map]

theorem measure (h : Held q m) (c : Settings) (n : Channel) (l : Nat) : Held q (m.measure c n l) := by
  have now := h.record n l
  unfold Mix.measure Mix.actOn
  dsimp only
  split
  case h_1 => exact now
  case h_2 state => exact .ite (now.askAuto c (now.gates n (by rw [state]; decide)) l) now
  case h_3 state => exact .ite (now.onGate n fun _ => now.gates n (by rw [state]; decide)) now
  case h_4 state =>
    have rises := now.gates n (by rw [state]; decide)
    exact .ite (now.setState fun _ => rises) (.ite (now.endCountdown c rises) (now.onGate n fun _ => rises))
  case h_5 state => exact .ite (now.setState fun _ => now.gates n (by rw [state]; decide)) now

theorem fitAuto (h : Held q m) (maxOpen : Nat) (g : Group) (fuel : Nat) : Held q (m.fitAuto maxOpen g fuel) := by
  induction fuel generalizing m with
  | zero => exact h
  | succ fuel ih =>
    refine .ite h ?_
    split
    · exact h
    case h_2 v found => exact ih (h.evictMember (quietest_some found).1 _)

theorem fitForced (h : Held q m) (maxOpen : Nat) (g : Group) (fuel : Nat) : Held q (m.fitForced maxOpen g fuel) := by
  induction fuel generalizing m with
  | zero => exact h
  | succ fuel ih =>
    refine .ite h ?_
    split
    · exact h
    case h_2 v last =>
      have member := List.mem_of_getLast? last
      exact ih ((h.evictMember member _).enqueueWaiting g (h.members g v member))

theorem dropLastOn (h : Held q m) (g : Group) : Held q (m.dropLastOn g) := by
  unfold Mix.dropLastOn
  split
  · exact h
  case h_2 y found => exact h.evictMember (lastOnMember_some found).1 _

theorem fitAtSwitch (h : Held q m) (c : Settings) (moved : Channel → Bool) (g : Group) : Held q (m.fitAtSwitch c moved g) := by
  have sized := h.fitAuto (c.groupRecord g).maxOpen g (m.groups.get g).openCount
  have forced := sized.fitForced (c.groupRecord g).maxOpen g ((m.fitOpenSet (c.groupRecord g).maxOpen g).groups.get g).openCount
  refine List.foldlRecOn (motive := Held q) _ _ (Held.offer (.ite forced (forced.dropLastOn g)) c g) fun u held n _ => ?_
  split
  case isTrue asks => exact held.askForced c (held.gates n (by rw [asks.2.2.1]; decide))
  case isFalse => exact held

theorem fitAll (h : Held q m) (c : Settings) (moved : Channel → Bool) : Held q (m.fitAll c moved) :=
  List.foldlRecOn (motive := Held q) _ _ h fun _ held g _ => held.fitAtSwitch c moved g

theorem takeMoved (h : Held q m) (moved : Channel → Bool) : Held q (m.takeMoved moved) := by
  refine List.foldlRecOn (motive := Held q) _ _ h fun u held n _ => ?_
  split
  · split
    case isTrue member =>
      refine held.leaveQuietly fun none => ?_
      rw [none] at member
      cases member
    case isFalse => exact held.unwait n
  · exact held

theorem leaveOldGroup (h : Held q m) (c : Settings) (n : Channel) : Held q (m.leaveOldGroup c n) := by
  unfold Mix.leaveOldGroup
  split
  case isTrue member =>
    refine h.leave c fun none => ?_
    rw [none] at member
    cases member
  case isFalse => exact h.unwait n

theorem askIfForced (h : Held q m) (c : Settings) (n : Channel) : Held q (m.askIfForced c n) := by
  unfold Mix.askIfForced
  split
  case isTrue asks => exact h.askForced c (h.gates n (by rw [asks.1]; decide))
  case isFalse => exact h

end Held

end Mix

end Sys2Proof.Machine
end

section
/-! SUPPORT. Taps within a window: what each act at a crosspoint makes of its delays (R64 to R70, R75). -/

namespace Sys2Proof.Machine

open Sys2Proof.Safety

section
variable {w : Nat} {x : Crosspoint}

/-- A crosspoint that sounds reads within its window. -/
theorem active_of_sounds (h : TapsWithin w x) (sounds : x.phase ≠ .silent) : x.activeDelay < w := by
  unfold TapsWithin at h
  split at h
  case h_1 silent => exact absurd silent sounds
  case h_2 => exact h.1
  case h_3 => exact h

theorem tapsWithin_of_silent (silent : x.phase = .silent) : TapsWithin w x := by
  unfold TapsWithin
  rw [silent]
  trivial

/-- A phase with one tap or none asks for the active delay alone. -/
theorem tapsWithin_of_active (single : ∀ l od ol p fl rem, x.phase ≠ .crossfading l od ol p fl rem) (h : x.activeDelay < w) :
    TapsWithin w x := by
  unfold TapsWithin
  split
  case h_1 => trivial
  case h_2 l od ol p fl rem phase => exact absurd phase (single _ _ _ _ _ _)
  case h_3 => exact h

theorem tapsWithin_crossfading {l : Rat} {od : Nat} {ol : Rat} {p : Option Nat} {fl rem : Nat}
    (phase : x.phase = .crossfading l od ol p fl rem) :
    TapsWithin w x ↔ x.activeDelay < w ∧ od < w ∧ ∀ d ∈ p, d < w := by
  unfold TapsWithin
  rw [phase]

/-! ### New targets -/

theorem Crosspoint.retarget_active (len : Nat) (t : Option Nat) (x : Crosspoint) :
    (x.retarget len t).activeDelay = x.activeDelay := by
  unfold Crosspoint.retarget
  split <;> rfl

theorem Crosspoint.retarget_taps (h : TapsWithin w x) (len : Nat) {t : Option Nat} (heard : t ≠ none → x.activeDelay < w) :
    TapsWithin w (x.retarget len t) := by
  unfold Crosspoint.retarget
  split
  · exact h
  · cases phase : x.phase with
    | silent =>
      cases t with
      | none => exact tapsWithin_of_silent rfl
      | some a => exact tapsWithin_of_active (fun _ _ _ _ _ _ => nofun) (heard nofun)
    | steady l =>
      have near := active_of_sounds h (by rw [phase]; exact nofun)
      refine tapsWithin_of_active (fun _ _ _ _ _ _ => ?_) near
      simp only [Phase.react]
      split <;> exact nofun
    | ramping l fl rem =>
      have near := active_of_sounds h (by rw [phase]; exact nofun)
      exact tapsWithin_of_active (fun _ _ _ _ _ _ => nofun) near
    | crossfading l od ol p fl rem => exact (tapsWithin_crossfading rfl).mpr ((tapsWithin_crossfading phase).mp h)

theorem Crosspoint.retargetClock_active (t : Option Nat) (x : Crosspoint) :
    (x.retargetClock t).activeDelay = x.activeDelay := x.retarget_active Config.clockFade t

theorem Crosspoint.retargetClock_taps (h : TapsWithin w x) {t : Option Nat} (heard : t ≠ none → x.activeDelay < w) :
    TapsWithin w (x.retargetClock t) := by
  have next := Crosspoint.retarget_taps h Config.clockFade heard
  unfold Crosspoint.retargetClock
  generalize x.retarget Config.clockFade t = y at next
  dsimp only
  cases phase : y.phase with
  | silent => exact tapsWithin_of_silent rfl
  | steady | ramping =>
    exact tapsWithin_of_active (fun _ _ _ _ _ _ => nofun) (active_of_sounds (x := y) next (by rw [phase]; exact nofun))
  | crossfading l od ol p fl rem => exact (tapsWithin_crossfading rfl).mpr ((tapsWithin_crossfading phase).mp next)

/-! ### The ends and the moves of fades -/

theorem Crosspoint.endRamp_taps (h : TapsWithin w x) :
    TapsWithin w x.endRamp ∧ (x.activeDelay < w → x.endRamp.activeDelay < w) := by
  unfold Crosspoint.endRamp
  split
  case h_1 phase =>
    have near := active_of_sounds h (by rw [phase]; exact nofun)
    refine ⟨tapsWithin_of_active (fun _ _ _ _ _ _ => ?_) near, id⟩
    cases x.target <;> exact nofun
  case h_2 => exact ⟨h, id⟩

theorem Crosspoint.endCrossfade_taps (h : TapsWithin w x) (len : Nat) :
    TapsWithin w (x.endCrossfade len) ∧ (x.activeDelay < w → (x.endCrossfade len).activeDelay < w) := by
  have single (t : Option Nat) (l : Rat) (od : Nat) (ol : Rat) (p : Option Nat) (fl rem : Nat) :
      settledPhase t ≠ .crossfading l od ol p fl rem := by
    cases t <;> exact nofun
  unfold Crosspoint.endCrossfade
  split
  case h_1 l od ol p fl phase =>
    obtain ⟨near, -, pending⟩ := (tapsWithin_crossfading phase).mp h
    have settled : TapsWithin w { x with phase := settledPhase x.target } := tapsWithin_of_active (single x.target) near
    cases p with
    | none => exact ⟨settled, id⟩
    | some d =>
      have later : d < w := pending d rfl
      dsimp only
      split
      · exact ⟨settled, id⟩
      · cases target : x.target with
        | none => exact ⟨tapsWithin_of_silent rfl, fun _ => later⟩
        | some a => exact ⟨(tapsWithin_crossfading rfl).mpr ⟨later, near, nofun⟩, fun _ => later⟩
  case h_2 => exact ⟨h, id⟩

theorem Crosspoint.endFade_taps (h : TapsWithin w x) (len : Nat) :
    TapsWithin w (x.endFade len) ∧ (x.activeDelay < w → (x.endFade len).activeDelay < w) := by
  obtain ⟨ramp, first⟩ := Crosspoint.endRamp_taps h
  obtain ⟨fade, second⟩ := Crosspoint.endCrossfade_taps ramp len
  exact ⟨fade, fun near => second (first near)⟩

theorem Crosspoint.advance_taps (h : TapsWithin w x) :
    TapsWithin w x.advance ∧ (x.activeDelay < w → x.advance.activeDelay < w) := by
  refine ⟨?_, id⟩
  unfold Crosspoint.advance
  cases phase : x.phase with
  | silent => exact tapsWithin_of_silent rfl
  | steady l => exact tapsWithin_of_active (fun _ _ _ _ _ _ => nofun) (active_of_sounds (x := x) h (by rw [phase]; exact nofun))
  | ramping l fl rem =>
    refine tapsWithin_of_active (fun _ _ _ _ _ _ => ?_) (active_of_sounds (x := x) h (by rw [phase]; exact nofun))
    cases rem <;> exact nofun
  | crossfading l od ol p fl rem =>
    have now := (tapsWithin_crossfading phase).mp h
    cases rem with
    | zero => exact (tapsWithin_crossfading rfl).mpr now
    | succ rem => exact (tapsWithin_crossfading rfl).mpr now

/-- A takeover leaves no sound, and a pending delay that was within the window (R75). -/
theorem Crosspoint.seize_taps (h : TapsWithin w x) : TapsWithin w x.seize ∧ (x.activeDelay < w → x.seize.activeDelay < w) := by
  refine ⟨tapsWithin_of_silent rfl, fun near => ?_⟩
  cases phase : x.phase with
  | crossfading l od ol p fl rem =>
    obtain ⟨-, -, pending⟩ := (tapsWithin_crossfading phase).mp h
    cases p with
    | none => simpa [Crosspoint.seize, phase, Phase.pendingDelay] using near
    | some d => simpa [Crosspoint.seize, phase, Phase.pendingDelay] using pending d rfl
  | silent | steady | ramping => simpa [Crosspoint.seize, phase, Phase.pendingDelay] using near

/-! ### Deliveries -/

theorem Crosspoint.deliverDelay_taps (h : TapsWithin w x) (len : Nat) {d : Nat} (later : d < w) :
    TapsWithin w (x.deliverDelay len d) ∧ (x.deliverDelay len d).activeDelay < w := by
  unfold Crosspoint.deliverDelay
  split
  case h_1 phase => exact ⟨tapsWithin_of_silent phase, later⟩
  case h_2 l phase =>
    have near := active_of_sounds h (by rw [phase]; exact nofun)
    split
    · exact ⟨h, near⟩
    · exact ⟨(tapsWithin_crossfading rfl).mpr ⟨later, near, nofun⟩, later⟩
  case h_3 l fl rem phase =>
    have near := active_of_sounds h (by rw [phase]; exact nofun)
    split
    · exact ⟨h, near⟩
    · exact ⟨(tapsWithin_crossfading rfl).mpr ⟨later, near, nofun⟩, later⟩
  case h_4 l od ol p fl rem phase =>
    obtain ⟨near, old, -⟩ := (tapsWithin_crossfading phase).mp h
    exact ⟨(tapsWithin_crossfading rfl).mpr ⟨near, old, fun e same => Option.some.inj same ▸ later⟩, near⟩

/-- The delays of a delivered result: within the window wherever it has a length, and where it has none nothing sounds. -/
theorem Crosspoint.deliver_taps (h : TapsWithin w x) {live : Bool} (heard : live = true → x.activeDelay < w) (len : Nat)
    {r : Result} (within : ∀ d ∈ r.delay, 0 < w → d < w) : TapsWithin w (x.deliver live len r) ∧
      (0 < w → x.activeDelay < w ∨ r.delay ≠ none → (x.deliver live len r).activeDelay < w) := by
  unfold Crosspoint.deliver
  generalize written : ({ x with
    computedDelay := r.delay.getD x.computedDelay
    computedLevel := r.level
    proximity := r.proximity
    clampedLow := r.clampedLow
    clampedHigh := r.clampedHigh
    guarded := r.guarded } : Crosspoint) = y
  have phase : y.phase = x.phase := by rw [← written]
  have active : y.activeDelay = x.activeDelay := by rw [← written]
  have now : TapsWithin w y := by
    unfold TapsWithin at h ⊢
    rw [phase, active]
    exact h
  dsimp only
  cases delay : r.delay with
  | none =>
    refine ⟨Crosspoint.retarget_taps now len fun some => ?_, fun _ near => ?_⟩
    · rw [active]
      refine heard ?_
      by_contra silent
      exact some (if_neg silent)
    · rw [Crosspoint.retarget_active, active]
      exact near.resolve_right fun some => some rfl
  | some d =>
    dsimp only
    obtain zero | long := Nat.eq_zero_or_pos w
    · have silent : y.phase = .silent := by
        by_contra sounds
        have := active_of_sounds now sounds
        omega
      have dead : live = false := by
        by_contra lives
        have := heard (Bool.not_eq_false _ ▸ lives)
        omega
      have delivered : y.deliverDelay len d = { y with activeDelay := d } := by
        unfold Crosspoint.deliverDelay
        rw [silent]
      refine ⟨?_, fun long => absurd zero (by omega)⟩
      rw [delivered, dead]
      refine Crosspoint.retarget_taps (tapsWithin_of_silent (x := { y with activeDelay := d }) silent) len fun some => absurd ?_ some
      rfl
    · obtain ⟨taps, near⟩ := Crosspoint.deliverDelay_taps now len (within d delay long)
      exact ⟨Crosspoint.retarget_taps taps len fun _ => near, fun _ _ => by rw [Crosspoint.retarget_active]; exact near⟩

theorem Crosspoint.deliverLevel_taps (h : TapsWithin w x) {live : Bool} (heard : live = true → x.activeDelay < w) (len : Nat)
    (level : Option Nat) : TapsWithin w (x.deliverLevel live len level) ∧
      (x.deliverLevel live len level).activeDelay = x.activeDelay := by
  unfold Crosspoint.deliverLevel
  have now : TapsWithin w { x with computedLevel := level } := h
  refine ⟨Crosspoint.retarget_taps now len fun some => heard ?_, Crosspoint.retarget_active ..⟩
  by_contra silent
  exact some (if_neg silent)

/-- Every computed delay lies within a window that has a length (R27). -/
theorem fullResult_delay {c : ChannelInputs} {z : ZoneRec} {t : Int} : ∀ d ∈ (fullResult c z t).delay, 0 < c.window → d < c.window := by
  intro d mem long
  have clamped (e : Int) : (clampDelay e c.window).delay < c.window := by
    unfold clampDelay
    split
    · exact long
    · split
      · exact long
      · split
        · exact Nat.sub_lt long Nat.one_pos
        · change e.toNat < c.window
          omega
  unfold fullResult at mem
  split at mem
  · cases mem
  · unfold computeAt at mem
    dsimp only at mem
    split at mem
    · exact Option.some.inj mem ▸ clamped _
    · exact Option.some.inj mem ▸ clamped _

theorem fullResult_delay_isSome {c : ChannelInputs} {z : ZoneRec} {t : Int} (station : c.station.isSome = true) :
    (fullResult c z t).delay ≠ none := by
  obtain ⟨p, at_⟩ := Option.isSome_iff_exists.mp station
  unfold fullResult computeAt
  rw [at_]
  dsimp only
  split <;> exact nofun

end

end Sys2Proof.Machine
end

section
/-! SUPPORT. The law of taps as the operations of an event keep it: who may sound reads within its window, and what an item in
flight was told still holds or it is to be computed anew (R13, R47, R50, R51, R63, R70, R87). -/

namespace Sys2Proof.Machine

open Sys2Proof.Safety

variable {s t : State} {n : Channel}

namespace State

/-- Every crosspoint of Mn has its active delay within the window (R70). -/
def Within (s : State) (n : Channel) : Prop := ∀ j, ((s.crosspoints.get n).get j).activeDelay < s.settings.window n

/-- `TapLaw` with the members and the waiting channels among those that are within their windows. -/
structure Taps (s : State) : Prop where
  taps : ∀ n j, TapsWithin (s.settings.window n) ((s.crosspoints.get n).get j)
  held : s.mix.Held s.Within
  aligned : ∀ n, s.engine.aligned.get n = true → (s.gates.get n).station.isSome = true → 0 < s.settings.window n → s.Within n
  channel : ∀ n i zones v, s.engine.flight = some (.channel n i zones v) → InputsStand s n i ∨ Requeued s n
  all : ∀ i zones v, s.engine.flight = some (.all i zones v) → ∀ n, InputsStand s n (i.get n) ∨ Requeued s n

/-- From `s` to `t` a channel keeps its window and whether it has a station, or is asked for; and no ALIGNED flag is gained, nor
kept by a channel of which that does not hold. -/
structure Tuned (s t : State) : Prop where
  stands : ∀ n, (t.settings.window n = s.settings.window n ∧ (t.gates.get n).station.isSome = (s.gates.get n).station.isSome) ∨
    Requeued t n
  aligned : ∀ n, t.engine.aligned.get n = true → s.engine.aligned.get n = true ∧
    t.settings.window n = s.settings.window n ∧ (t.gates.get n).station.isSome = (s.gates.get n).station.isSome
  flight : t.engine.flight = s.engine.flight
  queue : ∀ n, Requeued s n → Requeued t n

theorem Tuned.refl (s : State) : Tuned s s := ⟨fun _ => .inl ⟨rfl, rfl⟩, fun _ flag => ⟨flag, rfl, rfl⟩, rfl, fun _ => id⟩

end State

namespace State.Taps

/-- The law from that of the state before, the engine's part by `Tuned`. -/
theorem next (h : s.Taps) (tuned : Tuned s t)
    (taps : ∀ n j, TapsWithin (t.settings.window n) ((t.crosspoints.get n).get j))
    (near : ∀ n, t.engine.aligned.get n = true → s.Within n → t.Within n) (held : t.mix.Held t.Within) : t.Taps where
  taps := taps
  held := held
  aligned n flag station long := by
    obtain ⟨was, window, same⟩ := tuned.aligned n flag
    exact near n flag (h.aligned n was (same ▸ station) (window ▸ long))
  channel n i zones v due := by
    rw [tuned.flight] at due
    obtain ⟨window, station⟩ | asked := h.channel n i zones v due
    · refine (tuned.stands n).imp_left fun ⟨same, alike⟩ => ⟨window.trans same.symm, station.trans alike.symm⟩
    · exact .inr (tuned.queue n asked)
  all i zones v due n := by
    rw [tuned.flight] at due
    obtain ⟨window, station⟩ | asked := h.all i zones v due n
    · refine (tuned.stands n).imp_left fun ⟨same, alike⟩ => ⟨window.trans same.symm, station.trans alike.symm⟩
    · exact .inr (tuned.queue n asked)

theorem of_tapLaw (law : TapLaw s) (group : GroupLaw s) : s.Taps where
  taps := law.taps
  held := (groupLaw_gating group).law.unparked.mono law.unparked
  aligned := law.aligned
  channel n i zones v due := by
    have flight := law.inFlight
    rw [due] at flight
    exact flight
  all i zones v due := by
    have flight := law.inFlight
    rw [due] at flight
    exact flight

theorem tapLaw (h : s.Taps) : TapLaw s where
  taps := h.taps
  unparked := h.held.gates
  aligned := h.aligned
  inFlight := by
    split
    case h_1 n i zones v due => exact h.channel n i zones v due
    case h_2 i zones v due => exact h.all i zones v due
    case h_3 => trivial

/-! ### What the law does not speak of -/

theorem same (h : s.Taps) (crosspoints : t.crosspoints = s.crosspoints) (gates : t.gates = s.gates) (groups : t.groups = s.groups)
    (channels : t.settings.channels = s.settings.channels) (engine : t.engine = s.engine) : t.Taps := by
  have window (n : Channel) : t.settings.window n = s.settings.window n := by
    unfold Settings.window
    rw [channels]
  have within (n : Channel) (near : s.Within n) : t.Within n := fun j => by
    rw [crosspoints, window]
    exact near j
  refine h.next ⟨fun n => .inl ⟨window n, by rw [gates]⟩, fun n flag => ⟨engine ▸ flag, window n, by rw [gates]⟩, by rw [engine],
    fun n asked => by unfold Requeued; rw [engine]; exact asked⟩ (fun n j => ?_) (fun n _ => within n) ?_
  · rw [crosspoints, window]
    exact h.taps n j
  · have mix : t.mix = s.mix := by rw [State.mix, State.mix, gates, groups]
    rw [mix]
    exact h.held.mono within

theorem post (h : s.Taps) (k : EventKind) : (s.post k).Taps := h.same rfl rfl rfl rfl rfl

/-- A change at the gates and the sets that leaves every station. -/
theorem onMix (h : s.Taps) {f : Mix → Mix} (held : (f s.mix).Held s.Within)
    (station : ∀ n, ((f s.mix).gates.get n).station = (s.gates.get n).station) : (s.onMix f).Taps := by
  refine h.next ⟨fun n => .inl ⟨rfl, ?_⟩, fun n flag => ⟨flag, rfl, ?_⟩, rfl, fun _ => id⟩ h.taps (fun _ _ => id)
    ⟨held.gates, held.members, held.waiting⟩ <;> rw [State.onMix_gates, station]

/-- A change of gates that leaves their states and stations. -/
theorem onGates (h : s.Taps) {gates : Table 16 Gate} (states : ∀ n, (gates.get n).state = (s.gates.get n).state)
    (station : ∀ n, (gates.get n).station = (s.gates.get n).station) : State.Taps { s with gates := gates } := by
  refine h.next ⟨fun n => .inl ⟨rfl, ?_⟩, fun n flag => ⟨flag, rfl, ?_⟩, rfl, fun _ => id⟩ h.taps (fun _ _ => id)
    (h.held.same states (fun _ => rfl) fun _ => rfl) <;> exact congrArg _ (station n)

/-- Members or lists taken away. -/
theorem onGroups (h : s.Taps) {groups : Table 6 GroupState}
    (members : ∀ g, ∀ y ∈ (groups.get g).members, y ∈ (s.groups.get g).members)
    (waiting : ∀ g, ∀ n ∈ (groups.get g).waiting, n ∈ (s.groups.get g).waiting) : State.Taps { s with groups := groups } :=
  h.next ⟨fun _ => .inl ⟨rfl, rfl⟩, fun _ flag => ⟨flag, rfl, rfl⟩, rfl, fun _ => id⟩ h.taps (fun _ _ => id)
    ⟨h.held.gates, fun g y member => h.held.members g y (members g y member),
      fun g n listed => h.held.waiting g n (waiting g n listed)⟩

/-! ### The crosspoints -/

/-- Every crosspoint acted on, none to read beyond its window. -/
theorem onEach (h : s.Taps) {rows : Table 16 (Table 24 Crosspoint)}
    (each : ∀ n j, TapsWithin (s.settings.window n) ((rows.get n).get j) ∧
      (((s.crosspoints.get n).get j).activeDelay < s.settings.window n → ((rows.get n).get j).activeDelay < s.settings.window n)) :
    State.Taps { s with crosspoints := rows } := by
  have within (n : Channel) (near : s.Within n) : State.Within { s with crosspoints := rows } n := fun j => (each n j).2 (near j)
  exact h.next ⟨fun _ => .inl ⟨rfl, rfl⟩, fun _ flag => ⟨flag, rfl, rfl⟩, rfl, fun _ => id⟩ (fun n j => (each n j).1)
    (fun n _ => within n) (h.held.mono within)

theorem onCrosspoints (h : s.Taps) {f : Nat → Crosspoint → Crosspoint}
    (each : ∀ w len x, TapsWithin w x → TapsWithin w (f len x) ∧ (x.activeDelay < w → (f len x).activeDelay < w)) :
    (s.onCrosspoints f).Taps :=
  h.onEach fun n j => by
    rw [Table.get_map, Table.get_map]
    exact each _ _ _ (h.taps n j)

theorem onCrosspoint (h : s.Taps) (n : Channel) (j : Zone) {f : Crosspoint → Crosspoint}
    (each : ∀ w x, TapsWithin w x → TapsWithin w (f x) ∧ (x.activeDelay < w → (f x).activeDelay < w)) :
    (s.onCrosspoint n j f).Taps :=
  h.onEach fun k i => by
    by_cases same : n = k
    · subst same
      rw [Table.get_modify_self]
      by_cases at_ : j = i
      · subst at_
        rw [Table.get_modify_self]
        exact each _ _ (h.taps n j)
      · rw [Table.get_modify_other _ _ at_]
        exact ⟨h.taps n i, id⟩
    · rw [Table.get_modify_other _ _ same]
      exact ⟨h.taps k i, id⟩

theorem takeOver (h : s.Taps) (zones : Zone → Bool) : (s.takeOver zones).Taps := by
  refine State.Taps.same (s := { s with crosspoints := (s.takeOver zones).crosspoints }) (h.onEach fun n j => ?_) rfl rfl rfl rfl rfl
  rw [State.takeOver, Table.get_map, Table.get_map]
  split
  · exact Crosspoint.seize_taps (h.taps n j)
  · exact ⟨h.taps n j, id⟩

/-! ### The end of an event -/

theorem live_within (h : s.Taps) {j : Zone} (live : s.live n j = true) : s.Within n := by
  obtain ⟨g, ⟨y, member, same⟩, -⟩ := State.live_iff.mp live
  exact same ▸ h.held.members g y member

/-- A crosspoint with an effective target is that of a live channel. -/
theorem heard (h : s.Taps) {j : Zone} {x : Crosspoint} (sounds : s.targetOf n j x ≠ none) : s.Within n := by
  refine h.live_within (j := j) ?_
  by_contra silent
  exact sounds (if_neg silent)

theorem retarget (h : s.Taps) : s.retarget.Taps :=
  h.onEach fun n j => by
    rw [Table.get_map, Table.get_map, Crosspoint.retarget_active]
    exact ⟨Crosspoint.retarget_taps (h.taps n j) _ fun sounds => h.heard sounds j, id⟩

theorem retargetClock (h : s.Taps) (zones : Zone → Bool) : (s.retargetClock zones).Taps :=
  h.onEach fun n j => by
    rw [Table.get_map, Table.get_map]
    split
    · rw [Crosspoint.retargetClock_active]
      exact ⟨Crosspoint.retargetClock_taps (h.taps n j) fun sounds => h.heard sounds j, id⟩
    · rw [Crosspoint.retarget_active]
      exact ⟨Crosspoint.retarget_taps (h.taps n j) _ fun sounds => h.heard sounds j, id⟩

/-! ### The engine -/

/-- An engine with the same item in flight, no new ALIGNED flag and every ask still in the queue. -/
theorem onEngine (h : s.Taps) {e : Engine} (flight : e.flight = s.engine.flight)
    (aligned : ∀ n, e.aligned.get n = true → s.engine.aligned.get n = true)
    (queue : ∀ n, Requeued s n → Item.channel n ∈ e.queue ∨ Item.all ∈ e.queue) : State.Taps { s with engine := e } :=
  h.next ⟨fun _ => .inl ⟨rfl, rfl⟩, fun n flag => ⟨aligned n flag, rfl, rfl⟩, flight, queue⟩ h.taps (fun _ _ => id) h.held

theorem askCounts (h : s.Taps) (before : State) : (s.askCounts before).Taps := by
  obtain ⟨flight, aligned, -⟩ := Engine.askCounts_frame before.groups s.groups s.engine
  exact h.onEngine flight (fun n flag => aligned ▸ flag) fun _ asked =>
    asked.imp (Engine.mem_askCounts _ _) (Engine.mem_askCounts _ _)

theorem settle (h : s.Taps) (before : State) : (s.settle before).Taps := (h.askCounts before).retarget

theorem settleClock (h : s.Taps) (before : State) (zones : Zone → Bool) : (s.settleClock before zones).Taps :=
  (h.askCounts before).retargetClock zones

theorem askGroup (h : s.Taps) (g : Group) : (s.askGroup g).Taps :=
  h.onEngine rfl (fun _ => id) fun _ asked => asked.imp mem_mergeItem_of_mem mem_mergeItem_of_mem

theorem askChannel (h : s.Taps) (n : Channel) : (s.askChannel n).Taps := by
  refine h.onEngine rfl (fun k flag => ?_) fun _ asked => asked.imp mem_mergeItem_of_mem mem_mergeItem_of_mem
  change (s.engine.aligned.set n false).get k = true at flag
  by_cases same : n = k
  · subst same
    rw [Table.get_set_self] at flag
    cases flag
  · rwa [Table.get_set_other _ _ same] at flag

theorem askAll (h : s.Taps) : s.askAll.Taps := by
  refine h.onEngine rfl (fun k flag => ?_) fun _ _ => .inr (List.mem_singleton_self _)
  change (Table.ofFn fun _ => false).get k = true at flag
  rw [Table.get_ofFn] at flag
  cases flag

theorem askChannels (h : s.Taps) (chosen : Channel → Bool) : (s.askChannels chosen).Taps :=
  List.foldlRecOn (motive := State.Taps) _ _ h fun _ now n _ => now.askChannel n

theorem startItem (h : s.Taps) (i : Item) (rest : List Item) : (s.startItem i rest).Taps := by
  have engine : (s.startItem i rest).engine.aligned = s.engine.aligned ∧
      (s.startItem i rest).engine.flight = some (State.takeInputs { s with engine := { s.engine.copyTemperature i with queue := rest } } i) := by
    unfold State.startItem Engine.copyTemperature
    dsimp only
    split <;> exact ⟨rfl, rfl⟩
  obtain ⟨aligned, flight⟩ := engine
  have stands (k : Channel) : InputsStand (s.startItem i rest) k
      (State.channelInputs { s with engine := { s.engine.copyTemperature i with queue := rest } } k) :=
    ⟨rfl, Option.isSome_map ..⟩
  refine ⟨h.taps, h.held, fun k flag => h.aligned k (aligned ▸ flag), fun k inputs zones v due => .inl ?_,
    fun inputs zones v due k => .inl ?_⟩
  all_goals
    rw [flight] at due
    cases i <;> cases due
  · exact stands k
  · rw [Table.get_ofFn]
    exact stands k

theorem nextItem (h : s.Taps) : s.nextItem.Taps := by
  unfold State.nextItem
  split
  · refine State.Taps.post (s := { s with engine := { s.engine with flight := none } })
      ⟨h.taps, h.held, h.aligned, fun _ _ _ _ => nofun, fun _ _ _ => nofun⟩ _
  · exact h.startItem _ _

/-! ### Deliveries -/

/-- Full results of inputs that stand, delivered to the channels of `chosen` (R53, R66). -/
theorem deliverFull (h : s.Taps) {chosen : Channel → Bool} {inputs : Channel → ChannelInputs} {zones : Table 24 ZoneRec} {v : Int}
    (stands : ∀ n, chosen n = true → InputsStand s n (inputs n)) :
    (s.deliverFull chosen fun n j => fullResult (inputs n) (zones.get j) v).Taps := by
  have delivered (n : Channel) (j : Zone) (on : chosen n = true) :=
    Crosspoint.deliver_taps (h.taps n j) (live := s.live n j) (fun live => h.live_within live j) (s.settings.fadeLength j)
      (r := fullResult (inputs n) (zones.get j) v) fun d mem => by
        rw [← (stands n on).1]
        exact fullResult_delay d mem
  have crosspoint := fun n j => State.deliverFull_get (s := s) (chosen := chosen)
    (result := fun n j => fullResult (inputs n) (zones.get j) v) n j
  have eq := s.deliverFull_eq chosen fun n j => fullResult (inputs n) (zones.get j) v
  generalize s.deliverFull chosen (fun n j => fullResult (inputs n) (zones.get j) v) = t at crosspoint eq
  have settings : t.settings = s.settings := (congrArg State.settings eq).trans rfl
  have gates : t.gates = s.gates := (congrArg State.gates eq).trans rfl
  have groups : t.groups = s.groups := (congrArg State.groups eq).trans rfl
  have flight : t.engine.flight = s.engine.flight := congrArg (fun u => u.engine.flight) eq
  have queue : t.engine.queue = s.engine.queue := congrArg (fun u => u.engine.queue) eq
  have aligned : t.engine.aligned = s.engine.aligned.map fun n b => chosen n || b := congrArg (fun u => u.engine.aligned) eq
  have mix : t.mix = s.mix := by rw [State.mix, State.mix, gates, groups]
  have within (n : Channel) (near : s.Within n) : t.Within n := fun j => by
    rw [crosspoint, settings]
    split
    case isTrue on => exact (delivered n j on).2 (by have := near j; omega) (.inl (near j))
    case isFalse => exact near j
  refine ⟨fun n j => ?_, mix ▸ h.held.mono within, fun n flag station long j => ?_, ?_, ?_⟩
  · rw [crosspoint, settings]
    split
    case isTrue on => exact (delivered n j on).1
    case isFalse => exact h.taps n j
  · rw [settings] at long
    rw [gates] at station
    rw [aligned, Table.get_map] at flag
    rw [crosspoint, settings]
    split
    case isTrue on =>
      refine (delivered n j on).2 long (.inr (fullResult_delay_isSome ?_))
      rw [(stands n on).2]
      exact station
    case isFalse off =>
      rw [Bool.eq_false_iff.mpr off, Bool.false_or] at flag
      exact h.aligned n flag station long j
  · unfold InputsStand Requeued
    rw [flight, settings, gates, queue]
    exact h.channel
  · unfold InputsStand Requeued
    rw [flight, settings, gates, queue]
    exact h.all

theorem deliverLevels (h : s.Taps) (m : MemberInputs) (level : Zone → Option Nat) : (s.deliverLevels m level).Taps :=
  h.onEach fun k j => by
    by_cases same : m.channel = k
    · subst same
      rw [Table.get_modify_self, Table.get_map]
      obtain ⟨taps, active⟩ := Crosspoint.deliverLevel_taps (h.taps m.channel j) (fun live => h.live_within live j)
        (s.settings.fadeLength j) (level j)
      rw [active]
      exact ⟨taps, id⟩
    · rw [Table.get_modify_other _ _ same]
      exact ⟨h.taps k j, id⟩

end State.Taps

end Sys2Proof.Machine
end

section
/-! SUPPORT. The law of taps through the gates, the arbiter and the writes that act on them (R12, R13, R85 to R98, R105, R109,
R120, R165, R167 to R169). -/

namespace Sys2Proof.Machine

open Sys2Proof.Safety

variable {s t : State} {n : Channel}

theorem Settings.window_pos {c : Settings} (length : (c.channels.get n).length ≠ 0) : 0 < c.window n :=
  Nat.mul_pos (Nat.pos_of_ne_zero length) (by decide)

namespace State.Taps

/-! ### Eligibility and modes -/

theorem reEvaluate (h : s.Taps) (n : Channel) : (s.reEvaluate n).Taps := by
  unfold State.reEvaluate
  split
  case isTrue able =>
    split
    case isTrue rests =>
      obtain ⟨-, station, length, -⟩ := (State.eligible_iff ..).mp able
      refine h.onMix (h.held.leaveParked _ (h.aligned n rests.2 station (Settings.window_pos length))) ?_
      exact ((Mix.Frame.refl EventMask.kinds _).leaveParked Mix.postsGates_all _ n).station
    case isFalse => exact h
  case isFalse =>
    split
    · exact h
    · exact h.onMix (h.held.leave _ fun _ up => absurd rfl up)
        ((Mix.Frame.refl EventMask.kinds _).leave Mix.postsGates_all _ n _).station

theorem reEvaluateAll (h : s.Taps) (ns : List Channel) : (s.reEvaluateAll ns).Taps :=
  List.foldlRecOn (motive := State.Taps) _ _ h fun _ now n _ => now.reEvaluate n

theorem parkIneligible (h : s.Taps) (ns : List Channel) : (s.parkIneligible ns).Taps := by
  refine List.foldlRecOn (motive := State.Taps) _ _ h fun u now n _ => ?_
  split
  · exact now
  · exact now.onMix (now.held.leaveQuietly fun _ up => absurd rfl up)
      ((Mix.Frame.refl EventMask.kinds _).leaveQuietly Mix.postsGates_all n _).station

theorem socketEvent (h : s.Taps) (n : Channel) (before : State) : (s.socketEvent n before).Taps := (h.reEvaluate n).settle before

theorem reMode (h : s.Taps) (n : Channel) : (s.reMode n).Taps :=
  h.onMix (h.held.setMode _ n _) (Mix.setMode_station _ n _ _)

theorem reAct (h : s.Taps) (a : ContactAction) : (s.reAct a).Taps := by
  cases a with
  | forceOpenWhile n => exact h.reMode n
  | forceClosedWhile n => exact h.reMode n
  | zoneMuteWhile j => exact h.same rfl rfl rfl rfl rfl
  | none | move | arrange => exact h

theorem setPortMode (h : s.Taps) (n : Channel) (mode : GateMode) : (s.setPortMode n mode).Taps := by
  have stored : (s.storeMode n mode).Taps := h.onGates (Table.get_modify_congr _ Gate.state (by exact fun _ => rfl))
    (Table.get_modify_congr _ Gate.station (by exact fun _ => rfl))
  rw [State.setPortMode_eq]
  split
  case isTrue asks =>
    have mine : (s.storeMode n mode).Within n :=
      stored.held.gates n (by
        rw [show ((s.storeMode n mode).mix.gates.get n).state = .closed from
          (Table.get_modify_congr _ Gate.state (by exact fun _ => rfl) n).trans asks.1]
        decide)
    refine stored.onMix ((stored.held.onGate n fun _ => mine).askForced _ mine) fun k => ?_
    refine (((Mix.Frame.refl EventMask.kinds _).askForced Mix.postsGates_all _ n).station k).trans ?_
    exact Table.get_modify_congr _ Gate.station (by exact fun _ => rfl) k
  case isFalse => exact stored.reMode n

theorem takeMeasurement (h : s.Taps) (n : Channel) (l : Nat) : (s.takeMeasurement n l).Taps := by
  have taken : (s.takeBlock n).Taps := h.onGates (Table.get_modify_congr _ Gate.state (by exact fun _ => rfl))
    (Table.get_modify_congr _ Gate.station (by exact fun _ => rfl))
  rw [State.takeMeasurement_eq]
  refine (taken.onMix (taken.held.measure _ n l) fun k => ?_).settle s
  refine (((Mix.Frame.refl EventMask.kinds _).actOn Mix.postsGates_all (by decide) _ n l).station k).trans ?_
  exact Table.get_modify_congr _ Gate.station (by exact fun _ => rfl) k

/-! ### Moves and windows -/

/-- A channel that is asked for, its flag cleared: its window and its station may have changed. -/
theorem retuned (h : s.Taps) {u : State} (engine : u.engine = s.engine)
    (window : ∀ k, n ≠ k → u.settings.window k = s.settings.window k)
    (station : ∀ k, n ≠ k → (u.gates.get k).station.isSome = (s.gates.get k).station.isSome)
    (taps : ∀ k j, TapsWithin (u.settings.window k) ((u.crosspoints.get k).get j))
    (near : ∀ k, n ≠ k → s.Within k → u.Within k) (held : u.mix.Held u.Within) : (u.askChannel n).Taps := by
  have flag (k : Channel) (on : (u.askChannel n).engine.aligned.get k = true) : n ≠ k ∧ s.engine.aligned.get k = true := by
    change (u.engine.aligned.set n false).get k = true at on
    by_cases same : n = k
    · subst same
      rw [Table.get_set_self] at on
      cases on
    · rw [Table.get_set_other _ _ same, engine] at on
      exact ⟨same, on⟩
  have queue : (u.askChannel n).engine.queue = mergeItem (.channel n) s.engine.queue := by rw [← engine]; rfl
  refine h.next ⟨fun k => ?_, fun k on => ?_, (congrArg Engine.flight engine :), fun k asked => ?_⟩ taps (fun k on => near k (flag k on).1)
    held
  · by_cases same : n = k
    · subst same
      unfold Requeued
      rw [queue]
      exact .inr (mem_mergeItem _ _)
    · exact .inl ⟨window k same, station k same⟩
  · exact ⟨(flag k on).2, window k (flag k on).1, station k (flag k on).1⟩
  · unfold Requeued
    rw [queue]
    exact asked.imp mem_mergeItem_of_mem mem_mergeItem_of_mem

theorem moveTo (h : s.Taps) (n : Channel) (st : Option Station) : (s.moveTo n st).Taps := by
  rw [State.moveTo_eq]
  refine State.Taps.reEvaluate (h.retuned (u := s.setStation n st) rfl (fun _ _ => rfl) (fun k apart => ?_) h.taps
    (fun _ _ => id) ?_) n
  · exact congrArg (fun g : Gate => g.station.isSome) (Table.get_modify_other _ _ apart)
  · exact h.held.same (Table.get_modify_congr _ Gate.state (by exact fun _ => rfl)) (fun _ => rfl) fun _ => rfl

/-- Settings that leave every window. -/
theorem onSettings (h : s.Taps) {f : Settings → Settings} (window : ∀ n, (f s.settings).window n = s.settings.window n) :
    (s.onSettings f).Taps := by
  have within (n : Channel) (near : s.Within n) : (s.onSettings f).Within n := fun j => by
    change _ < (f s.settings).window n
    rw [window]
    exact near j
  refine h.next ⟨fun n => .inl ⟨window n, rfl⟩, fun n flag => ⟨flag, window n, rfl⟩, rfl, fun _ => id⟩ (fun n j => ?_)
    (fun n _ => within n) (h.held.mono within)
  change TapsWithin ((f s.settings).window n) _
  rw [window]
  exact h.taps n j

theorem storeChannel (h : s.Taps) {r : ChannelRec} (window : (s.settings.channels.get n).sameWindow r ∨ s.windowBusy n = false) :
    (s.storeChannel n r).Taps := by
  have powered {u : State} (now : u.Taps) (b : ChannelRec) : (u.autoPowerOn n b r).Taps := by
    unfold State.autoPowerOn
    split
    · exact now.same rfl rfl rfl rfl rfl
    · exact now
  have other (k : Channel) (apart : n ≠ k) :
      Settings.window { s.settings with channels := s.settings.channels.set n r } k = s.settings.window k := by
    unfold Settings.window
    rw [Table.get_set_other _ _ apart]
  unfold State.storeChannel
  refine powered ?_ _
  split
  case isTrue same =>
    refine h.onSettings fun k => ?_
    by_cases at_ : n = k
    · subst at_
      unfold Settings.window
      rw [Table.get_set_self, ChannelRec.windowSamples, same.2]
      rfl
    · exact other k at_
  case isFalse moved =>
    have idle := window.resolve_left moved
    unfold State.windowBusy at idle
    simp only [Bool.or_eq_false_iff, List.any_eq_false, List.mem_finRange, true_implies, bne_iff_ne, ne_eq,
      Decidable.not_not] at idle
    obtain ⟨apart, silent⟩ := idle
    have none : memberGroup s.groups n = none := by
      rw [← Option.not_isSome_iff_eq_none, apart]
      exact Bool.false_ne_true
    refine h.retuned rfl other (fun k same => ?_) (fun k j => ?_) (fun k same near j => ?_) ?_
    · exact congrArg (fun g : Gate => g.station.isSome) (Table.get_modify_other _ _ same)
    · by_cases same : n = k
      · subst same
        exact tapsWithin_of_silent (silent j)
      · change TapsWithin (Settings.window { s.settings with channels := s.settings.channels.set n r } k) _
        rw [other k same]
        exact h.taps k j
    · change _ < Settings.window { s.settings with channels := s.settings.channels.set n r } k
      rw [other k same]
      exact near j
    · have within (k : Channel) (same : n ≠ k) (near : s.Within k) : State.Within
          (({ s.onSettings (fun x => { x with channels := x.channels.set n r }) with delay := s.delay.newWindow r n } : State).onMix
            fun m => (m.unwait n).setState n .parked) k := fun j => by
        change _ < Settings.window { s.settings with channels := s.settings.channels.set n r } k
        rw [other k same]
        exact near j
      refine ⟨fun k up => ?_, fun g y member => ?_, fun g k listed => ?_⟩
      · change (((s.mix.unwait n).setState n .parked).gates.get k).state ≠ .parked at up
        rw [Mix.setState_get] at up
        split at up
        case isTrue => exact absurd rfl up
        case isFalse same => exact within k same (h.held.gates k up)
      · change y ∈ ((s.mix.unwait n).groups.get g).members at member
        rw [Mix.unwait_groups_get] at member
        exact within _ (fun same => (memberGroup_eq_none _ _).mp none g y member same.symm) (h.held.members g y member)
      · change k ∈ ((s.mix.unwait n).groups.get g).waiting at listed
        rw [Mix.unwait_groups_get] at listed
        obtain ⟨inside, other⟩ := List.mem_filter.mp listed
        exact within k (fun same => by simp [same] at other) (h.held.waiting g k inside)

/-! ### Groups, memberships, arrangements -/

theorem groupDisabled (h : s.Taps) (g : Group) : (s.groupDisabled g).Taps := by
  refine State.Taps.parkIneligible (s := { s with groups := s.groups.modify g fun x => { x with waiting := [] } })
    (h.onGroups (fun k y member => ?_) fun k c listed => ?_) _
  · rwa [Table.get_modify_congr s.groups GroupState.members (by exact fun _ => rfl) k] at member
  · by_cases same : g = k
    · subst same
      rw [Table.get_modify_self] at listed
      cases listed
    · rwa [Table.get_modify_other _ _ same] at listed

theorem groupResized (h : s.Taps) (g : Group) (before after : Nat) : (s.groupResized g before after).Taps := by
  unfold State.groupResized
  split
  · exact h
  · split
    · exact h.onMix (h.held.offer _ g) ((Mix.Frame.refl EventMask.kinds _).offer Mix.postsGates_all _ g).station
    · exact h.onMix (f := fun m => (m.fitOpenSet after g).offer s.settings g) ((h.held.fitAuto after g _).offer _ g)
        (((Mix.Frame.refl EventMask.kinds _).fitAuto Mix.postsGates_all _ g _).offer Mix.postsGates_all _ g).station

theorem groupHoldCleared (h : s.Taps) (g : Group) : (s.groupHoldCleared g).Taps :=
  h.onMix (f := fun m => (m.dropLastOn g).offer s.settings g) ((h.held.dropLastOn g).offer _ g)
    (((Mix.Frame.refl EventMask.kinds _).dropLastOn Mix.postsGates_all g).offer Mix.postsGates_all _ g).station

theorem ite {x : Prop} [Decidable x] {u : State} (h : s.Taps) (k : u.Taps) : State.Taps (if x then s else u) := by
  split
  · exact h
  · exact k

theorem groupEffects (h : s.Taps) (g : Group) (before after : GroupRec) : (s.groupEffects g before after).Taps := by
  have disabled := State.Taps.ite (x := before.enabled ∧ ¬after.enabled) (h.groupDisabled g) h
  have enabled := State.Taps.ite (x := ¬before.enabled ∧ after.enabled) (disabled.reEvaluateAll (s.settings.channelsOf g)) disabled
  have resized := enabled.groupResized g before.maxOpen after.maxOpen
  have released := State.Taps.ite (x := before.lastHold ∧ ¬after.lastHold) (resized.groupHoldCleared g) resized
  exact .ite released (released.askGroup g)

theorem storeGroup (h : s.Taps) (k : Arrangement) (g : Group) (r : GroupRec) : (s.storeGroup k g r).Taps := by
  have stored : (s.onSettings (Settings.setGroup k g r)).Taps := h.onSettings fun _ => rfl
  unfold State.storeGroup
  exact .ite ((stored.groupEffects g _ r).settle s) stored

theorem changeGroup (h : s.Taps) (n : Channel) : (s.changeGroup n).Taps := by
  have frame : Mix.Frame EventMask.kinds s.mix (s.mix.leaveOldGroup s.settings n) := by
    unfold Mix.leaveOldGroup
    exact .ite ((Mix.Frame.refl _ _).leave Mix.postsGates_all _ n _) ((Mix.Frame.refl _ _).unwait n)
  have left : (s.onMix (Mix.leaveOldGroup s.settings n)).Taps := h.onMix (h.held.leaveOldGroup _ n) frame.station
  have turned := ((left.askCounts s).askChannel n).reEvaluate n
  have asked (m : Mix) : Mix.Frame EventMask.kinds m (m.askIfForced s.settings n) := by
    unfold Mix.askIfForced
    exact .ite ((Mix.Frame.refl _ _).askForced Mix.postsGates_all _ n) (.refl ..)
  exact turned.onMix (turned.held.askIfForced _ n) (asked _).station

theorem storeMembership (h : s.Taps) (k : Arrangement) (x : Zone ⊕ Channel) (g : Option Group) : (s.storeMembership k x g).Taps := by
  have stored : (s.onSettings (Settings.setMembership k x g)).Taps := h.onSettings fun n => by cases x <;> rfl
  unfold State.storeMembership
  refine .ite stored ?_
  cases x with
  | inl j => exact stored.settle s
  | inr n => exact (stored.changeGroup n).settle s

theorem switchTo (h : s.Taps) (k : Arrangement) : (s.switchTo k).Taps := by
  have selected : (s.select k).Taps := h.onSettings (f := fun c => { c with active := k }) fun _ => rfl
  have taken : Mix.Frame EventMask.kinds (s.select k).mix ((s.select k).mix.takeMoved (s.changesGroup k)) :=
    .foldl (.refl ..) (fun n u => .ite (.ite (u.leaveQuietly Mix.postsGates_all n _) (u.unwait n)) u) _
  have switched : (s.switched k).Taps :=
    ((selected.onMix (selected.held.takeMoved _) taken.station).parkIneligible (List.finRange 16)).askAll
  rw [State.switchTo_eq]
  generalize s.switched k = done at switched
  exact (switched.onMix (switched.held.fitAll _ _) (Mix.fitAll_station _ _ _)).post _

/-! ### Standby and the resets -/

theorem freshDetectors (h : s.Taps) : s.freshDetectors.Taps :=
  h.onGates (fun n => by rw [Table.get_map]) fun n => by rw [Table.get_map]

theorem emptyWaiting (h : s.Taps) : s.emptyWaiting.Taps :=
  h.onGroups (fun g y member => by rwa [Table.get_map] at member) fun g n listed => by
    rw [Table.get_map] at listed
    cases listed

theorem onSockets (h : s.Taps) (f : Channel → Socket → Socket) : (s.onSockets f).Taps := h.same rfl rfl rfl rfl rfl

theorem onZones (h : s.Taps) (f : Zone → ZoneState → ZoneState) : (s.onZones f).Taps := h.same rfl rfl rfl rfl rfl

theorem enterStandby (h : s.Taps) : s.enterStandby.Taps := by
  have asleep : State.Taps { s with standby := true } := h.same rfl rfl rfl rfl rfl
  exact (((asleep.onZones _).emptyWaiting.freshDetectors.onSockets _).parkIneligible (List.finRange 16)).settleClock s _

theorem leaveStandby (h : s.Taps) : s.leaveStandby.Taps := by
  have awake : State.Taps { s with standby := false, delay := .silent } := h.same rfl rfl rfl rfl rfl
  exact ((((awake.onZones _).freshDetectors.onSockets _).retargetClock _).reEvaluateAll (List.finRange 16)).settle s

/-- A reset: no sound, no channel up, no item in flight and no flag (R58, R76, R101). -/
theorem of_reset (silent : ∀ n j, ((s.crosspoints.get n).get j).phase = .silent) (parked : ∀ n, (s.gates.get n).state = .parked)
    (empty : ∀ g, (s.groups.get g).members = [] ∧ (s.groups.get g).waiting = []) (flags : ∀ n, s.engine.aligned.get n = false)
    (flight : s.engine.flight = none) : s.Taps where
  taps n j := tapsWithin_of_silent (silent n j)
  held := by
    refine ⟨fun k up => absurd (parked k) up, fun g y member => ?_, fun g k listed => ?_⟩
    · rw [show (s.mix.groups.get g).members = [] from (empty g).1] at member
      cases member
    · rw [show (s.mix.groups.get g).waiting = [] from (empty g).2] at listed
      cases listed
  aligned n flag := by
    rw [flags] at flag
    cases flag
  channel n i zones v due := by
    rw [flight] at due
    cases due
  all i zones v due := by
    rw [flight] at due
    cases due

theorem runtimeReset (s : State) (p : Port) : (s.runtimeReset p).Taps := by
  refine of_reset (fun n j => ?_) (fun n => ?_) (fun g => ?_) (fun n => ?_) rfl
  · rw [State.runtimeReset, Table.get_ofFn, Table.get_ofFn]
    rfl
  · rw [State.runtimeReset, Table.get_ofFn]
    rfl
  · rw [State.runtimeReset, Table.get_ofFn]
    exact ⟨rfl, rfl⟩
  · change (Table.ofFn fun _ => false).get n = false
    rw [Table.get_ofFn]

theorem powerOn (c : Settings) (presence : Table 16 Bool) (line : Bool) (closed : Table 8 Bool) (pending : List Instr) :
    (State.powerOn c presence line closed pending).Taps := by
  refine of_reset (fun n j => ?_) (fun n => ?_) (fun g => ?_) (fun n => ?_) rfl
  · rw [State.powerOn, Table.get_ofFn, Table.get_ofFn]
    rfl
  · rw [State.powerOn, Table.get_ofFn]
    rfl
  · rw [State.powerOn, Table.get_ofFn]
    exact ⟨rfl, rfl⟩
  · change (Table.ofFn fun _ => false).get n = false
    rw [Table.get_ofFn]

end State.Taps

end Sys2Proof.Machine
end

section
/-! PROOFS. No sounding crosspoint reads beyond its window (R70). -/

namespace Sys2Proof.Machine

open Sys2Proof.Safety

variable {s t : State}

namespace State.Taps

theorem reportTemperature (h : s.Taps) (v : Int) : (s.reportTemperature v).Taps := by
  have told : State.Taps { s with engine := { s.engine with reported := v, tempUnset := false } } :=
    h.onEngine rfl (fun _ => id) fun _ => id
  exact .ite told.askAll told

theorem applyContact (h : s.Taps) (k : ContactIn) : (s.applyContact k).Taps := by
  unfold State.applyContact
  split
  · exact .ite (h.moveTo _ _) h
  · exact .ite (h.switchTo _) h
  · exact h.reAct _

theorem storeContactIn (h : s.Taps) (k : ContactIn) (b : ContactBinding) : (s.storeContactIn k b).Taps := by
  have stored : (s.onSettings fun c => { c with contactIn := c.contactIn.set k b }).Taps := h.onSettings fun _ => rfl
  exact ((stored.reAct _).reAct _).settle s

theorem storeStation (h : s.Taps) (k : Station) (r : StationRec) : (s.storeStation k r).Taps := by
  have stored : (s.onSettings fun c => { c with stations := c.stations.set k r }).Taps := h.onSettings fun _ => rfl
  exact .ite stored (stored.askChannels _)

theorem storeZone (h : s.Taps) (j : Zone) (r : ZoneRec) : (s.storeZone j r).Taps := by
  have stored : (s.onSettings fun c => { c with zones := c.zones.set j r }).Taps := h.onSettings fun _ => rfl
  exact .ite stored stored.askAll

theorem storeRouting (h : s.Taps) (q : Port) (r : Routing) : (s.storeRouting q r).Taps := by
  have stored : (s.onSettings fun c => { c with routing := c.routing.set q r }).Taps := h.onSettings fun _ => rfl
  exact .ite stored (stored.same rfl rfl rfl rfl rfl)

theorem storeSystem (h : s.Taps) (r : SystemRec) : (s.storeSystem r).Taps := by
  have stored : (s.onSettings fun c => { c with system := r }).Taps := h.onSettings fun _ => rfl
  exact .ite stored (stored.same rfl rfl rfl rfl rfl)

theorem setHolder (h : s.Taps) (g : Group) (x : Option Port) : (s.setHolder g x).Taps := by
  refine h.onGroups (fun k y member => ?_) fun k n listed => ?_
  · rwa [Table.get_modify_congr s.groups GroupState.members (by exact fun _ => rfl) k] at member
  · rwa [Table.get_modify_congr s.groups GroupState.waiting (by exact fun _ => rfl) k] at listed

theorem onZone (h : s.Taps) (j : Zone) (f : ZoneState → ZoneState) : (s.onZone j f).Taps := h.same rfl rfl rfl rfl rfl

theorem onOverride (h : s.Taps) (f : Override → Override) : (s.onOverride f).Taps := h.same rfl rfl rfl rfl rfl

theorem onClock (h : s.Taps) (f : Clock → Clock) : (s.onClock f).Taps := h.same rfl rfl rfl rfl rfl

theorem onContact (h : s.Taps) (k : ContactIn) (f : Contact → Contact) : (s.onContact k f).Taps := h.same rfl rfl rfl rfl rfl

theorem onSocket (h : s.Taps) (n : Channel) (f : Socket → Socket) : (s.onSocket n f).Taps := h.same rfl rfl rfl rfl rfl

theorem sendFeeds (h : s.Taps) : s.sendFeeds.Taps :=
  .ite (h.same rfl rfl rfl rfl rfl) (h.same rfl rfl rfl rfl rfl)

theorem input (h : s.Taps) {gates : Table 16 Gate} {delay : DelayMemory} {announcement : Sample}
    (states : ∀ n, (gates.get n).state = (s.gates.get n).state) (station : ∀ n, (gates.get n).station = (s.gates.get n).station) :
    State.Taps { s with delay := delay, gates := gates, announcement := announcement } :=
  State.Taps.same (s := { s with gates := gates }) (h.onGates states station) rfl rfl rfl rfl rfl

theorem tick (h : s.Taps) : s.tick.Taps := h.same rfl rfl rfl rfl rfl

end State.Taps

/-- Every command's act keeps the law of taps. -/
theorem Act.taps {c : Instr} {s t : State} (act : Act c s t) (h : s.Taps) : t.Taps := by
  have plain {u : State} (crosspoints : u.crosspoints = s.crosspoints) (gates : u.gates = s.gates) (groups : u.groups = s.groups)
      (channels : u.settings.channels = s.settings.channels) (engine : u.engine = s.engine) : u.Taps :=
    h.same crosspoints gates groups channels engine
  cases act with
  | nothing => exact h
  | station => exact h.storeStation _ _
  | zone => exact h.storeZone _ _
  | channel _ window => exact h.storeChannel (window.imp_right And.left)
  | group => exact h.storeGroup _ _ _
  | membership => exact h.storeMembership _ _ _
  | contactIn => exact h.storeContactIn _ _
  | routing => exact h.storeRouting _ _
  | system => exact h.storeSystem _
  | moveSource => exact (h.moveTo _ _).settle s
  | gateMode => exact (h.setPortMode _ _).settle s
  | temperature => exact h.reportTemperature _
  | temperatureClamped => exact (h.reportTemperature _).post _
  | arrangement => exact (h.switchTo _).settle s
  | hold | release => exact h.setHolder _ _
  | breakHold => exact (h.setHolder _ none).same rfl rfl rfl rfl rfl
  | mute => exact (h.onZone _ _).settle s
  | resume => exact (((h.onOverride _).onZones _).post _).settle s
  | rearm => exact (h.onZones _).settleClock s _
  | clockSilenced => exact (((h.onClock _).post _).onZones _).settleClock s _
  | socketOn | socketOff | resense => exact (h.onSocket _ _).socketEvent _ s
  | rampedUp | overcurrent => exact ((h.onSocket _ _).post _).socketEvent _ s
  | sensingEnd =>
    have latched (x : Socket → Socket) (n : Channel) := (h.onSocket n x).post .socketChange
    exact (State.Taps.ite (latched _ _) ((latched _ _).onSocket _ _)).socketEvent _ s
  | removal =>
    have removed (x : Socket → Socket) (n : Channel) := (h.onSocket n x).post .socketChange
    exact (State.Taps.ite ((removed _ _).post _) (removed _ _)).socketEvent _ s
  | standby => exact h.enterStandby
  | wake => exact h.leaveStandby
  | runtimeReset | resetAtEnd => exact State.Taps.runtimeReset s _
  | powerOnReset => exact State.Taps.powerOn _ _ _ _ _
  | itemStart => exact h.startItem _ _
  | channelDropped | allDropped => exact h.nextItem
  | channelDelivered due stands =>
    refine (((h.deliverFull fun k chosen => ?_).reEvaluate _).settle s).nextItem
    cases beq_iff_eq.mp chosen
    exact (h.channel _ _ _ _ due).resolve_right stands
  | allDelivered due stands =>
    refine (((h.deliverFull fun k chosen => ?_).reEvaluateAll _).settle s).nextItem
    refine (h.all _ _ _ due k).resolve_right fun asked => asked.elim (fun mem => ?_) stands
    rw [List.contains_iff_mem.mpr mem] at chosen
    cases chosen
  | groupDelivered =>
    exact (List.foldlRecOn (motive := State.Taps) _ _ h fun _ now m _ => now.deliverLevels m _).nextItem
  | measurement => exact h.takeMeasurement _ _
  | asserted => exact ((((h.onOverride _).onOverride _).takeOver _).post _).settle s
  | deasserted => exact ((((h.onOverride _).onOverride _).onZones _).post _).settle s
  | contact => exact (((h.onContact _ _).post _).applyContact _).settle s
  | rampEnd => exact h.onCrosspoint _ _ fun w x => Crosspoint.endRamp_taps
  | crossfadeEnd => exact h.onCrosspoint _ _ fun w x near => Crosspoint.endCrossfade_taps near _
  | output =>
    have ended := h.onCrosspoints fun w len x near => Crosspoint.endFade_taps near len
    exact (ended.onCrosspoints fun w _ x => Crosspoint.advance_taps).sendFeeds.tick
  | input =>
    refine h.input (fun n => ?_) fun n => ?_
    all_goals
      split
      · rfl
      · rw [Table.get_map]
  | profile | contactOut | faulted | socketRefused | clearEvents | forceEvents | freeze | held | insertion | lineHeard |
    lineReleased | clockEdge | qualified | gapPassed | clockLost | pulseEnd | rawPresence | rawLine | rawContact =>
    exact plain rfl rfl rfl rfl rfl

/-- Settles O53: the law of taps with who may sound — the members, the waiting and the channels that are up — is kept by every
operation of an event, and every command is made of such operations. -/
theorem everyStepKeepsTapsWithinWindows : Obligations.EveryStepKeepsTapsWithinWindows := by
  unfold Obligations.EveryStepKeepsTapsWithinWindows
  intro s t law group _ _ h
  have taps : s.Taps := .of_tapLaw law group
  refine (step_keeps (P := State.Taps) (fun s q now => ?_) (fun s p now => ?_) (fun act now => act.taps now) taps h).tapLaw
  all_goals exact now.same rfl rfl rfl rfl rfl

end Sys2Proof.Machine
end
